-- ==== Sys2Proof/Word.lean ====
section
/-! DEFINITION. The machine words of the D340 (11 R173: fields of 1, 2 and 4 bytes; 1.1: conversion codes of 0..4095). -/

namespace Sys2Proof

/-- One byte of a frame. -/
abbrev Byte := BitVec 8

/-- A 2-byte field. -/
abbrev Half := BitVec 16

/-- A 4-byte field, a settings word, a reference time. -/
abbrev Word := BitVec 32

/-- A conversion code, 0..4095 (1.1). -/
abbrev Code := BitVec 12

end Sys2Proof
end

