-- ==== Sys2Proof/Config.lean ====
section
/-! DEFINITION. What the part fixes: the capacities of 00_scope.md, section Capacities, and the one free value, a point
on which two rules of the spec say opposite things. -/

namespace Sys2Proof.Config

/-- Ring per link, in records (R145). -/
def ringCapacity : Nat := 128

/-- Posted blocks per link (R146). -/
def postedCapacity : Nat := 2

/-- Request queue per link (R167). -/
def queueCapacity : Nat := 2

/-- Revolution history, in records (R51). -/
def revolutionHistory : Nat := 8

/-- S history, in values (R31). -/
def sHistory : Nat := 8

/-- Largest payload of a frame, in bytes (R165). -/
def maxPayload : Nat := 249

/-- What a stage's switch-on leaves of the stuck report: R87 says that it disarms it, R92 that it arms it. A free value:
nothing here says which (log entry 12). -/
opaque armedBySwitchOn : Bool

end Sys2Proof.Config
end

