-- ==== Sys2Proof/Syntax.lean ====
section
/-! DEFINITION. The commands of the D340: one constructor of `Instr` for each row of spec/opcode_table.json,
in the table's order. The table gives no operands; each constructor carries those the rule of its row names. -/

namespace Sys2Proof

/-- The two serial links (chapter 10). -/
inductive Link where
  | a  -- the A-link, to the host
  | s  -- the S-link, to the service tool
  deriving DecidableEq, Repr

/-- A heater stage; `0` is stage 1 (chapter 5). -/
abbrev StageNo := Fin 4

/-- The actuators that have a test timer (R124). -/
inductive Actuator where
  | stage (n : StageNo)
  | fan
  | drum
  deriving DecidableEq, Repr

/-- How far a store in progress had got when the supply or RST stopped it (R162). -/
inductive StopPoint where
  | beforeErase                    -- the old words still stand
  | partway (programmed : Nat)     -- erased, with this many of its words programmed, not all
  | allProgrammed                  -- every word programmed, completion not taken
  deriving DecidableEq, Repr

/-- The commands. A request's row names the link it came in on and carries its arguments in the order and
widths of R174; a conversion carries its code; a pin change its new level. -/
inductive Instr where
  | powerOn (stop : StopPoint)
  | rst (stop : StopPoint)
  | settingsLoadComplete
  | startupRoundConversion (code : Code)
  | startupRoundComplete
  | fastConversion (bar motor : Code)
  | slowConversion (code : Code)
  | measure (l : Link)
  | roundConversion (code : Code)
  | read (l : Link) (quantities : List Byte)
  | windowEnd
  | revolutionPulse
  | stillTimeout
  | restMinimumExpiry
  | stepEnd
  | burstTimeExpiry
  | stallDeadlineExpiry
  | restCheckExpiry
  | ivfChange (active : Bool)
  | recheckDeadlineExpiry
  | controlPeriod
  | onTimeSecond (n : StageNo)
  | pauseAllowanceExpiry
  | afterRunExpiry
  | airflowSwitchChange (closed : Bool)
  | proofDeadlineExpiry
  | graceDeadlineExpiry
  | testStageMinOffExpiry (n : StageNo)
  | testStageMinOnExpiry (n : StageNo)
  | doorOpens
  | doorCloses
  | cutoffOpens
  | cutoffCloses
  | dryingElapsedSecond
  | timeLimit
  | coolTime
  | guardTime
  | holdLimitExpiry
  | supervisionExpiry
  | silenceExpiry
  | testTimerExpiry (actuator : Actuator)
  | start (l : Link) (program : Byte)
  | pause (l : Link)
  | resume (l : Link)
  | abort (l : Link)
  | advance (l : Link)
  | clear (l : Link)
  | takeControl (l : Link)
  | test (l : Link) (actuator demand speed : Byte)
  | releaseControl (l : Link)
  | claimCapture (l : Link)
  | configure (l : Link) (unit : Byte) (sources : Half) (startForm startArg endForm : Byte) (endArg : Half)
      (decimation policy : Byte)
  | arm (l : Link) (unit : Byte)
  | stopCapture (l : Link) (unit : Byte)
  | releaseCapture (l : Link) (unit : Byte)
  | claimWatch (l : Link)
  | setWatch (l : Link) (unit quantity sense : Byte) (limit : Word) (hysteresis : Half) (mode action : Byte)
  | releaseWatch (l : Link) (unit : Byte)
  | post (l : Link) (tag size : Byte)
  | flush (l : Link) (tag : Byte)
  | cancel (l : Link) (tag : Byte)
  | set (l : Link) (block first : Byte) (values : List Word)
  | get (l : Link) (block first count : Byte)
  | store (l : Link) (block : Byte)
  | storeComplete
  | characterReceived (l : Link) (data : Byte) (parity stop : Bool)
  | gapExpiry (l : Link)
  | requestTake (l : Link)
  | resetLink (l : Link)
  | transmitBegin (l : Link)
  | transmitComplete (l : Link)
  | noticeCfg (l : Link) (enable : Half) (period : Byte)
  | ackNotice (l : Link) (kinds : Half)
  | periodicPeriodExpiry (l : Link)
  | linkStats (l : Link)
  | identify (l : Link)
  | status (l : Link)
  | lossOfSupply (stop : StopPoint)
  deriving DecidableEq, Repr

end Sys2Proof
end

