-- ==== Sys2Proof/WellFormed.lean ====
section
/-! DEFINITION. Which commands can come about. The widths of the operands are in their types; what is left is
that a request's arguments fit a frame of at most 249 payload bytes (R165) and its kind's lengths (R174), and
that a stop partway through a store has programmed fewer words than a block holds (R162; block 4, the longest,
has 64). An ill-formed request is still answered by `exec`, as BAD_ARG. -/

namespace Sys2Proof

/-- R162: a store stopped partway has programmed fewer words than its block holds. -/
def StopPoint.wf : StopPoint → Bool
  | .beforeErase => true
  | .partway k => k < 64
  | .allProgrammed => true

/-- R174: READ names 1 to 12 quantities. -/
def readLengthOk (quantities : List Byte) : Bool :=
  1 ≤ quantities.length && quantities.length ≤ 12

/-- R174: SET carries 1 to 32 values. -/
def setLengthOk (values : List Word) : Bool :=
  1 ≤ values.length && values.length ≤ 32

/-- A command that can come about. -/
def Instr.wf : Instr → Bool
  | .powerOn p => p.wf
  | .rst p => p.wf
  | .lossOfSupply p => p.wf
  | .read _ qs => readLengthOk qs
  | .set _ _ _ vs => setLengthOk vs
  | _ => true

end Sys2Proof
end

