-- ==== Sys2Proof/Machine/Defaults.lean ====
section
/-! DEFINITION. The built-in defaults of the seven settings blocks (9.1, 3.4, 6.2), as words packed by R180. -/

namespace Sys2Proof.Machine

/-- A signed field held as a 32-bit word (9.1). -/
def wordOfInt (x : Int) : Word := BitVec.ofInt 32 x

/-- A field of non-negative range held as a 32-bit word (9.1). -/
def wordOfNat (x : Nat) : Word := BitVec.ofNat 32 x

/-- Two 16-bit fields in one word, the first in bits 0..15 (R180). -/
def packHalves (low high : Nat) : Word := BitVec.ofNat 32 (low + 65536 * high)

/-- A pattern step word: action in bits 0..7, speed in 8..15, duration in 16..23 (R180). -/
def packStep (action speed duration : Nat) : Word :=
  BitVec.ofNat 32 (action + 256 * speed + 65536 * duration)

/-- The word of unused steps: REST at 20 rpm for 1 s (9.1). -/
def unusedStep : Word := packStep 0 20 1

/-- Block 0 (9.1): enables PHASE, HOLD, FAULT on A and none on S, periods 0, supervision 15 s, HOLD limit 30 min. -/
def defaultBlock0 : List Word := [25, 0, 0, 0, 15, 30, 0, 0].map wordOfNat

/-- The default linearisation points V[0] to V[16] (R4). -/
def defaultTable : List Int :=
  [2500, 1900, 1560, 1320, 1140, 1000, 900, 812, 701, 612, 528, 446, 362, 271, 166, 30, -400]

/-- Block 1 (9.1). -/
def defaultBlock1 : List Word :=
  defaultTable.map wordOfInt
    ++ [0, 0, 0, 100, 64, 50, 40, 200, 20, 1000, 0, 0, 0, 0, 0].map wordOfNat

/-- Block 2 (9.1). -/
def defaultBlock2 : List Word :=
  [10000, 3, 30, 4, 200, 20, 60, 3, 40, 20, 0, 0, 0, 0, 0, 0].map wordOfNat

/-- Block 3 (9.1). -/
def defaultBlock3 : List Word :=
  [1, 1, 1, 1, 20, 20, 20, 20, 87, 87, 87, 87, 40, 8, 10, 10, 1800, 1350, 4, 3, 0, 0, 0, 0].map wordOfNat

/-- One program at its defaults (6.2): patterns 0, 1 and 2, tangle enable yes, 4 stages in word +5. -/
def defaultProgramWords : List Word :=
  [wordOfNat 120, wordOfNat 700, packHalves 10 60, wordOfNat 380, packHalves 8 0,
   packHalves (0 + 4 * 1 + 16 * 2 + 256 * 1) 4, wordOfNat 250, wordOfNat 0]

/-- Block 4 (9.1): eight programs with the same defaults. -/
def defaultBlock4 : List Word := (List.replicate 8 defaultProgramWords).flatten

/-- A built-in pattern: run forward, rest, run in reverse, rest, then eight unused steps (3.4). A REST step's
speed is not stated; it takes the 20 rpm of the unused steps (log entry 17). -/
def defaultPatternWords (speed run rest : Nat) : List Word :=
  [wordOfNat 4, packStep 1 speed run, packStep 0 20 rest, packStep 2 speed run, packStep 0 20 rest]
    ++ List.replicate 8 unusedStep

/-- Block 5 (9.1, 3.4). -/
def defaultBlock5 : List Word :=
  defaultPatternWords 45 120 4 ++ defaultPatternWords 40 60 3
    ++ defaultPatternWords 30 10 110 ++ defaultPatternWords 50 180 5

/-- Block 6 (9.1). -/
def defaultBlock6 : List Word := List.replicate 4 0

/-- The defaults of block `b`, in every word (R155). -/
def defaultBlock (b : Nat) : List Word :=
  match b with
  | 0 => defaultBlock0
  | 1 => defaultBlock1
  | 2 => defaultBlock2
  | 3 => defaultBlock3
  | 4 => defaultBlock4
  | 5 => defaultBlock5
  | 6 => defaultBlock6
  | _ => []

/-- The number of words of block `b` (9.1). -/
def blockLength (b : Nat) : Nat :=
  match b with
  | 0 => 8
  | 1 => 32
  | 2 => 16
  | 3 => 24
  | 4 => 64
  | 5 => 52
  | 6 => 4
  | _ => 0

end Sys2Proof.Machine
end

