-- ==== Sys2Proof/Machine/State.lean ====
section
/-! DEFINITION. The state of the D340, block by block as 00_scope.md lists the blocks, and `State.reset`.
Internal times are `Nat` milliseconds of `clock`; what a link sees of a time is its 32-bit remainder (log entry
3). Times that are named deadlines hold the moment they fall due. -/

namespace Sys2Proof.Machine

/-! ### Containers of fixed size -/

/-- One value for each of the four heater stages, or of the four watch units. -/
structure Quad (α : Type) where
  q0 : α
  q1 : α
  q2 : α
  q3 : α
  deriving DecidableEq, Repr

/-- One value for each of the three capture units. -/
structure Triple (α : Type) where
  t0 : α
  t1 : α
  t2 : α
  deriving DecidableEq, Repr

/-- One value for each of the seven settings blocks. -/
structure Seven (α : Type) where
  b0 : α
  b1 : α
  b2 : α
  b3 : α
  b4 : α
  b5 : α
  b6 : α
  deriving DecidableEq, Repr

/-! ### Measurement front end (chapter 1) -/

/-- The six channels (1.1). -/
inductive Channel where
  | tIn | tExh | tHsg | iHeat | g | iMot
  deriving DecidableEq, Repr

/-- R10. -/
inductive Freshness where
  | none | fresh | stale | diag
  deriving DecidableEq, Repr

/-- R1. -/
inductive FrontMode where
  | onRequest | running
  deriving DecidableEq, Repr

/-- The outcome of a slow conversion, the status of its TEMP record (R5). -/
inductive TempStatus where
  | good | suspect | diag
  deriving DecidableEq, Repr

/-- One channel: its reading, and for a temperature its diagnosis (1.1, R5, R10). -/
structure ChannelState where
  value     : Int
  code      : Code
  time      : Word
  diag      : Bool
  outCount  : Nat
  goodCount : Nat
  freshA    : Freshness
  freshS    : Freshness
  deriving DecidableEq, Repr

/-- A measurement round (R12); `wanted` until its link is reset (R14). -/
structure Round where
  link        : Link
  outstanding : List Channel
  wanted      : Bool
  deriving DecidableEq, Repr

/-- The front end. `fastDue` and `slowDue` are the moments of the next conversions of the running schedule
(R2, R3); `startupDone` counts the conversions of the start-up round (R16). -/
structure Mfe where
  mode         : FrontMode
  tIn          : ChannelState
  tExh         : ChannelState
  tHsg         : ChannelState
  iHeat        : ChannelState
  g            : ChannelState
  iMot         : ChannelState
  rotation     : Channel
  lastPositive : Bool
  round        : Option Round
  fastDue      : Option Nat
  slowDue      : Option Nat
  startupDone  : Nat
  deriving DecidableEq, Repr

/-! ### Dryness estimator (chapter 2) -/

inductive Method where
  | bars | demand
  deriving DecidableEq, Repr

inductive EstimateState where
  | settling | tracking | declared
  deriving DecidableEq, Repr

/-- The open contact (2.1). `lastAbove` counts samples from the start sample, which is sample 0. -/
structure Contact where
  start     : Nat
  since     : Nat
  lastAbove : Nat
  below     : Nat
  peak      : Nat
  count     : Nat
  sum       : Nat
  deriving DecidableEq, Repr

/-- The window in progress (R22, R24). -/
structure Window where
  method : Method
  start  : Nat
  length : Nat
  a      : Nat
  sumG   : Nat
  n      : Nat
  turn   : Nat
  dCount : Nat
  dSum   : Nat
  burst  : Bool
  deriving DecidableEq, Repr

structure Dry where
  contact   : Option Contact
  window    : Option Window
  method    : Method
  barShort  : Bool
  estimate  : EstimateState
  m         : Nat
  s         : Nat
  dw        : Nat
  ds        : Nat
  streak    : Nat
  history   : List Nat
  remaining : Nat
  lastN     : Nat
  deriving DecidableEq, Repr

/-! ### Drum motion controller (chapter 3) -/

inductive Dir where
  | fwd | rev
  deriving DecidableEq, Repr

inductive Action where
  | rest | runFwd | runRev
  deriving DecidableEq, Repr

/-- A pattern step (3.4): speed in rpm, duration in s. -/
structure Step where
  action   : Action
  speed    : Nat
  duration : Nat
  deriving DecidableEq, Repr

/-- The motion states with the direction driven (3.1, R43). -/
inductive Motion where
  | idle
  | starting (d : Dir)
  | run (d : Dir)
  | rest
  | restIn
  | runOpp (d : Dir)
  | restOut
  deriving DecidableEq, Repr

/-- The current step. `index` is absent for a service test's step, which stands outside any pattern (R59). -/
structure CurrentStep where
  index   : Option Nat
  step    : Step
  waiting : Bool
  deriving DecidableEq, Repr

/-- The step a burst interrupted (R53). -/
structure Interrupted where
  index     : Nat
  step      : Step
  dir       : Dir
  speed     : Nat
  remaining : Nat
  deriving DecidableEq, Repr

/-- The revolution in progress (R51). -/
structure OpenRevolution where
  openedAt : Nat
  count    : Nat
  sum      : Nat
  min      : Nat
  max      : Nat
  deriving DecidableEq, Repr

/-- A revolution record (R51); the ripple is `max - min`. -/
structure Revolution where
  time : Nat
  min  : Nat
  max  : Nat
  mean : Nat
  deriving DecidableEq, Repr

/-- The failure-to-stop check of a rest (R57). -/
inductive RestCheck where
  | none
  | timing (due : Nat)
  | awaitingPulse
  | reported
  deriving DecidableEq, Repr

structure Dmc where
  motion      : Motion
  speed       : Nat
  lastDir     : Option Dir
  offTime     : Nat
  restMin     : Nat
  restMinDue  : Option Nat
  restEntry   : Option Nat
  pattern     : Option (List Step)
  current     : Option CurrentStep
  remaining   : Option Nat
  staged      : Option Nat
  interrupted : Option Interrupted
  burstDue    : Option Nat
  revolution  : Option OpenRevolution
  history     : List Revolution
  lastPulse   : Option Nat
  still       : Bool
  turning     : Bool
  stallDue    : Option Nat
  stallLength : Nat
  restCheck   : RestCheck
  deriving DecidableEq, Repr

/-! ### Tangle monitor (chapter 4) -/

structure Tgm where
  c           : Nat
  b           : Nat
  recheck     : Option Nat
  burst       : Bool
  outstanding : Bool
  capFlag     : Bool
  deriving DecidableEq, Repr

/-! ### Heat stage controller (chapter 5) -/

/-- A pending open-element test (R90). -/
structure PendingTest where
  baseline : Int
  after    : Option Int
  deriving DecidableEq, Repr

/-- One stage. `offWaived` is set at START, where every stage counts as off for min_off (R86). -/
structure Stage where
  on         : Bool
  switchTime : Nat
  offWaived  : Bool
  openMark   : Bool
  onTime     : Nat
  rem        : Nat
  test       : Option PendingTest
  testDemand : Bool
  deriving DecidableEq, Repr

inductive Airflow where
  | off | proving | proven | lost
  deriving DecidableEq, Repr

structure Hsc where
  d           : Nat
  i           : Nat
  nReq        : Nat
  stages      : Quad Stage
  inletCap    : Nat
  tangleCap   : Nat
  lockout     : Bool
  turning     : Bool
  turningEnd  : Option Nat
  spent       : Bool
  pauseDue    : Option Nat
  lastOn      : Option Nat
  stuckArmed  : Bool
  fanOn       : Bool
  fanDemand   : Bool
  afterRun    : Option Nat
  airflow     : Airflow
  proofDue    : Option Nat
  graceDue    : Option Nat
  energy      : Nat
  periodDue   : Option Nat
  deriving DecidableEq, Repr

/-! ### Cycle sequencer (chapter 6) -/

inductive Phase where
  | idle | prep | drying | cooling | guard | done | hold | fault | service
  deriving DecidableEq, Repr

/-- The end reasons of a cycle (11.5). -/
inductive EndReason where
  | dry | timeLimit | advanced | aborted | overheat | noHeat | holdExpired | linkReset
  deriving DecidableEq, Repr

/-- The hold reasons (R110). -/
inductive HoldReason where
  | paused | door | tangle | link | watch
  deriving DecidableEq, Repr

/-- A set of hold reasons. -/
structure HoldSet where
  paused : Bool
  door   : Bool
  tangle : Bool
  link   : Bool
  watch  : Bool
  deriving DecidableEq, Repr

/-- The fault kinds (R117). -/
inductive FaultKind where
  | cutoffOpen | sensor | airflow | stall | notStopping | drive | heatStuck
  deriving DecidableEq, Repr

/-- The causes of a phase change (R122). -/
inductive Cause where
  | ended (r : EndReason)
  | start | prepComplete | resume | clear
  | takeControl | release | silence
  | coolTarget | coolTime | guardTime
  | held (r : HoldReason)
  | fault
  deriving DecidableEq, Repr

/-- The fault record (R118). -/
structure FaultRecord where
  kind  : FaultKind
  phase : Phase
  time  : Word
  extra : Nat
  deriving DecidableEq, Repr

/-- A program (6.2). -/
structure Program where
  target         : Nat
  setpoint       : Nat
  minDrying      : Nat
  maxDrying      : Nat
  coolTarget     : Nat
  maxCooling     : Nat
  guardTime      : Nat
  dryingPattern  : Nat
  coolingPattern : Nat
  guardPattern   : Nat
  tangleEnable   : Bool
  maxStages      : Nat
  demandLimit    : Nat
  deriving DecidableEq, Repr

/-- The fields of the cycle record that the sequencer owns (R121); the others are read where they stand. -/
structure CycleRecord where
  program     : Option Nat
  startLink   : Link
  startStamp  : Word
  held        : Option Phase
  endReason   : Option EndReason
  fault       : Option FaultRecord
  bursts      : Nat
  tangleHolds : Nat
  deriving DecidableEq, Repr

structure Csq where
  phase          : Phase
  program        : Option Program
  record         : CycleRecord
  prepTarget     : Option Phase
  revSeen        : Bool
  reasons        : HoldSet
  owner          : Option Link
  dryingMs       : Nat
  dryingSeconds  : Nat
  coolingMs      : Nat
  guardMs        : Nat
  holdDue        : Option Nat
  supervisionDue : Option Nat
  silenceDue     : Option Nat
  stageTimers    : Quad (Option Nat)
  fanTimer       : Option Nat
  drumTimer      : Option Nat
  pendingTake    : Bool
  deriving DecidableEq, Repr

/-! ### Records and the capture pool (chapter 7) -/

/-- The record kinds (11.5). -/
inductive RecordKind where
  | contact | window | rev | heat | temp | phase | tangle | watch
  deriving DecidableEq, Repr

/-- The causes of an invalid window (R26). -/
structure WindowCauses where
  lowTurning : Bool
  burst      : Bool
  tangle     : Bool
  barShort   : Bool
  sensor     : Bool
  noDemand   : Bool
  deriving DecidableEq, Repr

/-- The watch quantities (11.5). -/
inductive Quantity where
  | tIn | tExh | tHsg | s | m | d | contacts | revTime | ripple | dryingSeconds
  deriving DecidableEq, Repr

/-- A produced record with its own fields (R15, R18, R35, R51, R71, R99, R122, R137). -/
inductive Record where
  | contact (duration peak mean : Nat)
  | window (method : Method) (valid : Bool) (causes : WindowCauses) (index estimate streak contacts : Nat)
  | rev (time min max mean : Nat)
  | heat (demand : Nat) (stages : Quad Bool) (cap : Nat) (exhaust : Int)
  | temp (channel : Channel) (status : TempStatus) (value : Int) (raw : Code)
  | phase (left entered : Phase) (cause : Cause) (reasons : HoldSet)
  | tangle (escalation : Bool) (chain ripple contacts estimate : Nat)
  | watch (unit : Fin 4) (quantity : Quantity) (value limit : Int) (hits : Nat)
  deriving DecidableEq, Repr

inductive UnitState where
  | free | claimed | armed | running | ended
  deriving DecidableEq, Repr

inductive StartCond where
  | immediate
  | phaseEntry (p : Phase)
  | onWatch (w : Fin 4)
  deriving DecidableEq, Repr

inductive EndCond where
  | never
  | count (c : Nat)
  | onWatch (w : Fin 4)
  | phaseExit (p : Phase)
  deriving DecidableEq, Repr

inductive RingPolicy where
  | pause | stop
  deriving DecidableEq, Repr

inductive CaptureEnd where
  | count | watch | phase | ringFull | stopped
  deriving DecidableEq, Repr

/-- A capture unit's configuration (7.1). `sources` has bit k set for record kind k. -/
structure CaptureConfig where
  sources    : Byte
  start      : StartCond
  stop       : EndCond
  decimation : Nat
  policy     : RingPolicy
  deriving DecidableEq, Repr

structure CaptureUnit where
  owner     : Option Link
  state     : UnitState
  config    : Option CaptureConfig
  position  : Nat
  taken     : Nat
  skipped   : Nat
  endReason : Option CaptureEnd
  deriving DecidableEq, Repr

inductive WatchState where
  | free | claimed | armed | hit
  deriving DecidableEq, Repr

inductive Sense where
  | risesAbove | fallsBelow
  deriving DecidableEq, Repr

inductive WatchMode where
  | once | repeating
  deriving DecidableEq, Repr

inductive WatchAction where
  | none | notice | hold
  deriving DecidableEq, Repr

structure WatchSettings where
  quantity   : Quantity
  sense      : Sense
  limit      : Int
  hysteresis : Nat
  mode       : WatchMode
  action     : WatchAction
  deriving DecidableEq, Repr

structure WatchUnit where
  owner    : Option Link
  state    : WatchState
  settings : Option WatchSettings
  previous : Option Int
  blocked  : Bool
  hits     : Nat
  deriving DecidableEq, Repr

structure Cap where
  units   : Triple CaptureUnit
  watches : Quad WatchUnit
  deriving DecidableEq, Repr

/-! ### Settings store (chapter 9) -/

/-- A non-volatile word as a read with its check bits finds it (R155, log entry 32). -/
inductive StoredWord where
  | clean (w : Word)
  | single (corrected : Word)
  | double
  deriving DecidableEq, Repr

/-- For whom a store runs (R159, R161). -/
inductive StoreSource where
  | link (l : Link)
  | wear
  deriving DecidableEq, Repr

/-- A store in progress: the copy taken at its beginning (R159); `wanted` until its link is reset (R160). -/
structure StoreJob where
  block  : Nat
  source : StoreSource
  image  : List Word
  wanted : Bool
  deriving DecidableEq, Repr

/-- The settings store. The working copy of block 6 is the on-times of the stages (R77), so `blocks` holds
blocks 0 to 5 and an unused empty list for block 6. -/
structure Sst where
  blocks      : Seven (List Word)
  invalid     : Seven Bool
  corrected   : Seven Nat
  engine      : Option StoreJob
  wearPending : Bool
  stored      : Seven (List StoredWord)
  deriving DecidableEq, Repr

/-! ### Link controllers, rings and posted blocks (chapters 8 and 10) -/

/-- A request as the owning block sees it: its kind and arguments, without the link (R174). RESET_LINK is not
among them: a valid one never enters the request queue (R168). -/
inductive Request where
  | identify
  | status
  | read (quantities : List Byte)
  | measure
  | pause
  | resume
  | abort
  | advance
  | clear
  | start (program : Byte)
  | set (block first : Byte) (values : List Word)
  | get (block first count : Byte)
  | store (block : Byte)
  | noticeCfg (enable : Half) (period : Byte)
  | ackNotice (kinds : Half)
  | claimCapture
  | configure (unit : Byte) (sources : Half) (startForm startArg endForm : Byte) (endArg : Half)
      (decimation policy : Byte)
  | arm (unit : Byte)
  | stopCapture (unit : Byte)
  | releaseCapture (unit : Byte)
  | claimWatch
  | setWatch (unit quantity sense : Byte) (limit : Word) (hysteresis : Half) (mode action : Byte)
  | releaseWatch (unit : Byte)
  | post (tag size : Byte)
  | flush (tag : Byte)
  | cancel (tag : Byte)
  | takeControl
  | test (actuator demand speed : Byte)
  | releaseControl
  | linkStats
  deriving DecidableEq, Repr

/-- A frame's kind and payload (R165). -/
structure Frame where
  kind    : Byte
  payload : List Byte
  deriving DecidableEq, Repr

/-- The frame assembler (R166). Bytes are in order of arrival. -/
inductive Assembler where
  | hunt
  | length
  | body (len : Nat) (bytes : List Byte) (error : Bool)
  | check (len : Nat) (bytes : List Byte) (error : Bool)
  deriving DecidableEq, Repr

/-- The request kinds that take time (R167). -/
inductive SlowRequest where
  | store | measure | takeControl
  deriving DecidableEq, Repr

/-- A frame being sent, byte by byte from SYNC to CHECK; `reset` marks the reply of RESET_LINK (R168, R169). -/
structure Sending where
  bytes : List Byte
  reset : Bool
  deriving DecidableEq, Repr

/-- The notices with their details (R177). -/
inductive Notice where
  | phase (new : Phase) (cause : Cause)
  | dry (estimate streak : Nat)
  | tangle (chain : Nat)
  | hold (reasons : HoldSet)
  | fault (kind : FaultKind) (phase : Phase) (extra : Nat)
  | stage (number : Nat) (lockout : Bool) (housing : Int)
  | watch (unit : Fin 4) (value : Int)
  | capture (unit : Fin 3) (reason : CaptureEnd) (taken skipped : Nat)
  deriving DecidableEq, Repr

/-- The five error counts (R172). -/
structure ErrorCounts where
  badLength  : Nat
  gap        : Nat
  byteError  : Nat
  checkError : Nat
  overflow   : Nat
  deriving DecidableEq, Repr

/-- A ring entry (8.1). `units` has bit k set for capture unit k. -/
structure RingEntry where
  seq    : Word
  stamp  : Word
  units  : Byte
  record : Record
  deriving DecidableEq, Repr

/-- What a FILLED block holds (8.2). -/
structure Filling where
  entries : List RingEntry
  ended   : Bool
  flushed : Bool
  deriving DecidableEq, Repr

/-- A posted block; WAITING while `filled` is absent (8.2). -/
structure Posted where
  tag    : Byte
  size   : Nat
  filled : Option Filling
  deriving DecidableEq, Repr

/-- All that one link owns: its controller (chapter 10), its sequence counter (R141), its ring and its queue of
posted blocks (chapter 8). `pending` is in order of kind code. -/
structure LinkState where
  assembler   : Assembler
  gapDue      : Option Nat
  queue       : List Frame
  inProgress  : Option SlowRequest
  reply       : Option Frame
  resetHeld   : Bool
  resetting   : Bool
  sending     : Option Sending
  pending     : List Notice
  enable      : Byte
  scheduled   : Bool
  period      : Nat
  periodicDue : Option Nat
  statusDue   : Bool
  errors      : ErrorCounts
  seq         : Word
  ring        : List RingEntry
  posted      : List Posted
  deriving DecidableEq, Repr

/-! ### The machine -/

/-- Where the part stands after a supply event (R155, R16, R167): without supply, loading the settings, in the
start-up round, or taking requests. -/
inductive Boot where
  | off | loading | startup | ready
  deriving DecidableEq, Repr

/-- The levels of the input pins. -/
structure Pins where
  doorOpen  : Bool
  cutOpen   : Bool
  afsClosed : Bool
  ivf       : Bool
  deriving DecidableEq, Repr

/-- The D340. -/
structure State where
  pending   : List Instr
  boot      : Boot
  clock     : Nat
  resetTime : Nat
  pins      : Pins
  mfe       : Mfe
  dry       : Dry
  dmc       : Dmc
  tgm       : Tgm
  hsc       : Hsc
  csq       : Csq
  cap       : Cap
  sst       : Sst
  linkA     : LinkState
  linkS     : LinkState
  deriving DecidableEq, Repr

/-- Reasons for which the part stops: there is none. The drying faults of R117 are state (phase FAULT and the
fault record), and no event of the table stops the part, so this type has no member. Safe: nothing stops. -/
inductive Fault where
  deriving DecidableEq, Repr

/-- Reasons for which the model gives no answer. -/
inductive Refusal where
  /-- Raised by an arm of `exec` whose command has no meaning yet; no arm is left so. Safe. -/
  | notModelled (mnemonic : String)
  deriving DecidableEq, Repr

/-! ### State after power-on (R16, R42, R61, R74, R101, R126, R143, R154, R163, R172) -/

/-- A temperature channel before the start-up round (R16). -/
def ChannelState.resetTemp : ChannelState :=
  { value := 32767, code := 0, time := 0, diag := true, outCount := 0, goodCount := 0,
    freshA := .diag, freshS := .diag }

/-- A current channel or the bar channel before the start-up round (R16). -/
def ChannelState.resetPlain : ChannelState :=
  { value := 0, code := 0, time := 0, diag := false, outCount := 0, goodCount := 0,
    freshA := .none, freshS := .none }

/-- R16. -/
def Mfe.reset : Mfe :=
  { mode := .onRequest
    tIn := .resetTemp, tExh := .resetTemp, tHsg := .resetTemp
    iHeat := .resetPlain, g := .resetPlain, iMot := .resetPlain
    rotation := .tIn, lastPositive := false, round := none
    fastDue := none, slowDue := none, startupDone := 0 }

/-- R42. -/
def Dry.reset : Dry :=
  { contact := none, window := none, method := .bars, barShort := false, estimate := .settling
    m := 0, s := 0, dw := 0, ds := 0, streak := 0, history := [], remaining := 255, lastN := 0 }

/-- R61, at the moment `now`. -/
def Dmc.reset (now : Nat) : Dmc :=
  { motion := .idle, speed := 0, lastDir := none
    offTime := now, restMin := 3, restMinDue := some (now + 3000), restEntry := none
    pattern := none, current := none, remaining := none, staged := none
    interrupted := none, burstDue := none, revolution := none, history := []
    lastPulse := none, still := false, turning := false
    stallDue := none, stallLength := 0, restCheck := .none }

/-- R74. -/
def Tgm.reset : Tgm :=
  { c := 0, b := 0, recheck := none, burst := false, outstanding := false, capFlag := false }

/-- R101, at the moment `now`. -/
def Stage.reset (now : Nat) : Stage :=
  { on := false, switchTime := now, offWaived := false, openMark := false, onTime := 0, rem := 0
    test := none, testDemand := false }

/-- R101, at the moment `now`. -/
def Hsc.reset (now : Nat) : Hsc :=
  { d := 0, i := 0, nReq := 0
    stages := ⟨.reset now, .reset now, .reset now, .reset now⟩
    inletCap := 4, tangleCap := 4, lockout := false
    turning := false, turningEnd := none, spent := false, pauseDue := none
    lastOn := none, stuckArmed := true
    fanOn := false, fanDemand := false, afterRun := none
    airflow := .off, proofDue := none, graceDue := none, energy := 0, periodDue := none }

/-- The empty set of hold reasons. -/
def HoldSet.empty : HoldSet :=
  { paused := false, door := false, tangle := false, link := false, watch := false }

/-- R121, before any START. -/
def CycleRecord.reset : CycleRecord :=
  { program := none, startLink := .a, startStamp := 0, held := none, endReason := none, fault := none
    bursts := 0, tangleHolds := 0 }

/-- R126. -/
def Csq.reset : Csq :=
  { phase := .idle, program := none, record := .reset, prepTarget := none, revSeen := false
    reasons := .empty, owner := none
    dryingMs := 0, dryingSeconds := 0, coolingMs := 0, guardMs := 0
    holdDue := none, supervisionDue := none, silenceDue := none
    stageTimers := ⟨none, none, none, none⟩, fanTimer := none, drumTimer := none
    pendingTake := false }

/-- A FREE capture unit (R134, R143). Its decimation position 0 is the model's choice (log entry 22). -/
def CaptureUnit.free : CaptureUnit :=
  { owner := none, state := .free, config := none, position := 0, taken := 0, skipped := 0
    endReason := none }

/-- A FREE watch unit (R139, R143). -/
def WatchUnit.free : WatchUnit :=
  { owner := none, state := .free, settings := none, previous := none, blocked := false, hits := 0 }

/-- R143. -/
def Cap.reset : Cap :=
  { units := ⟨.free, .free, .free⟩, watches := ⟨.free, .free, .free, .free⟩ }

/-- R163, with the non-volatile words given: they survive a reset. Before the load the working copies hold the
defaults of 9.1 (log entry 7). -/
def Sst.reset (stored : Seven (List StoredWord)) : Sst :=
  { blocks := ⟨defaultBlock 0, defaultBlock 1, defaultBlock 2, defaultBlock 3, defaultBlock 4, defaultBlock 5, []⟩
    invalid := ⟨false, false, false, false, false, false, false⟩
    corrected := ⟨0, 0, 0, 0, 0, 0, 0⟩
    engine := none, wearPending := false, stored := stored }

/-- The non-volatile words of a part whose blocks were stored with the defaults of 9.1 (log entry 6). -/
def storedDefaults : Seven (List StoredWord) :=
  let f (b : Nat) : List StoredWord := (defaultBlock b).map .clean
  ⟨f 0, f 1, f 2, f 3, f 4, f 5, f 6⟩

/-- R172: all counts 0. -/
def ErrorCounts.zero : ErrorCounts :=
  { badLength := 0, gap := 0, byteError := 0, checkError := 0, overflow := 0 }

/-- R172, R154, R143, with the enable set that holds until the load completes. That a held RESET_LINK is forgotten is the
model's choice (log entry 22). -/
def LinkState.reset (enable : Byte) : LinkState :=
  { assembler := .hunt, gapDue := none, queue := [], inProgress := none, reply := none
    resetHeld := false, resetting := false, sending := none
    pending := [], enable := enable, scheduled := false
    period := 0, periodicDue := none, statusDue := false
    errors := .zero, seq := 0, ring := [], posted := [] }

/-- The part at a power-on or RST taken at `clock`, with the pins, the non-volatile words and the queue given. -/
def State.resetWith (pending : List Instr) (boot : Boot) (clock : Nat) (pins : Pins)
    (stored : Seven (List StoredWord)) : State :=
  { pending := pending, boot := boot, clock := clock, resetTime := clock, pins := pins
    mfe := .reset, dry := .reset, dmc := .reset clock, tgm := .reset, hsc := .reset clock, csq := .reset
    cap := .reset, sst := .reset stored, linkA := .reset 25, linkS := .reset 0 }

/-- The levels of the pins of a part at rest (log entry 5). -/
def Pins.reset : Pins := { doorOpen := false, cutOpen := false, afsClosed := false, ivf := false }

/-- The part right after power-on, its settings load under way. -/
def State.reset : State := State.resetWith [] .loading 0 .reset storedDefaults

end Sys2Proof.Machine
end

