-- ==== Sys2Proof/Machine/Ops.lean ====
section
/-! DEFINITION. The shared operations: fixed-size containers, integer arithmetic of 00_scope.md, bytes and the
check byte, the clock, the moment of a clock-driven command, and access to the two links. -/

namespace Sys2Proof.Machine

/-! ### Containers -/

def Quad.get {α : Type} (q : Quad α) (i : Fin 4) : α :=
  match i with
  | 0 => q.q0
  | 1 => q.q1
  | 2 => q.q2
  | 3 => q.q3

def Quad.set {α : Type} (q : Quad α) (i : Fin 4) (x : α) : Quad α :=
  match i with
  | 0 => { q with q0 := x }
  | 1 => { q with q1 := x }
  | 2 => { q with q2 := x }
  | 3 => { q with q3 := x }

def Quad.map {α β : Type} (f : α → β) (q : Quad α) : Quad β := ⟨f q.q0, f q.q1, f q.q2, f q.q3⟩

def Quad.const {α : Type} (x : α) : Quad α := ⟨x, x, x, x⟩

def Quad.any {α : Type} (f : α → Bool) (q : Quad α) : Bool := f q.q0 || f q.q1 || f q.q2 || f q.q3

/-- How many members satisfy `f`. -/
def Quad.count {α : Type} (f : α → Bool) (q : Quad α) : Nat :=
  (f q.q0).toNat + (f q.q1).toNat + (f q.q2).toNat + (f q.q3).toNat

/-- Bit i set for member i, as the masks of R173. -/
def Quad.mask (q : Quad Bool) : Byte :=
  BitVec.ofNat 8 (q.q0.toNat + 2 * q.q1.toNat + 4 * q.q2.toNat + 8 * q.q3.toNat)

/-- The four indices in order. -/
def four : List (Fin 4) := [0, 1, 2, 3]

def Triple.get {α : Type} (t : Triple α) (i : Fin 3) : α :=
  match i with
  | 0 => t.t0
  | 1 => t.t1
  | 2 => t.t2

def Triple.set {α : Type} (t : Triple α) (i : Fin 3) (x : α) : Triple α :=
  match i with
  | 0 => { t with t0 := x }
  | 1 => { t with t1 := x }
  | 2 => { t with t2 := x }

def Triple.map {α β : Type} (f : α → β) (t : Triple α) : Triple β := ⟨f t.t0, f t.t1, f t.t2⟩

def Triple.any {α : Type} (f : α → Bool) (t : Triple α) : Bool := f t.t0 || f t.t1 || f t.t2

/-- Bit i set for member i, as the masks of R173. -/
def Triple.mask (t : Triple Bool) : Byte :=
  BitVec.ofNat 8 (t.t0.toNat + 2 * t.t1.toNat + 4 * t.t2.toNat)

/-- The three indices in order. -/
def three : List (Fin 3) := [0, 1, 2]

/-- Member `b` of 0..6; a number beyond reads as member 6 (the callers check the block number first). -/
def Seven.get {α : Type} (v : Seven α) (b : Nat) : α :=
  match b with
  | 0 => v.b0
  | 1 => v.b1
  | 2 => v.b2
  | 3 => v.b3
  | 4 => v.b4
  | 5 => v.b5
  | _ => v.b6

def Seven.set {α : Type} (v : Seven α) (b : Nat) (x : α) : Seven α :=
  match b with
  | 0 => { v with b0 := x }
  | 1 => { v with b1 := x }
  | 2 => { v with b2 := x }
  | 3 => { v with b3 := x }
  | 4 => { v with b4 := x }
  | 5 => { v with b5 := x }
  | _ => { v with b6 := x }

def Seven.map {α β : Type} (f : α → β) (v : Seven α) : Seven β :=
  ⟨f v.b0, f v.b1, f v.b2, f v.b3, f v.b4, f v.b5, f v.b6⟩

/-! ### Arithmetic (00_scope.md, Arithmetic) -/

/-- "Clamp lo..hi" on integers. -/
def clampInt (lo hi x : Int) : Int := if x < lo then lo else if hi < x then hi else x

/-- "Clamp lo..hi" on counts. -/
def clampNat (lo hi x : Nat) : Nat := if x < lo then lo else if hi < x then hi else x

/-- Division rounded toward zero, for negative values as for positive ones. -/
def truncDiv (a b : Int) : Int := Int.tdiv a b

/-- Division rounded up, for a positive quotient. -/
def ceilDiv (a b : Nat) : Nat := (a + b - 1) / b

/-- One more, stopping at `top` ("saturating"). -/
def satSucc (top x : Nat) : Nat := if x < top then x + 1 else top

/-! ### Bytes, least significant first (R173) -/

def byteOf (x : Nat) : Byte := BitVec.ofNat 8 x

def halfBytes (h : Half) : List Byte := [h.extractLsb' 0 8, h.extractLsb' 8 8]

def wordBytes (w : Word) : List Byte :=
  [w.extractLsb' 0 8, w.extractLsb' 8 8, w.extractLsb' 16 8, w.extractLsb' 24 8]

def halfOfBytes (b0 b1 : Byte) : Half := b1 ++ b0

def wordOfBytes (b0 b1 b2 b3 : Byte) : Word := b3 ++ b2 ++ b1 ++ b0

/-- Two bytes of a count, its low 16 bits. -/
def nat16 (x : Nat) : List Byte := halfBytes (BitVec.ofNat 16 x)

/-- Four bytes of a count, its low 32 bits. -/
def nat32 (x : Nat) : List Byte := wordBytes (BitVec.ofNat 32 x)

/-- Two signed bytes. -/
def int16 (x : Int) : List Byte := halfBytes (BitVec.ofInt 16 x)

/-- A mark of one byte. -/
def boolByte (b : Bool) : Byte := if b then 1 else 0

/-! ### The check byte (R165) -/

/-- One shift of the CRC register: 0x07 is combined when the bit shifted out was 1. -/
def crcShift (r : Byte) : Byte := if r.msb then (r <<< 1) ^^^ 0x07#8 else r <<< 1

/-- A byte combined into the register, then eight shifts. -/
def crcByte (r b : Byte) : Byte :=
  crcShift (crcShift (crcShift (crcShift (crcShift (crcShift (crcShift (crcShift (r ^^^ b))))))))

/-- The register after the bytes, from the initial value 0. -/
def crc (bytes : List Byte) : Byte := bytes.foldl crcByte 0

/-- The bytes of a frame on the wire: SYNC, LEN, KIND, PAYLOAD, CHECK (R165). -/
def Frame.wire (f : Frame) : List Byte :=
  let body := byteOf (f.payload.length + 1) :: f.kind :: f.payload
  0xC5#8 :: body ++ [crc body]

/-! ### Characters (R164) -/

/-- The parity bit that gives even parity over the data bits and itself. -/
def evenParity (b : Byte) : Bool :=
  b.getLsbD 0 ^^ b.getLsbD 1 ^^ b.getLsbD 2 ^^ b.getLsbD 3 ^^ b.getLsbD 4 ^^ b.getLsbD 5 ^^ b.getLsbD 6
    ^^ b.getLsbD 7

/-- A received character has a byte error when its parity bit does not give even parity or its stop bit is 0. -/
def byteError (data : Byte) (parity stop : Bool) : Bool := parity != evenParity data || !stop

/-- The bits of a character as sent: start, data least significant first, parity, stop. -/
def characterBits (b : Byte) : List Bool :=
  [false, b.getLsbD 0, b.getLsbD 1, b.getLsbD 2, b.getLsbD 3, b.getLsbD 4, b.getLsbD 5, b.getLsbD 6,
   b.getLsbD 7, evenParity b, true]

/-! ### The clock -/

/-- The 32-bit reference time counter (00 Time, log entry 3). -/
def State.refTime (s : State) : Word := BitVec.ofNat 32 s.clock

/-- Every stage whose output is on counts the time (R77). -/
def Stage.elapse (n : Nat) (st : Stage) : Stage := if st.on then { st with rem := st.rem + n } else st

/-- The step remaining time runs down wherever it is present: not in BURST and not while the step waits (R47). -/
def Dmc.elapse (n : Nat) (d : Dmc) : Dmc := { d with remaining := d.remaining.map (· - n) }

/-- The largest value of the elapsed counts (6.1). -/
def maxElapsed : Nat := 4294967295

/-- The elapsed count of the phase runs (R105, R106, R107). -/
def Csq.elapse (n : Nat) (c : Csq) : Csq :=
  match c.phase with
  | .drying => { c with dryingMs := min maxElapsed (c.dryingMs + n) }
  | .cooling => { c with coolingMs := min maxElapsed (c.coolingMs + n) }
  | .guard => { c with guardMs := c.guardMs + n }
  | _ => c

/-- `n` ms pass with no event. -/
def State.elapse (n : Nat) (s : State) : State :=
  { s with
    clock := s.clock + n
    dmc := s.dmc.elapse n
    hsc := { s.hsc with stages := s.hsc.stages.map (Stage.elapse n) }
    csq := s.csq.elapse n }

/-- The ms left to the moment `due`; 0 once it has come. -/
def State.left (s : State) (due : Option Nat) : Option Nat := due.map (· - s.clock)

/-- A clock-driven command: `left` says whether its timer exists and how many ms it has left. The clock moves to
that moment and the effect is made; without the timer nothing happens (log entry 2). -/
def State.atMoment (s : State) (left : Option Nat) (effect : State → State) : State :=
  match left with
  | none => s
  | some n => effect (s.elapse n)

/-- Without supply no event reaches the part (log entry 9). -/
def State.powered (s : State) (effect : State → State) : State :=
  if s.boot = .off then s else effect s

/-! ### The links -/

def State.link (s : State) : Link → LinkState
  | .a => s.linkA
  | .s => s.linkS

def State.setLink (s : State) (l : Link) (x : LinkState) : State :=
  match l with
  | .a => { s with linkA := x }
  | .s => { s with linkS := x }

def State.modLink (s : State) (l : Link) (f : LinkState → LinkState) : State := s.setLink l (f (s.link l))

/-! ### Channels -/

def Mfe.channel (m : Mfe) : Channel → ChannelState
  | .tIn => m.tIn
  | .tExh => m.tExh
  | .tHsg => m.tHsg
  | .iHeat => m.iHeat
  | .g => m.g
  | .iMot => m.iMot

def Mfe.setChannel (m : Mfe) (c : Channel) (x : ChannelState) : Mfe :=
  match c with
  | .tIn => { m with tIn := x }
  | .tExh => { m with tExh := x }
  | .tHsg => { m with tHsg := x }
  | .iHeat => { m with iHeat := x }
  | .g => { m with g := x }
  | .iMot => { m with iMot := x }

/-! ### Capture units, watch units and stages in place -/

def State.unit (s : State) (u : Fin 3) : CaptureUnit := s.cap.units.get u

def State.setUnit (s : State) (u : Fin 3) (x : CaptureUnit) : State :=
  { s with cap := { s.cap with units := s.cap.units.set u x } }

def State.watch (s : State) (w : Fin 4) : WatchUnit := s.cap.watches.get w

def State.setWatch (s : State) (w : Fin 4) (x : WatchUnit) : State :=
  { s with cap := { s.cap with watches := s.cap.watches.set w x } }

def State.stage (s : State) (n : StageNo) : Stage := s.hsc.stages.get n

def State.setStage (s : State) (n : StageNo) (x : Stage) : State :=
  { s with hsc := { s.hsc with stages := s.hsc.stages.set n x } }

/-! ### Hold reasons -/

def HoldSet.has (h : HoldSet) : HoldReason → Bool
  | .paused => h.paused
  | .door => h.door
  | .tangle => h.tangle
  | .link => h.link
  | .watch => h.watch

def HoldSet.add (h : HoldSet) : HoldReason → HoldSet
  | .paused => { h with paused := true }
  | .door => { h with door := true }
  | .tangle => { h with tangle := true }
  | .link => { h with link := true }
  | .watch => { h with watch := true }

/-- The set of one reason. -/
def HoldSet.only (r : HoldReason) : HoldSet := HoldSet.empty.add r

def Dir.flip : Dir → Dir
  | .fwd => .rev
  | .rev => .fwd

end Sys2Proof.Machine
end

