-- ==== Sys2Proof/Machine/Operands.lean ====
section
/-! DEFINITION. The operand forms: the codes of 11.5, the ranges and packing of settings words (9.1, R155, R180),
the settings by name, the requests in their frames (R174) and the 16-byte capture record (R179). -/

namespace Sys2Proof.Machine

/-! ### Codes (11.5) -/

/-- The statuses of a reply. -/
inductive Status where
  | ok | adjusted | busy | wrongPhase | badArg | unknown | notOwner | noResource | configInvalid
  | controlledElsewhere | interlock
  deriving DecidableEq, Repr

def Status.code : Status → Byte
  | .ok => 0
  | .adjusted => 1
  | .busy => 2
  | .wrongPhase => 3
  | .badArg => 4
  | .unknown => 5
  | .notOwner => 6
  | .noResource => 7
  | .configInvalid => 8
  | .controlledElsewhere => 9
  | .interlock => 10

def Phase.code : Phase → Nat
  | .idle => 0
  | .prep => 1
  | .drying => 2
  | .cooling => 3
  | .guard => 4
  | .done => 5
  | .hold => 6
  | .fault => 7
  | .service => 8

/-- A phase code above 8 is none (R173). -/
def phaseOfCode (n : Nat) : Option Phase :=
  [Phase.idle, .prep, .drying, .cooling, .guard, .done, .hold, .fault, .service][n]?

def EndReason.code : EndReason → Nat
  | .dry => 1
  | .timeLimit => 2
  | .advanced => 3
  | .aborted => 4
  | .overheat => 5
  | .noHeat => 6
  | .holdExpired => 7
  | .linkReset => 8

def HoldSet.mask (h : HoldSet) : Byte :=
  BitVec.ofNat 8 (h.paused.toNat + 2 * h.door.toNat + 4 * h.tangle.toNat + 8 * h.link.toNat + 16 * h.watch.toNat)

def FaultKind.code : FaultKind → Nat
  | .cutoffOpen => 1
  | .sensor => 2
  | .airflow => 3
  | .stall => 4
  | .notStopping => 5
  | .drive => 6
  | .heatStuck => 7

def Cause.code : Cause → Nat
  | .ended r => r.code
  | .start => 9
  | .prepComplete => 10
  | .resume => 11
  | .clear => 12
  | .takeControl => 13
  | .release => 14
  | .silence => 15
  | .coolTarget => 16
  | .coolTime => 17
  | .guardTime => 18
  | .held .door => 19
  | .held .paused => 20
  | .held .tangle => 21
  | .held .link => 22
  | .held .watch => 23
  | .fault => 24

def Channel.code : Channel → Nat
  | .tIn => 0
  | .tExh => 1
  | .tHsg => 2
  | .iHeat => 3
  | .g => 4
  | .iMot => 5

def channelOfCode (n : Nat) : Option Channel :=
  [Channel.tIn, .tExh, .tHsg, .iHeat, .g, .iMot][n]?

def Freshness.code : Freshness → Byte
  | .none => 0
  | .fresh => 1
  | .stale => 2
  | .diag => 3

def TempStatus.code : TempStatus → Nat
  | .good => 0
  | .suspect => 1
  | .diag => 2

def Airflow.code : Airflow → Byte
  | .off => 0
  | .proving => 1
  | .proven => 2
  | .lost => 3

def Method.code : Method → Byte
  | .bars => 0
  | .demand => 1

def EstimateState.code : EstimateState → Byte
  | .settling => 0
  | .tracking => 1
  | .declared => 2

def Motion.code : Motion → Byte
  | .idle => 0
  | .starting .fwd => 1
  | .starting .rev => 2
  | .run .fwd => 3
  | .run .rev => 4
  | .rest => 5
  | .restIn => 6
  | .runOpp _ => 7
  | .restOut => 8

def UnitState.code : UnitState → Byte
  | .free => 0
  | .claimed => 1
  | .armed => 2
  | .running => 3
  | .ended => 4

def CaptureEnd.code : CaptureEnd → Byte
  | .count => 1
  | .watch => 2
  | .phase => 3
  | .ringFull => 4
  | .stopped => 5

def RecordKind.code : RecordKind → Nat
  | .contact => 0
  | .window => 1
  | .rev => 2
  | .heat => 3
  | .temp => 4
  | .phase => 5
  | .tangle => 6
  | .watch => 7

def Quantity.code : Quantity → Nat
  | .tIn => 0
  | .tExh => 1
  | .tHsg => 2
  | .s => 3
  | .m => 4
  | .d => 5
  | .contacts => 6
  | .revTime => 7
  | .ripple => 8
  | .dryingSeconds => 9

def quantityOfCode (n : Nat) : Option Quantity :=
  [Quantity.tIn, .tExh, .tHsg, .s, .m, .d, .contacts, .revTime, .ripple, .dryingSeconds][n]?

def Sense.code : Sense → Byte
  | .risesAbove => 0
  | .fallsBelow => 1

def senseOfCode (n : Nat) : Option Sense := [Sense.risesAbove, .fallsBelow][n]?

def WatchMode.code : WatchMode → Byte
  | .once => 0
  | .repeating => 1

def watchModeOfCode (n : Nat) : Option WatchMode := [WatchMode.once, .repeating][n]?

def WatchAction.code : WatchAction → Byte
  | .none => 0
  | .notice => 1
  | .hold => 2

def watchActionOfCode (n : Nat) : Option WatchAction := [WatchAction.none, .notice, .hold][n]?

def RingPolicy.code : RingPolicy → Byte
  | .pause => 0
  | .stop => 1

def policyOfCode (n : Nat) : Option RingPolicy := [RingPolicy.pause, .stop][n]?

/-- A unit or stage number below 3. -/
def fin3? (n : Nat) : Option (Fin 3) := if h : n < 3 then some ⟨n, h⟩ else none

/-- A unit or stage number below 4. -/
def fin4? (n : Nat) : Option (Fin 4) := if h : n < 4 then some ⟨n, h⟩ else none

/-- Actuator codes of TEST: 1 to 4 the stages, 5 the fan, 6 the drum (R174). -/
def actuatorOfCode (n : Nat) : Option Actuator :=
  [none, some (.stage 0), some (.stage 1), some (.stage 2), some (.stage 3), some .fan, some .drum].getD n none

/-- Step actions: 0 REST, 1 RUN_FWD, 2 RUN_REV (11.5). -/
def actionOfCode (n : Nat) : Option Action := [Action.rest, .runFwd, .runRev][n]?

/-! ### Bringing a settings word into range (R155, R157, R180) -/

/-- A field of non-negative range: read unsigned (log entry 15). -/
def fixRange (lo hi : Nat) (w : Word) : Word := wordOfNat (clampNat lo hi w.toNat)

/-- A signed field (9.1). -/
def fixSigned (lo hi : Int) (w : Word) : Word := wordOfInt (clampInt lo hi w.toInt)

/-- W is truncated to a multiple of 1000 and then clamped (2.1). -/
def fixWindowLength (w : Word) : Word := wordOfNat (clampNat 2000 30000 (w.toNat / 1000 * 1000))

/-- An enable other than 0 or 1 becomes 1. -/
def fixEnable (w : Word) : Word := if w = 0 then 0 else 1

/-- Members outside the eight notice kinds are dropped. -/
def fixNotices (w : Word) : Word := w &&& 0xFF#32

def fixHalves (lo1 hi1 lo2 hi2 : Nat) (w : Word) : Word :=
  packHalves (clampNat lo1 hi1 (w.toNat % 65536)) (clampNat lo2 hi2 (w.toNat / 65536))

/-- Program word +5: patterns in bits 0..5, tangle enable in bit 8, maximum stages in bits 16..23. -/
def fixPatterns (w : Word) : Word :=
  BitVec.ofNat 32 (w.toNat % 64 + 256 * (w.toNat / 256 % 2) + 65536 * clampNat 1 4 (w.toNat / 65536 % 256))

/-- A pattern step: an unknown action becomes REST. -/
def fixStep (w : Word) : Word :=
  packStep (if w.toNat % 256 ≤ 2 then w.toNat % 256 else 0) (clampNat 20 55 (w.toNat / 256 % 256))
    (clampNat 1 255 (w.toNat / 65536 % 256))

def fixBlock0 (i : Nat) (w : Word) : Word :=
  if i < 2 then fixNotices w
  else if i < 4 then fixRange 0 60 w
  else if i = 4 then fixRange 5 60 w
  else if i = 5 then fixRange 1 120 w
  else w

def fixBlock1 (i : Nat) (w : Word) : Word :=
  if i < 17 then fixSigned (-500) 3000 w
  else if i < 20 then fixSigned (-50) 50 w
  else if i = 20 ∨ i = 22 then fixRange 0 1000 w
  else if i = 21 ∨ i = 23 then fixRange 1 255 w
  else if i = 24 then fixRange 50 2000 w
  else if i = 25 then fixRange 0 40 w
  else if i = 26 then fixRange 100 4000 w
  else w

def fixBlock2 (i : Nat) (w : Word) : Word :=
  match i with
  | 0 => fixWindowLength w
  | 1 => fixRange 1 8 w
  | 2 => fixRange 0 1000 w
  | 3 => fixRange 0 50 w
  | 4 => fixRange 0 2000 w
  | 5 => fixRange 5 100 w
  | 6 => fixRange 30 300 w
  | 7 => fixRange 1 5 w
  | 8 => fixRange 20 55 w
  | 9 => fixRange 5 60 w
  | _ => w

def fixBlock3 (i : Nat) (w : Word) : Word :=
  if i < 4 then fixEnable w
  else if i < 8 then fixRange 1 60 w
  else if i < 12 then fixRange 10 300 w
  else if i < 14 then fixRange 0 255 w
  else if i < 16 then fixRange 5 60 w
  else if i = 16 then fixRange 1200 2200 w
  else if i = 17 then fixRange 1000 1600 w
  else if i = 18 then fixRange 0 10 w
  else if i = 19 then fixRange 2 10 w
  else w

def fixBlock4 (i : Nat) (w : Word) : Word :=
  match i % 8 with
  | 0 => fixRange 0 4000 w
  | 1 => fixRange 400 850 w
  | 2 => fixHalves 0 60 5 180 w
  | 3 => fixRange 250 500 w
  | 4 => fixHalves 1 30 0 120 w
  | 5 => fixPatterns w
  | 6 => fixRange 50 900 w
  | _ => w

def fixBlock5 (i : Nat) (w : Word) : Word := if i % 13 = 0 then fixRange 0 12 w else fixStep w

/-- Word `i` of block `b` brought into its range; free words and on-times are taken as they are. -/
def fixWord (b i : Nat) (w : Word) : Word :=
  match b with
  | 0 => fixBlock0 i w
  | 1 => fixBlock1 i w
  | 2 => fixBlock2 i w
  | 3 => fixBlock3 i w
  | 4 => fixBlock4 i w
  | 5 => fixBlock5 i w
  | _ => w

/-- Words from number `i` on, each brought into its range. -/
def fixWords (b : Nat) : Nat → List Word → List Word
  | _, [] => []
  | i, w :: ws => fixWord b i w :: fixWords b (i + 1) ws

/-- R157: a value names an unknown step action. -/
def namesUnknownAction (b : Nat) : Nat → List Word → Bool
  | _, [] => false
  | i, w :: ws => (b == 5 && i % 13 != 0 && 2 < w.toNat % 256) || namesUnknownAction b (i + 1) ws

/-- `ws` written over a block from word `first` on. -/
def writeWords : List Word → Nat → List Word → List Word
  | [], _, _ => []
  | block, _, [] => block
  | _ :: rest, 0, w :: ws => w :: writeWords rest 0 ws
  | x :: rest, n + 1, w :: ws => x :: writeWords rest n (w :: ws)

/-! ### Settings by name (9.1) -/

/-- Word `i` of the working copy of block `b`, for the blocks 0 to 5. -/
def State.word (s : State) (b i : Nat) : Word := (s.sst.blocks.get b).getD i 0

/-- A field of non-negative range that has the word to itself. -/
def State.setting (s : State) (b i : Nat) : Nat := (s.word b i).toNat

/-- A signed field. -/
def State.signedSetting (s : State) (b i : Nat) : Int := (s.word b i).toInt

def State.supervisionTime (s : State) : Nat := s.setting 0 4
def State.holdLimit (s : State) : Nat := s.setting 0 5
def State.contactThreshold (s : State) : Nat := s.setting 1 24
def State.alpha (s : State) : Nat := s.setting 1 25
def State.gref (s : State) : Nat := s.setting 1 26
def State.windowLength (s : State) : Nat := s.setting 2 0
def State.declarationCount (s : State) : Nat := s.setting 2 1
def State.rippleFloor (s : State) : Nat := s.setting 2 2
def State.contactFloor (s : State) : Nat := s.setting 2 3
def State.wetMargin (s : State) : Nat := s.setting 2 4
def State.tangleThreshold (s : State) : Nat := s.setting 2 5
def State.recheckTime (s : State) : Nat := s.setting 2 6
def State.maximumBursts (s : State) : Nat := s.setting 2 7
def State.burstSpeed (s : State) : Nat := s.setting 2 8
def State.burstTime (s : State) : Nat := s.setting 2 9
def State.stageEnabled (s : State) (n : StageNo) : Bool := s.setting 3 n.val != 0
def State.stageRating (s : State) (n : StageNo) : Nat := s.setting 3 (4 + n.val)
def State.expectedCurrent (s : State) (n : StageNo) : Nat := s.setting 3 (8 + n.val)
def State.kp (s : State) : Nat := s.setting 3 12
def State.ki (s : State) : Nat := s.setting 3 13
def State.minOn (s : State) : Nat := s.setting 3 14
def State.minOff (s : State) : Nat := s.setting 3 15
def State.inletLimit (s : State) : Nat := s.setting 3 16
def State.housingLimit (s : State) : Nat := s.setting 3 17
def State.pauseAllowance (s : State) : Nat := s.setting 3 18
def State.minRest (s : State) : Nat := s.setting 3 19

/-- Program `p` of block 4 (9.1, R180). -/
def State.programAt (s : State) (p : Nat) : Program :=
  let w (k : Nat) : Nat := s.setting 4 (8 * p + k)
  { target := w 0
    setpoint := w 1
    minDrying := w 2 % 65536
    maxDrying := w 2 / 65536
    coolTarget := w 3
    maxCooling := w 4 % 65536
    guardTime := w 4 / 65536
    dryingPattern := w 5 % 4
    coolingPattern := w 5 / 4 % 4
    guardPattern := w 5 / 16 % 4
    tangleEnable := w 5 / 256 % 2 == 1
    maxStages := w 5 / 65536 % 256
    demandLimit := w 6 }

/-- A program with every field at its default (6.2). Read only where no START has made a program copy. -/
def defaultProgram : Program :=
  { target := 120, setpoint := 700, minDrying := 10, maxDrying := 60, coolTarget := 380, maxCooling := 8
    guardTime := 0, dryingPattern := 0, coolingPattern := 1, guardPattern := 2, tangleEnable := true
    maxStages := 4, demandLimit := 250 }

/-- The program copy that the blocks read (R102). -/
def State.program (s : State) : Program := s.csq.program.getD defaultProgram

/-- A step word of block 5 (R180). -/
def stepOfWord (w : Word) : Step :=
  { action := (actionOfCode (w.toNat % 256)).getD .rest
    speed := w.toNat / 256 % 256
    duration := w.toNat / 65536 % 256 }

/-- The steps of pattern `q` of block 5, as many as its count (3.4, R46). -/
def State.patternSteps (s : State) (q : Nat) : List Step :=
  (((s.sst.blocks.get 5).drop (13 * q + 1)).take (min 12 (s.setting 5 (13 * q)))).map stepOfWord

/-! ### Requests in frames (R174) -/

/-- READ carries 1 to 12 quantities. -/
def readAdmitted (quantities : List Byte) : Bool :=
  1 ≤ quantities.length && quantities.length ≤ 12

/-- SET carries 1 to 32 values. -/
def setAdmitted (values : List Word) : Bool :=
  1 ≤ values.length && values.length ≤ 32

/-- The arguments of a request have a length the table admits. -/
def Request.admitted : Request → Bool
  | .read qs => readAdmitted qs
  | .set _ _ vs => setAdmitted vs
  | _ => true

/-- What the controller finds in a queued frame before the owning block sees it (R167). -/
inductive Parsed where
  | unknownKind
  | badLength
  | request (r : Request)
  deriving DecidableEq, Repr

def parse0 (r : Request) : List Byte → Parsed
  | [] => .request r
  | _ => .badLength

def parse1 (f : Byte → Request) : List Byte → Parsed
  | [x] => .request (f x)
  | _ => .badLength

/-- Values of four bytes each, least significant byte first. -/
def wordsOfBytes : List Byte → Option (List Word)
  | [] => some []
  | b0 :: b1 :: b2 :: b3 :: rest => (wordsOfBytes rest).map (wordOfBytes b0 b1 b2 b3 :: ·)
  | _ => none

def parseRead (p : List Byte) : Parsed := if readAdmitted p then .request (.read p) else .badLength

def parseSet : List Byte → Parsed
  | b :: f :: rest =>
    match wordsOfBytes rest with
    | some ws => if setAdmitted ws then .request (.set b f ws) else .badLength
    | none => .badLength
  | _ => .badLength

def parseGet : List Byte → Parsed
  | [b, f, c] => .request (.get b f c)
  | _ => .badLength

def parseNoticeCfg : List Byte → Parsed
  | [e0, e1, p] => .request (.noticeCfg (halfOfBytes e0 e1) p)
  | _ => .badLength

def parseAckNotice : List Byte → Parsed
  | [k0, k1] => .request (.ackNotice (halfOfBytes k0 k1))
  | _ => .badLength

def parseConfigure : List Byte → Parsed
  | [u, s0, s1, sf, sa, ef, e0, e1, d, p] =>
    .request (.configure u (halfOfBytes s0 s1) sf sa ef (halfOfBytes e0 e1) d p)
  | _ => .badLength

def parseSetWatch : List Byte → Parsed
  | [u, q, sn, l0, l1, l2, l3, h0, h1, m, a] =>
    .request (.setWatch u q sn (wordOfBytes l0 l1 l2 l3) (halfOfBytes h0 h1) m a)
  | _ => .badLength

def parsePost : List Byte → Parsed
  | [t, z] => .request (.post t z)
  | _ => .badLength

def parseTest : List Byte → Parsed
  | [a, d, v] => .request (.test a d v)
  | _ => .badLength

/-- The kind decides first, then the length (R167). RESET_LINK (0x5F) with a payload is a bad length (R168). -/
def Frame.parse (f : Frame) : Parsed :=
  match f.kind.toNat with
  | 0x01 => parse0 .identify f.payload
  | 0x02 => parse0 .status f.payload
  | 0x03 => parseRead f.payload
  | 0x04 => parse0 .measure f.payload
  | 0x10 => parse0 .pause f.payload
  | 0x11 => parse0 .resume f.payload
  | 0x12 => parse0 .abort f.payload
  | 0x13 => parse0 .advance f.payload
  | 0x14 => parse0 .clear f.payload
  | 0x15 => parse1 .start f.payload
  | 0x20 => parseSet f.payload
  | 0x21 => parseGet f.payload
  | 0x22 => parse1 .store f.payload
  | 0x28 => parseNoticeCfg f.payload
  | 0x29 => parseAckNotice f.payload
  | 0x30 => parse0 .claimCapture f.payload
  | 0x31 => parseConfigure f.payload
  | 0x32 => parse1 .arm f.payload
  | 0x33 => parse1 .stopCapture f.payload
  | 0x34 => parse1 .releaseCapture f.payload
  | 0x38 => parse0 .claimWatch f.payload
  | 0x39 => parseSetWatch f.payload
  | 0x3A => parse1 .releaseWatch f.payload
  | 0x40 => parsePost f.payload
  | 0x41 => parse1 .flush f.payload
  | 0x42 => parse1 .cancel f.payload
  | 0x48 => parse0 .takeControl f.payload
  | 0x49 => parseTest f.payload
  | 0x4A => parse0 .releaseControl f.payload
  | 0x50 => parse0 .linkStats f.payload
  | 0x5F => .badLength
  | _ => .unknownKind

/-- The request kind codes (R174). -/
def Request.kind : Request → Byte
  | .identify => 0x01
  | .status => 0x02
  | .read _ => 0x03
  | .measure => 0x04
  | .pause => 0x10
  | .resume => 0x11
  | .abort => 0x12
  | .advance => 0x13
  | .clear => 0x14
  | .start _ => 0x15
  | .set _ _ _ => 0x20
  | .get _ _ _ => 0x21
  | .store _ => 0x22
  | .noticeCfg _ _ => 0x28
  | .ackNotice _ => 0x29
  | .claimCapture => 0x30
  | .configure _ _ _ _ _ _ _ _ => 0x31
  | .arm _ => 0x32
  | .stopCapture _ => 0x33
  | .releaseCapture _ => 0x34
  | .claimWatch => 0x38
  | .setWatch _ _ _ _ _ _ _ => 0x39
  | .releaseWatch _ => 0x3A
  | .post _ _ => 0x40
  | .flush _ => 0x41
  | .cancel _ => 0x42
  | .takeControl => 0x48
  | .test _ _ _ => 0x49
  | .releaseControl => 0x4A
  | .linkStats => 0x50

/-- The kind code of RESET_LINK (R174). -/
def resetLinkKind : Byte := 0x5F

/-- The payload of a request (R174). -/
def Request.payload : Request → List Byte
  | .read qs => qs
  | .start p => [p]
  | .set b f ws => b :: f :: ws.flatMap wordBytes
  | .get b f c => [b, f, c]
  | .store b => [b]
  | .noticeCfg e p => halfBytes e ++ [p]
  | .ackNotice k => halfBytes k
  | .configure u src sf sa ef ea d p => u :: halfBytes src ++ [sf, sa, ef] ++ halfBytes ea ++ [d, p]
  | .arm u => [u]
  | .stopCapture u => [u]
  | .releaseCapture u => [u]
  | .setWatch u q sn lim h m a => [u, q, sn] ++ wordBytes lim ++ halfBytes h ++ [m, a]
  | .releaseWatch u => [u]
  | .post t z => [t, z]
  | .flush t => [t]
  | .cancel t => [t]
  | .test a d v => [a, d, v]
  | .identify | .status | .measure | .pause | .resume | .abort | .advance | .clear
  | .claimCapture | .claimWatch | .takeControl | .releaseControl | .linkStats => []

/-- A request as the frame that carries it. -/
def Request.frame (r : Request) : Frame := { kind := r.kind, payload := r.payload }

/-- The request a command of a request's row stands for, with its link. -/
def requestOf : Instr → Option (Link × Request)
  | .identify l => some (l, .identify)
  | .status l => some (l, .status)
  | .read l qs => some (l, .read qs)
  | .measure l => some (l, .measure)
  | .pause l => some (l, .pause)
  | .resume l => some (l, .resume)
  | .abort l => some (l, .abort)
  | .advance l => some (l, .advance)
  | .clear l => some (l, .clear)
  | .start l p => some (l, .start p)
  | .set l b f vs => some (l, .set b f vs)
  | .get l b f c => some (l, .get b f c)
  | .store l b => some (l, .store b)
  | .noticeCfg l e p => some (l, .noticeCfg e p)
  | .ackNotice l k => some (l, .ackNotice k)
  | .claimCapture l => some (l, .claimCapture)
  | .configure l u src sf sa ef ea d p => some (l, .configure u src sf sa ef ea d p)
  | .arm l u => some (l, .arm u)
  | .stopCapture l u => some (l, .stopCapture u)
  | .releaseCapture l u => some (l, .releaseCapture u)
  | .claimWatch l => some (l, .claimWatch)
  | .setWatch l u q sn lim h m a => some (l, .setWatch u q sn lim h m a)
  | .releaseWatch l u => some (l, .releaseWatch u)
  | .post l t z => some (l, .post t z)
  | .flush l t => some (l, .flush t)
  | .cancel l t => some (l, .cancel t)
  | .takeControl l => some (l, .takeControl)
  | .test l a d v => some (l, .test a d v)
  | .releaseControl l => some (l, .releaseControl)
  | .linkStats l => some (l, .linkStats)
  | _ => none

/-! ### The capture record (R179) -/

def Record.kind : Record → RecordKind
  | .contact _ _ _ => .contact
  | .window _ _ _ _ _ _ _ => .window
  | .rev _ _ _ _ => .rev
  | .heat _ _ _ _ => .heat
  | .temp _ _ _ _ => .temp
  | .phase _ _ _ _ => .phase
  | .tangle _ _ _ _ _ => .tangle
  | .watch _ _ _ _ _ => .watch

/-- Three bytes holding two 12-bit figures, the first in bits 0..11. -/
def twoTwelve (low high : Nat) : List Byte :=
  let x := low % 4096 + 4096 * (high % 4096)
  [byteOf x, byteOf (x / 256), byteOf (x / 65536)]

/-- The first payload byte of a WINDOW record. -/
def windowByte (method : Method) (valid : Bool) (c : WindowCauses) : Byte :=
  BitVec.ofNat 8 ((match method with | .bars => 0 | .demand => 1) + 2 * valid.toNat + 4 * c.lowTurning.toNat
    + 8 * c.burst.toNat + 16 * c.tangle.toNat + 32 * c.barShort.toNat + 64 * c.sensor.toNat + 128 * c.noDemand.toNat)

/-- Bytes 10 to 15 of a capture record. -/
def Record.payload : Record → List Byte
  | .contact duration peak mean => nat16 duration ++ nat16 peak ++ nat16 mean
  | .window method valid causes index estimate streak contacts =>
    windowByte method valid causes :: twoTwelve index estimate ++ [byteOf streak, byteOf contacts]
  | .rev time min max mean => nat16 time ++ twoTwelve min max ++ [byteOf mean]
  | .heat demand stages cap exhaust =>
    nat16 demand ++ [stages.mask ||| byteOf (16 * (cap % 8))] ++ int16 exhaust ++ [0]
  | .temp channel status value raw =>
    byteOf (channel.code % 4 + 16 * status.code) :: int16 value ++ nat16 raw.toNat ++ [0]
  | .phase left entered cause reasons =>
    [byteOf (left.code + 16 * entered.code), byteOf cause.code, reasons.mask, 0, 0, 0]
  | .tangle escalation chain ripple contacts estimate =>
    byteOf (chain % 8 + 128 * escalation.toNat) :: nat16 ripple ++ [byteOf contacts] ++ nat16 estimate
  | .watch unit quantity value limit hits =>
    byteOf (unit.val + 16 * quantity.code) :: int16 value ++ int16 limit ++ [byteOf (min 255 hits)]

/-- Byte 8: the kind, and for REV bits 8..11 of the mean. -/
def Record.kindByte (r : Record) : Byte :=
  match r with
  | .rev _ _ _ mean => byteOf (r.kind.code + 16 * (mean / 256 % 16))
  | _ => byteOf r.kind.code

/-- A ring entry as 16 bytes. -/
def RingEntry.bytes (e : RingEntry) : List Byte :=
  wordBytes e.seq ++ wordBytes e.stamp ++ [e.record.kindByte, e.units] ++ e.record.payload

end Sys2Proof.Machine
end

