-- ==== Sys2Proof/Machine/Flags.lean ====
section
/-! DEFINITION. The flags a link sees: notices, ATTN and the NOTICE schedule (R170), the waiting reply (R167,
R168), error counts (R172) and freshness (R10). -/

namespace Sys2Proof.Machine

/-! ### Notices (R170, R177) -/

/-- The code of a notice's kind (11.5). -/
def Notice.code : Notice → Nat
  | .phase _ _ => 0
  | .dry _ _ => 1
  | .tangle _ => 2
  | .hold _ => 3
  | .fault _ _ _ => 4
  | .stage _ _ _ => 5
  | .watch _ _ => 6
  | .capture _ _ _ _ => 7

/-- The detail of a notice in a NOTICE frame (R177). -/
def Notice.detail : Notice → List Byte
  | .phase new cause => [byteOf new.code, byteOf cause.code]
  | .dry estimate streak => nat16 estimate ++ [byteOf streak]
  | .tangle chain => [byteOf chain]
  | .hold reasons => [reasons.mask]
  | .fault kind left extra => [byteOf kind.code, byteOf left.code, byteOf extra]
  | .stage number lockout housing => [byteOf number, boolByte lockout] ++ int16 housing
  | .watch unit value => byteOf unit.val :: int16 value
  | .capture unit reason taken skipped => [byteOf unit.val, reason.code] ++ nat32 taken ++ nat16 skipped

/-- The bit of a notice's kind. -/
def Notice.bit (n : Notice) : Byte := 1#8 <<< n.code

/-- The mask of a pending set. -/
def pendingMask (ns : List Notice) : Byte := ns.foldl (fun m n => m ||| n.bit) 0

/-- A raise makes the kind pending and replaces its detail; the set stays in order of kind code. -/
def insertNotice (n : Notice) : List Notice → List Notice
  | [] => [n]
  | x :: xs =>
    if n.code < x.code then n :: x :: xs
    else if n.code = x.code then n :: xs
    else x :: insertNotice n xs

/-- The kinds both pending and enabled. -/
def LinkState.announced (lk : LinkState) : Byte := pendingMask lk.pending &&& lk.enable

/-- After a change of the two sets: a NOTICE is scheduled when the pending-and-enabled set gained a member, and a
scheduled one is cancelled when the set is empty. `before` is that set before the change. -/
def LinkState.reschedule (lk : LinkState) (before : Byte) : LinkState :=
  if lk.announced = 0 then { lk with scheduled := false }
  else if lk.announced &&& ~~~before = 0 then lk
  else { lk with scheduled := true }

def LinkState.raise (lk : LinkState) (n : Notice) : LinkState :=
  LinkState.reschedule { lk with pending := insertNotice n lk.pending } lk.announced

/-- A notice raised on one link. -/
def State.notify (s : State) (l : Link) (n : Notice) : State := s.modLink l (·.raise n)

/-- A notice raised on both links. -/
def State.notifyBoth (s : State) (n : Notice) : State := (s.notify .a n).notify .s n

/-- ATTN: asserted exactly while the A-link's pending-and-enabled set is non-empty (R170). -/
def State.attn (s : State) : Bool := s.linkA.announced != 0

/-! ### Replies (R165, R167, R168) -/

/-- A reply is placed as the link's waiting reply, and a request in progress is then no longer so; between the
taking of RESET_LINK and its effects it is discarded. -/
def LinkState.placeReply (lk : LinkState) (f : Frame) : LinkState :=
  if lk.resetting then { lk with inProgress := none }
  else { lk with inProgress := none, reply := some f }

/-- The reply to a request of the given kind: the kind plus 0x80, the status, and the contents that an OK or
ADJUSTED reply carries (R173). -/
def State.answer (s : State) (l : Link) (kind : Byte) (st : Status) (contents : List Byte) : State :=
  s.modLink l (·.placeReply { kind := kind + 0x80#8, payload := st.code :: contents })

/-- A reply of the status byte alone. -/
def State.answerStatus (s : State) (l : Link) (kind : Byte) (st : Status) : State := s.answer l kind st []

/-! ### Error counts (R172) -/

/-- Each error count stops here. -/
def errorTop : Nat := 65535

def ErrorCounts.bytes (e : ErrorCounts) : List Byte :=
  nat16 e.badLength ++ nat16 e.gap ++ nat16 e.byteError ++ nat16 e.checkError ++ nat16 e.overflow

/-! ### Freshness (R10) -/

def ChannelState.freshness (c : ChannelState) : Link → Freshness
  | .a => c.freshA
  | .s => c.freshS

def ChannelState.setFreshness (c : ChannelState) (l : Link) (f : Freshness) : ChannelState :=
  match l with
  | .a => { c with freshA := f }
  | .s => { c with freshS := f }

/-- The channel is reported in a READ or MEASURE reply. -/
def Freshness.reported : Freshness → Freshness
  | .none => .stale
  | .fresh => .stale
  | .stale => .stale
  | .diag => .diag

/-- A reset of the link. -/
def Freshness.linkReset : Freshness → Freshness
  | .none => .none
  | .fresh => .none
  | .stale => .none
  | .diag => .diag

def Mfe.mapFreshness (m : Mfe) (l : Link) (f : Freshness → Freshness) (c : Channel) : Mfe :=
  m.setChannel c ((m.channel c).setFreshness l (f ((m.channel c).freshness l)))

/-- The six channels in order. -/
def sixChannels : List Channel := [.tIn, .tExh, .tHsg, .iHeat, .g, .iMot]

/-- Several channels marked on a link. -/
def Mfe.mapFreshnessOf (m : Mfe) (l : Link) (f : Freshness → Freshness) (cs : List Channel) : Mfe :=
  cs.foldl (fun m c => m.mapFreshness l f c) m

end Sys2Proof.Machine
end

