-- ==== Sys2Proof/Machine/Delivery.lean ====
section
/-! DEFINITION. Record rings and block delivery (chapter 8): filling posted blocks and the end of capture. -/

namespace Sys2Proof.Machine

/-- A WAITING block filled with the given entries. -/
def Posted.fill (p : Posted) (entries : List RingEntry) (ended flushed : Bool) : Posted :=
  { p with filled := some { entries := entries, ended := ended, flushed := flushed } }

/-- R148: the head block is filled whenever its size is at most the ring's entry count, and then the new head is
looked at in the same way. -/
def fillNormal : List RingEntry → List Posted → List RingEntry × List Posted
  | ring, [] => (ring, [])
  | ring, p :: ps =>
    if p.filled.isSome then
      ((fillNormal ring ps).1, p :: (fillNormal ring ps).2)
    else if p.size ≤ ring.length then
      ((fillNormal (ring.drop p.size) ps).1, p.fill (ring.take p.size) false false :: (fillNormal (ring.drop p.size) ps).2)
    else (ring, p :: ps)

/-- R153: every WAITING block is filled with END, the first with all that the ring holds. -/
def fillEnd : List RingEntry → List Posted → List RingEntry × List Posted
  | ring, [] => (ring, [])
  | ring, p :: ps =>
    if p.filled.isSome then ((fillEnd ring ps).1, p :: (fillEnd ring ps).2)
    else ((fillEnd [] ps).1, p.fill ring true false :: (fillEnd [] ps).2)

/-- R150: every WAITING block up to and with the one of the tag is filled with what the ring holds, FLUSHED. -/
def fillFlush (tag : Byte) : List RingEntry → List Posted → List RingEntry × List Posted
  | ring, [] => (ring, [])
  | ring, p :: ps =>
    if p.filled.isSome then ((fillFlush tag ring ps).1, p :: (fillFlush tag ring ps).2)
    else if p.tag = tag then (ring.drop p.size, p.fill (ring.take p.size) false true :: ps)
    else
      ((fillFlush tag (ring.drop p.size) ps).1,
        p.fill (ring.take p.size) false true :: (fillFlush tag (ring.drop p.size) ps).2)

def LinkState.withFilling (lk : LinkState) (r : List RingEntry × List Posted) : LinkState :=
  { lk with ring := r.1, posted := r.2 }

/-- The normal filling rule applied to a link (R148). -/
def LinkState.fillNormal (lk : LinkState) : LinkState := lk.withFilling (Machine.fillNormal lk.ring lk.posted)

/-- The head block: the oldest WAITING one (R146). -/
def LinkState.head (lk : LinkState) : Option Posted := lk.posted.find? (·.filled.isNone)

/-- A link has a capture unit ARMED or RUNNING (R152). -/
def State.capturing (s : State) (l : Link) : Bool :=
  s.cap.units.any (fun u => u.owner == some l && (u.state == .armed || u.state == .running))

/-- R152: no capture unit of the link is ARMED or RUNNING, and a head block is larger than the ring's count. -/
def State.endOfCapture (s : State) (l : Link) : Bool :=
  !s.capturing l &&
    match (s.link l).head with
    | none => false
    | some p => (s.link l).ring.length < p.size

/-- R148 and then R152, R153, as after every change of the queue or of the link's units. -/
def State.deliver (s : State) (l : Link) : State :=
  let s := s.modLink l (·.fillNormal)
  if s.endOfCapture l then
    s.modLink l (fun lk => lk.withFilling (fillEnd lk.ring lk.posted))
  else s

/-! ### Requests (R147, R150, R151) -/

/-- POST (R147). -/
def State.postBlock (s : State) (l : Link) (tag size : Byte) : State :=
  let k := (Request.post tag size).kind
  if size.toNat < 1 ∨ 15 < size.toNat then s.answerStatus l k .badArg
  else if Config.postedCapacity ≤ (s.link l).posted.length then s.answerStatus l k .noResource
  else if (s.link l).posted.any (·.tag == tag) then s.answerStatus l k .badArg
  else
    let count := (s.link l).ring.length
    let s := s.modLink l (fun lk =>
      { lk with posted := lk.posted ++ [{ tag := tag, size := size.toNat, filled := none }] })
    (s.deliver l).answer l k .ok [tag, byteOf count]

/-- FLUSH (R150). -/
def State.flushBlock (s : State) (l : Link) (tag : Byte) : State :=
  let k := (Request.flush tag).kind
  match (s.link l).posted.find? (·.tag == tag) with
  | none => s.answerStatus l k .badArg
  | some p =>
    if p.filled.isSome then s.answerStatus l k .ok
    else
      let s := s.modLink l (fun lk => lk.withFilling (fillFlush tag lk.ring lk.posted))
      (s.deliver l).answerStatus l k .ok

/-- CANCEL (R151). -/
def State.cancelBlock (s : State) (l : Link) (tag : Byte) : State :=
  let k := (Request.cancel tag).kind
  match (s.link l).posted.find? (·.tag == tag) with
  | none => s.answerStatus l k .badArg
  | some p =>
    if p.filled.isSome then s.answerStatus l k .busy
    else
      let s := s.modLink l (fun lk => { lk with posted := lk.posted.filter (fun q => q.tag != tag) })
      (s.deliver l).answerStatus l k .ok

end Sys2Proof.Machine
end

