-- ==== Sys2Proof/Machine/Capture.lean ====
section
/-! DEFINITION. The capture pool (chapter 7): offering and taking records (R140, R141), the start and end of
captures (R131, R132, R142) and the requests on capture units (R127 to R134). Watch units are in Watch.lean. -/

namespace Sys2Proof.Machine

/-! ### The end of a capture (R132) -/

/-- A unit ends: ENDED with its reason, notice CAPTURE on its owner's link, and the link's blocks looked at. -/
def State.endCapture (s : State) (u : Fin 3) (reason : CaptureEnd) : State :=
  let unit := s.unit u
  let s := s.setUnit u { unit with state := .ended, endReason := some reason }
  match unit.owner with
  | none => s
  | some l => (s.notify l (.capture u reason unit.taken unit.skipped)).deliver l

/-- Units that meet `p` end with the reason, in ascending order. -/
def State.endCaptures (s : State) (p : Fin 3 → CaptureUnit → Bool) (reason : CaptureEnd) : State :=
  three.foldl (fun s u => if p u (s.unit u) then s.endCapture u reason else s) s

/-! ### Offering and taking (R140, R141) -/

/-- The unit is offered records of this kind. -/
def CaptureUnit.offered (u : CaptureUnit) (k : RecordKind) : Bool :=
  u.state == .running &&
    match u.config with
    | none => false
    | some c => c.sources.getLsbD k.code

/-- At decimation position 0 the unit takes the record it is offered. -/
def CaptureUnit.takes (u : CaptureUnit) (k : RecordKind) : Bool := u.offered k && u.position == 0

/-- The decimation position advances with each record offered, returning to 0 at d. -/
def CaptureUnit.advance (u : CaptureUnit) (k : RecordKind) : CaptureUnit :=
  match u.config with
  | none => u
  | some c =>
    if u.offered k then { u with position := if u.position + 1 < c.decimation then u.position + 1 else 0 } else u

def takenTop : Nat := 4294967295

def skipTop : Nat := 65535

/-- A full ring (step 4 of R141): PAUSE units count a skip. -/
def CaptureUnit.skip (u : CaptureUnit) : CaptureUnit :=
  match u.config with
  | some c => if c.policy = .pause then { u with skipped := satSucc skipTop u.skipped } else u
  | none => u

def CaptureUnit.stopsWhenFull (u : CaptureUnit) : Bool :=
  match u.config with
  | some c => c.policy == .stop
  | none => false

/-- The taken count has reached the c of an end condition COUNT(c). -/
def CaptureUnit.countReached (u : CaptureUnit) : Bool :=
  match u.config with
  | some c => match c.stop with
    | .count n => n ≤ u.taken
    | _ => false
  | none => false

/-- The units of link `l` among the takers. -/
def State.takersOf (s : State) (l : Link) (takers : Triple Bool) : Triple Bool :=
  let f (u : Fin 3) : Bool := takers.get u && (s.unit u).owner == some l
  ⟨f 0, f 1, f 2⟩

/-- Counts of the taking units changed by `f`. -/
def State.modTakers (s : State) (mine : Triple Bool) (f : CaptureUnit → CaptureUnit) : State :=
  three.foldl (fun s u => if mine.get u then s.setUnit u (f (s.unit u)) else s) s

/-- The five steps of R141 for a link with at least one taking unit. Units that end by step 4 end before units that end
by step 5, whatever their numbers; within a step they end in ascending order (R132). That R141's order comes before
R132's is log entry 37. -/
def State.takeFor (s : State) (l : Link) (mine : Triple Bool) (r : Record) : State :=
  let seq := (s.link l).seq + 1
  let s := s.modLink l (fun lk => { lk with seq := seq })
  let s := s.modTakers mine (fun u => { u with taken := satSucc takenTop u.taken })
  let full := Config.ringCapacity ≤ (s.link l).ring.length
  let s :=
    if full then
      let s := s.modTakers mine CaptureUnit.skip
      s.endCaptures (fun u x => mine.get u && x.state == .running && x.stopsWhenFull) .ringFull
    else
      s.modLink l (fun lk => LinkState.fillNormal
        { lk with ring := lk.ring ++ [{ seq := seq, stamp := s.refTime, units := mine.mask, record := r }] })
  s.endCaptures (fun u x => mine.get u && x.state == .running && x.countReached) .count

/-- A produced record is offered to the running units of its kind, and each link with a taking unit handles it
once (R140, R141). -/
def State.offerRecord (s : State) (r : Record) : State :=
  let takers := s.cap.units.map (·.takes r.kind)
  let mineA := s.takersOf .a takers
  let mineS := s.takersOf .s takers
  let s := { s with cap := { s.cap with units := s.cap.units.map (·.advance r.kind) } }
  let s := if mineA.any id then s.takeFor .a mineA r else s
  if mineS.any id then s.takeFor .s mineS r else s

/-! ### Start and end by phase (R131, R132, R142) -/

/-- An ARMED unit whose start condition meets `p` enters RUNNING with the counts that ARM gave it. -/
def CaptureUnit.startIf (u : CaptureUnit) (p : StartCond → Bool) : CaptureUnit :=
  match u.config with
  | some c => if u.state = .armed ∧ p c.start then { u with state := .running } else u
  | none => u

def State.startCaptures (s : State) (p : StartCond → Bool) : State :=
  { s with cap := { s.cap with units := s.cap.units.map (·.startIf p) } }

/-- The unit is RUNNING with an end condition that meets `p`. -/
def CaptureUnit.runsTo (u : CaptureUnit) (p : EndCond → Bool) : Bool :=
  u.state == .running &&
    match u.config with
    | some c => p c.stop
    | none => false

/-- A record of a starting and ending event: ARMED units start, the record is offered, and the units that were
RUNNING before and end on the event do so (R137, R142). -/
def State.offerAround (s : State) (starts : StartCond → Bool) (ends : EndCond → Bool) (reason : CaptureEnd)
    (r : Record) : State :=
  let ending := s.cap.units.map (·.runsTo ends)
  let s := (s.startCaptures starts).offerRecord r
  s.endCaptures (fun u x => ending.get u && x.state == .running) reason

/-- The PHASE record of a change from `left` to `entered` (R122, R142). -/
def State.offerPhase (s : State) (left entered : Phase) (cause : Cause) : State :=
  s.offerAround (· == .phaseEntry entered) (· == .phaseExit left) .phase
    (.phase left entered cause s.csq.reasons)

/-! ### Requests on capture units (R127 to R134) -/

/-- R127: the lowest FREE capture unit goes to the link. -/
def State.claimCapture (s : State) (l : Link) : State :=
  let k := Request.claimCapture.kind
  match three.find? (fun u => (s.unit u).state == .free) with
  | none => s.answerStatus l k .noResource
  | some u =>
    (s.setUnit u { CaptureUnit.free with owner := some l, state := .claimed }).answer l k .ok [byteOf u.val]

/-- R128 for a capture unit: the number, then FREE, then the owner. -/
def State.withUnit (s : State) (l : Link) (k : Byte) (n : Byte) (f : Fin 3 → State) : State :=
  match fin3? n.toNat with
  | none => s.answerStatus l k .badArg
  | some u => if (s.unit u).owner = some l ∧ (s.unit u).state ≠ .free then f u else s.answerStatus l k .notOwner

/-- The watch unit of a condition must be owned by the requesting link (R129). -/
def State.ownWatch (s : State) (l : Link) (n : Nat) : Option (Fin 4) :=
  match fin4? n with
  | none => none
  | some w => if (s.watch w).owner = some l ∧ (s.watch w).state ≠ .free then some w else none

/-- The start condition of CONFIGURE, with the argument in effect (R129, R174). -/
def State.startOf (s : State) (l : Link) (form arg : Nat) : Option (StartCond × Byte) :=
  match form with
  | 0 => some (.immediate, 0)
  | 1 => (phaseOfCode arg).map (fun p => (.phaseEntry p, byteOf arg))
  | 2 => (s.ownWatch l arg).map (fun w => (.onWatch w, byteOf arg))
  | _ => none

/-- The end condition of CONFIGURE, with the argument in effect; COUNT(0) becomes COUNT(1) (R129, R174). -/
def State.stopOf (s : State) (l : Link) (form arg : Nat) : Option (EndCond × Nat) :=
  match form with
  | 0 => some (.never, 0)
  | 1 => some (.count (max 1 arg), max 1 arg)
  | 2 => (s.ownWatch l arg).map (fun w => (.onWatch w, arg))
  | 3 => (phaseOfCode arg).map (fun p => (.phaseExit p, arg))
  | _ => none

/-- CONFIGURE (R129). BUSY is judged before the arguments, which is the model's choice (log entry 36). -/
def State.configureUnit (s : State) (l : Link) (unit : Byte) (sources : Half) (startForm startArg endForm : Byte)
    (endArg : Half) (decimation policy : Byte) : State :=
  let k := (Request.configure unit sources startForm startArg endForm endArg decimation policy).kind
  s.withUnit l k unit fun u =>
    let x := s.unit u
    if x.state = .armed ∨ x.state = .running then s.answerStatus l k .busy
    else if sources = 0 ∨ 256 ≤ sources.toNat then s.answerStatus l k .badArg
    else
      match s.startOf l startForm.toNat startArg.toNat, s.stopOf l endForm.toNat endArg.toNat,
          policyOfCode policy.toNat with
      | some (start, startByte), some (stop, stopArg), some pol =>
        let d := clampNat 1 64 decimation.toNat
        let clamped : Bool := d != decimation.toNat || (endForm == 1 && endArg == 0)
        let config : CaptureConfig :=
          { sources := sources.truncate 8, start := start, stop := stop, decimation := d, policy := pol }
        (s.setUnit u { x with config := some config }).answer l k (if clamped then .adjusted else .ok)
          (halfBytes sources ++ [startForm, startByte, endForm] ++ nat16 stopArg ++ [byteOf d, pol.code])
      | _, _, _ => s.answerStatus l k .badArg

/-- A start condition judged at the ARM (R130). -/
def State.startHolds (s : State) : StartCond → Bool
  | .immediate => true
  | .phaseEntry p => s.csq.phase == p
  | .onWatch w => (s.watch w).state == .hit

/-- ARM (R130). -/
def State.armUnit (s : State) (l : Link) (unit : Byte) : State :=
  let k := (Request.arm unit).kind
  s.withUnit l k unit fun u =>
    let x := s.unit u
    if x.state = .armed ∨ x.state = .running then s.answerStatus l k .busy
    else
      match x.config with
      | none => s.answerStatus l k .badArg
      | some c =>
        let st : UnitState := if s.startHolds c.start then .running else .armed
        (s.setUnit u { x with state := st, position := 0, taken := 0, skipped := 0, endReason := none }).answer
          l k .ok [st.code]

/-- The end reason byte, 0 when absent. -/
def captureEndByte : Option CaptureEnd → Byte
  | none => 0
  | some r => r.code

/-- STOP_CAPTURE (R133). -/
def State.stopUnit (s : State) (l : Link) (unit : Byte) : State :=
  let k := (Request.stopCapture unit).kind
  s.withUnit l k unit fun u =>
    let x := s.unit u
    let s := if x.state = .armed ∨ x.state = .running then s.endCapture u .stopped else s
    let x := s.unit u
    s.answer l k .ok ([x.state.code] ++ nat32 x.taken ++ nat16 x.skipped ++ [captureEndByte x.endReason])

/-- RELEASE_CAPTURE (R134). -/
def State.releaseUnit (s : State) (l : Link) (unit : Byte) : State :=
  let k := (Request.releaseCapture unit).kind
  s.withUnit l k unit fun u =>
    let x := s.unit u
    let s := s.setUnit u CaptureUnit.free
    let s := if x.state = .armed ∨ x.state = .running then s.deliver l else s
    s.answer l k .ok (nat32 x.taken ++ nat16 x.skipped)

end Sys2Proof.Machine
end

