-- ==== Sys2Proof/Machine/Front.lean ====
section
/-! DEFINITION. The measurement front end (chapter 1): conversion arithmetic, judgement and counting, the
measurement round, READ and MEASURE. What other blocks do with a reading is in Conversion.lean. -/

namespace Sys2Proof.Machine

/-! ### Conversion (R4, R8) -/

/-- A temperature code is in range from 40 to 4055 (R4). -/
def codeInRange (c : Code) : Bool := 40 ≤ c.toNat && c.toNat ≤ 4055

/-- The offset of a temperature channel (9.1, block 1). -/
def State.tempOffset (s : State) : Channel → Int
  | .tIn => s.signedSetting 1 17
  | .tExh => s.signedSetting 1 18
  | .tHsg => s.signedSetting 1 19
  | .iHeat | .g | .iMot => 0

/-- R4, steps 1 to 3, with V from the working copy of block 1. -/
def State.temperature (s : State) (ch : Channel) (c : Code) : Int :=
  let k := c.toNat / 256
  let frac : Int := (c.toNat % 256 : Nat)
  let v := s.signedSetting 1 k
  v + truncDiv ((s.signedSetting 1 (k + 1) - v) * frac) 256 + s.tempOffset ch

/-- R8: (code − offset) × gain / 256, truncated, clamped to 0 at the bottom. -/
def scaleCurrent (offset gain : Nat) (c : Code) : Int :=
  max 0 (truncDiv (((c.toNat : Int) - offset) * gain) 256)

/-- The value a current or bar code gives (R2, R8). -/
def State.plainValue (s : State) (ch : Channel) (c : Code) : Int :=
  match ch with
  | .iMot => scaleCurrent (s.setting 1 20) (s.setting 1 21) c
  | .iHeat => scaleCurrent (s.setting 1 22) (s.setting 1 23) c
  | .g | .tIn | .tExh | .tHsg => c.toNat

/-! ### Judgement of a temperature (R5, R6, R10) -/

/-- The marker of a DIAG channel. -/
def diagValue : Int := 32767

/-- A conversion as judged: the channel afterwards, its status, and whether it entered DIAG. -/
structure Judged where
  channel : ChannelState
  status  : TempStatus
  entered : Bool
  deriving DecidableEq, Repr

/-- The table of R5; `good` is the converted temperature of an in-range code. -/
def ChannelState.judge (c : ChannelState) (code : Code) (good : Int) (now : Word) : Judged :=
  let c := { c with code := code, time := now }
  if codeInRange code then
    let n := satSucc 3 c.goodCount
    let c := { c with goodCount := n, outCount := 0 }
    if c.diag ∧ n < 3 then ⟨{ c with value := diagValue }, .diag, false⟩
    else ⟨{ c with value := good, diag := false, freshA := .fresh, freshS := .fresh }, .good, false⟩
  else
    let n := satSucc 3 c.outCount
    let c := { c with outCount := n, goodCount := 0 }
    if c.diag then ⟨{ c with value := diagValue }, .diag, false⟩
    else if n < 3 then ⟨c, .suspect, false⟩
    else ⟨{ c with value := diagValue, diag := true, freshA := .diag, freshS := .diag }, .diag, true⟩

/-- The judgement of a code on a temperature channel as the part stands. -/
def State.judged (s : State) (ch : Channel) (code : Code) : Judged :=
  (s.mfe.channel ch).judge code (s.temperature ch code) s.refTime

/-- A current or bar conversion: always GOOD (R8, R10). -/
def ChannelState.replace (c : ChannelState) (code : Code) (value : Int) (now : Word) : ChannelState :=
  { c with value := value, code := code, time := now, freshA := .fresh, freshS := .fresh }

def State.setChannel (s : State) (ch : Channel) (x : ChannelState) : State :=
  { s with mfe := s.mfe.setChannel ch x }

/-- A conversion of a current or bar channel. -/
def State.convertPlain (s : State) (ch : Channel) (code : Code) : State :=
  s.setChannel ch ((s.mfe.channel ch).replace code (s.plainValue ch code) s.refTime)

/-- The bar excitation reverses with each bar sample (R2). -/
def State.reverseBars (s : State) : State :=
  { s with mfe := { s.mfe with lastPositive := !s.mfe.lastPositive } }

/-! ### The measurement round (R12, R13) -/

/-- One channel in a MEASURE reply (R175). -/
def measureEntry (c : ChannelState) (l : Link) : List Byte :=
  int16 c.value ++ nat16 c.code.toNat ++ [(c.freshness l).code] ++ wordBytes c.time

/-- The contents of the MEASURE reply: channels 0 to 5. -/
def State.measureContents (s : State) (l : Link) : List Byte :=
  sixChannels.flatMap (fun ch => measureEntry (s.mfe.channel ch) l)

/-- R13: the round ends when no channel is outstanding. -/
def State.endRound (s : State) : State :=
  match s.mfe.round with
  | none => s
  | some r =>
    if r.outstanding.isEmpty then
      if r.wanted then
        let contents := s.measureContents r.link
        let s := { s with mfe := { s.mfe.mapFreshnessOf r.link Freshness.reported sixChannels with round := none } }
        s.answer r.link Request.measure.kind .ok contents
      else { s with mfe := { s.mfe with round := none } }
    else s

/-- A conversion removes its channel from the outstanding set of a round. -/
def State.roundDone (s : State) (ch : Channel) : State :=
  match s.mfe.round with
  | none => s
  | some r =>
    { s with mfe := { s.mfe with round := some { r with outstanding := r.outstanding.filter (· != ch) } } }

/-- MEASURE (R12). -/
def State.measureRequest (s : State) (l : Link) : State :=
  let k := Request.measure.kind
  if s.mfe.round.isSome then s.answerStatus l k .busy
  else if s.mfe.mode = .running then s.answerStatus l k .wrongPhase
  else
    let round : Round := { link := l, outstanding := sixChannels, wanted := true }
    ({ s with mfe := { s.mfe with round := some round } }).modLink l
      (fun lk => { lk with inProgress := some .measure })

/-! ### READ (R11) -/

/-- The channel of a quantity number: q in 0..5 the value of channel q, q in 6..11 the code of channel q − 6. -/
def quantityChannel (q : Byte) : Option Channel :=
  if q.toNat < 6 then channelOfCode q.toNat else if q.toNat < 12 then channelOfCode (q.toNat - 6) else none

/-- One reading entry (R175). -/
def readEntry (m : Mfe) (l : Link) (q : Byte) : List Byte :=
  match quantityChannel q with
  | none => []
  | some ch =>
    let c := m.channel ch
    [q, (c.freshness l).code] ++ (if q.toNat < 6 then int16 c.value else nat16 c.code.toNat) ++ wordBytes c.time

/-- READ (R11): every entry shows the freshness as it stood, then each reported channel is marked. -/
def State.readRequest (s : State) (l : Link) (qs : List Byte) : State :=
  let k := (Request.read qs).kind
  if !readAdmitted qs || qs.any (fun q => (quantityChannel q).isNone) then s.answerStatus l k .badArg
  else
    let contents := qs.flatMap (readEntry s.mfe l)
    let s := { s with mfe := s.mfe.mapFreshnessOf l Freshness.reported (qs.filterMap quantityChannel) }
    s.answer l k .ok contents

/-! ### Mode (R1) -/

/-- The mode that a phase calls for. -/
def Phase.frontMode : Phase → FrontMode
  | .idle | .done => .onRequest
  | .prep | .drying | .cooling | .guard | .hold | .fault | .service => .running

/-- The front end follows a phase change: a mode it is already in leaves the schedule undisturbed. -/
def State.followFront (s : State) (entered : Phase) : State :=
  match s.mfe.mode, entered.frontMode with
  | .onRequest, .running =>
    { s with mfe := { s.mfe with
      mode := .running, rotation := .tIn, fastDue := some (s.clock + 1), slowDue := some (s.clock + 250) } }
  | .running, .onRequest =>
    { s with mfe := { s.mfe with mode := .onRequest, fastDue := none, slowDue := none } }
  | _, _ => s

/-- The rotation of the slow channels (R3). -/
def Channel.nextSlow : Channel → Channel
  | .tIn => .tExh
  | .tExh => .tHsg
  | .tHsg => .iHeat
  | .iHeat | .g | .iMot => .tIn

/-- R14: a reset of link `l`. -/
def State.resetFront (s : State) (l : Link) : State :=
  let m := s.mfe.mapFreshnessOf l Freshness.linkReset sixChannels
  let round := m.round.map (fun r => if r.link = l then { r with wanted := false } else r)
  { s with mfe := { m with round := round } }

end Sys2Proof.Machine
end

