-- ==== Sys2Proof/Machine/Dryness.lean ====
section
/-! DEFINITION. The dryness estimator (chapter 2): contacts, windows, the moisture index, smoothing, streak,
history and remaining time. The window end as an event is in Watch.lean, since it reaches the watches and the
sequencer. -/

namespace Sys2Proof.Machine

/-- A burst is in progress at the drum (R43). -/
def Motion.inBurst : Motion → Bool
  | .restIn | .runOpp _ | .restOut => true
  | .idle | .starting _ | .run _ | .rest => false

/-! ### Windows begin and fill (R22, R24) -/

/-- A window starts (R22). -/
def State.startWindow (s : State) : State :=
  let w : Window :=
    { method := s.dry.method, start := s.clock, length := s.windowLength
      a := 0, sumG := 0, n := 0, turn := 0, dCount := 0, dSum := 0, burst := s.dmc.motion.inBurst }
  { s with dry := { s.dry with window := some w } }

/-- The window in progress is discarded (R22). -/
def State.discardWindow (s : State) : State := { s with dry := { s.dry with window := none } }

def State.modWindow (s : State) (f : Window → Window) : State :=
  { s with dry := { s.dry with window := s.dry.window.map f } }

/-- A bar sample adds to the window in progress (R24). -/
def Window.addSample (g : Nat) (above turning : Bool) (w : Window) : Window :=
  { w with
    a := w.a + above.toNat
    sumG := if above then w.sumG + g else w.sumG
    turn := w.turn + turning.toNat }

/-- A control period's demand adds to a DEMAND window (R24). -/
def Window.addDemand (d : Nat) (w : Window) : Window :=
  match w.method with
  | .demand => { w with dCount := w.dCount + 1, dSum := w.dSum + d }
  | .bars => w

/-- A burst begins while the window is in progress (R24). -/
def State.markBurst (s : State) : State := s.modWindow (fun w => { w with burst := true })

/-! ### Contacts (R17 to R20, R25) -/

/-- The figures of a contact at its end (R18). -/
def Contact.record (c : Contact) : Record := .contact (min 65535 (c.lastAbove + 1)) c.peak (c.sum / c.count)

/-- A contact ends: its record is produced and it is removed (R18, R19). -/
def State.endContact (s : State) (c : Contact) : State :=
  ({ s with dry := { s.dry with contact := none } }).offerRecord c.record

/-- BAR_SHORT latches (R20, R21). -/
def Dry.latchBarShort (d : Dry) : Dry :=
  let d := { d with barShort := true, contact := none }
  match d.method with
  | .demand => d
  | .bars =>
    { d with
      method := .demand, streak := 0, history := [], remaining := 255
      estimate := if d.estimate = .declared then .declared else .settling }

/-- A contact that has not ended at this sample goes on, or is abandoned after 20,000 samples (R20). -/
def State.keepContact (s : State) (c : Contact) : State :=
  if 20000 ≤ c.since then { s with dry := s.dry.latchBarShort }
  else { s with dry := { s.dry with contact := some c } }

/-- A contact opens at an above sample (R17). -/
def Contact.opened (clock g : Nat) : Contact :=
  { start := clock, since := 0, lastAbove := 0, below := 0, peak := g, count := 1, sum := g }

/-- A further above sample (R18). -/
def Contact.above (c : Contact) (g : Nat) : Contact :=
  { c with
    since := c.since + 1, lastAbove := c.since + 1, below := 0, peak := max c.peak g
    count := c.count + 1, sum := c.sum + g }

/-- A further below sample (R18). -/
def Contact.dip (c : Contact) : Contact := { c with since := c.since + 1, below := c.below + 1 }

/-- A bar sample of the running schedule (R17, R18, R20, R24, R25). -/
def State.barSample (s : State) (g : Nat) : State :=
  let above : Bool := s.contactThreshold ≤ g
  let s := s.modWindow (Window.addSample g above s.dmc.turning)
  match s.dry.contact with
  | none => if above then { s with dry := { s.dry with contact := some (Contact.opened s.clock g) } } else s
  | some c =>
    if above then s.keepContact (c.above g)
    else if c.dip.below < 3 then s.keepContact c.dip
    else (s.modWindow (fun w => { w with n := w.n + 1 })).endContact c.dip

/-- R19: the front end leaves RUNNING with a contact open. -/
def State.endContactOnLeaving (s : State) : State :=
  match s.dry.contact with
  | none => s
  | some c => s.endContact c

/-! ### The window's end (R26 to R33) -/

/-- The conditions of R26 that fail at the end of window `w`. -/
def State.windowCauses (s : State) (w : Window) : WindowCauses :=
  { lowTurning := w.turn < w.length * 4 / 5
    burst := w.burst
    tangle := s.tangleThreshold ≤ s.tgm.c
    barShort := w.method == .bars && s.dry.barShort
    sensor := s.mfe.tExh.diag
    noDemand := w.method == .demand && w.dCount == 0 }

/-- No condition failed. -/
def WindowCauses.isValid (c : WindowCauses) : Bool :=
  !(c.lowTurning || c.burst || c.tangle || c.barShort || c.sensor || c.noDemand)

/-- The compensation temperature in °C (R28). -/
def compensationTemp (tExh : Int) : Int := clampInt 0 100 (truncDiv tExh 10)

/-- The moisture index of a BARS window (R28). -/
def moistureIndex (w : Window) (tExh : Int) (alpha gref : Nat) : Nat :=
  let f := min 1000 (1000 * w.a / w.length)
  let gm := if w.a = 0 then 0 else w.sumG / w.a
  let den : Int := 1024 + alpha * (compensationTemp tExh - 25)
  let gcomp := gm * 1024 / den.toNat
  min 4000 (f * gcomp / gref)

/-- The smoothing of R29. -/
def smooth (old new : Nat) : Nat := (3 * old + new + 2) / 4

/-- R31: appended as the newest of at most 8. -/
def appendHistory (h : List Nat) (x : Nat) : List Nat :=
  (if Config.sHistory ≤ h.length then h.drop 1 else h) ++ [x]

/-- R32: the remaining estimate in minutes, from the S history after the append. -/
def remainingEstimate (target length s : Nat) (history : List Nat) : Nat :=
  if s ≤ target then 0
  else if history.length < 4 then 255
  else
    let slope := truncDiv ((history.headD 0 : Int) - (history.getLastD 0 : Int)) ((history.length : Int) - 1)
    if slope ≤ 0 then 255
    else min 250 (ceilDiv (ceilDiv (s - target) slope.toNat * length / 1000) 60)

/-- R29 for an estimate and its state; in DECLARED the rule names no update (log entry 14). -/
def updateEstimate (st : EstimateState) (old new : Nat) : Nat × EstimateState :=
  match st with
  | .settling => (new, .tracking)
  | .tracking => (smooth old new, .tracking)
  | .declared => (old, .declared)

/-- The streak of R30, against the threshold of the window's method. -/
def nextStreak (streak estimate threshold : Nat) : Nat :=
  if estimate ≤ threshold then satSucc 255 streak else 0

/-- The estimator after the end of a BARS window (R28 to R32). -/
def Dry.closeBars (d : Dry) (w : Window) (valid : Bool) (m target : Nat) : Dry :=
  let d := { d with m := m, lastN := w.n, window := none }
  if valid then
    let u := updateEstimate d.estimate d.s m
    let h := appendHistory d.history u.1
    { d with
      s := u.1, estimate := u.2, history := h, streak := nextStreak d.streak u.1 target
      remaining := remainingEstimate target w.length u.1 h }
  else d

/-- The mean demand of a DEMAND window (R33). -/
def Window.meanDemand (w : Window) : Nat := if w.dCount = 0 then 0 else w.dSum / w.dCount

/-- The estimator after the end of a DEMAND window (R33, R34). -/
def Dry.closeDemand (d : Dry) (w : Window) (valid : Bool) (limit : Nat) : Dry :=
  let d := { d with dw := w.meanDemand, lastN := w.n, window := none }
  if valid then
    let u := updateEstimate d.estimate d.ds w.meanDemand
    { d with ds := u.1, estimate := u.2, streak := nextStreak d.streak u.1 limit }
  else d

/-- The estimator after the end of window `w`. -/
def State.closeWindow (s : State) (w : Window) : Dry :=
  let valid := (s.windowCauses w).isValid
  match w.method with
  | .bars =>
    s.dry.closeBars w valid (moistureIndex w s.mfe.tExh.value s.alpha s.gref) s.program.target
  | .demand => s.dry.closeDemand w valid s.program.demandLimit

/-- The WINDOW record (R35); `d` is the estimator after the window. -/
def windowRecord (w : Window) (causes : WindowCauses) (d : Dry) : Record :=
  match w.method with
  | .bars => .window .bars causes.isValid causes d.m d.s d.streak (min 255 w.n)
  | .demand => .window .demand causes.isValid causes d.dw d.ds d.streak (min 255 w.n)

/-- The drying elapsed seconds of the cycle record (R121). -/
def State.dryingElapsed (s : State) : Nat := s.csq.dryingMs / 1000

/-- R30: at a valid window's end the streak is at least K and the minimum drying time has passed. -/
def State.declares (s : State) (valid : Bool) (d : Dry) : Bool :=
  valid && s.declarationCount ≤ d.streak && s.program.minDrying * 60 ≤ s.dryingElapsed

/-- The estimate of STATUS and PERIODIC_STATUS: S under BARS, Ds under DEMAND (R37). -/
def Dry.current (d : Dry) : Nat :=
  match d.method with
  | .bars => d.s
  | .demand => d.ds

/-- R38: the estimator at START. -/
def Dry.atStart (d : Dry) : Dry :=
  { Dry.reset with contact := d.contact, window := d.window }

end Sys2Proof.Machine
end

