-- ==== Sys2Proof/Machine/Heat.lean ====
section
/-! DEFINITION. The heat stage controller (chapter 5): availability, wear order, caps, interlocks, switching,
element supervision, fan and airflow. What it reports to the cycle sequencer is made in Cycle.lean and later. -/

namespace Sys2Proof.Machine

/-! ### Stages, availability, wear order (R76, R78) -/

/-- R76. -/
def State.available (s : State) (n : StageNo) : Bool := s.stageEnabled n && !(s.stage n).openMark

/-- N_av, counted at each moment it is used (R76). -/
def State.nAvailable (s : State) : Nat := (four.filter (fun n => s.available n)).length

/-- The number of stage outputs on. -/
def State.stagesOn (s : State) : Nat := s.hsc.stages.count Stage.on

/-- The set of stage outputs on. -/
def State.onSet (s : State) : Quad Bool := s.hsc.stages.map Stage.on

/-- The set of OPEN marks. -/
def State.openSet (s : State) : Quad Bool := s.hsc.stages.map Stage.openMark

def insertByWear (q : Quad Stage) (n : StageNo) : List StageNo → List StageNo
  | [] => [n]
  | x :: xs => if (q.get n).onTime < (q.get x).onTime then n :: x :: xs else x :: insertByWear q n xs

/-- R78: by on-time, smallest first; equal on-times in order of number. -/
def wearOrder (q : Quad Stage) : List StageNo := four.foldl (fun l n => insertByWear q n l) []

/-! ### Switching one output (R87, R90) -/

/-- R90: a test whose reading after has not been taken is dropped when another stage's output goes off. -/
def Stage.dropUnread (st : Stage) : Stage :=
  match st.test with
  | some t => if t.after.isNone then { st with test := none } else st
  | none => st

/-- The output of stage `n` goes off (R87, R90). Its remainder stands as it is, also at a full second not yet counted (log
entry 40). -/
def State.stageOff (s : State) (n : StageNo) : State :=
  if (s.stage n).on then
    let q := s.hsc.stages.map Stage.dropUnread
    let st := { q.get n with on := false, switchTime := s.clock, offWaived := false, test := none }
    { s with hsc := { s.hsc with stages := q.set n st, lastOn := some s.clock } }
  else s

/-- The output of stage `n` comes on: its test is armed with the I_heat reading as it stands (R87, R90). Whether
the stuck report is armed after it is a free value, since R87 and R92 say opposite things (log entry 12). -/
def State.stageOn (s : State) (n : StageNo) : State :=
  let st := { s.stage n with
    on := true, switchTime := s.clock, offWaived := false
    test := some { baseline := s.mfe.iHeat.value, after := none } }
  { s with hsc := { s.hsc with stages := s.hsc.stages.set n st, stuckArmed := Config.armedBySwitchOn } }

/-- Several outputs go off, in the order given. -/
def State.stagesOff (s : State) (ns : List StageNo) : State := ns.foldl State.stageOff s

/-- Every stage is shed. -/
def State.shedAll (s : State) : State := s.stagesOff four

/-- The stages on, most worn first. -/
def State.mostWornOn (s : State) : List StageNo :=
  ((wearOrder s.hsc.stages).filter (fun n => (s.stage n).on)).reverse

/-! ### Caps (R82, R83, R84) -/

/-- The maximum stages of the program copy, 4 when there is none (R82). -/
def State.maxStages (s : State) : Nat :=
  match s.csq.program with
  | some p => p.maxStages
  | none => 4

/-- R82. -/
def State.effectiveCap (s : State) : Nat :=
  min (min s.maxStages s.nAvailable) (min s.hsc.inletCap s.hsc.tangleCap)

/-- R82: when the cap falls below the number on, stages go off, most worn first, without regard to min_on. -/
def State.shedToCap (s : State) : State := s.stagesOff (s.mostWornOn.take (s.stagesOn - s.effectiveCap))

/-- R83: the inlet cap at an update. -/
def State.nextInletCap (s : State) : Nat :=
  let t := s.mfe.tIn.value
  let limit : Int := s.inletLimit
  if s.mfe.tIn.diag then 2
  else if limit ≤ t then s.stagesOn - 1
  else if t < limit - 100 then min 4 (s.hsc.inletCap + 1)
  else s.hsc.inletCap

def State.setInletCap (s : State) (c : Nat) : State :=
  ({ s with hsc := { s.hsc with inletCap := c } }).shedToCap

/-- An update of the inlet cap (R83). -/
def State.updateInletCap (s : State) : State := s.setInletCap s.nextInletCap

/-- The tangle cap follows the tangle monitor's flag (R84). -/
def State.setTangleCap (s : State) (flag : Bool) : State :=
  ({ s with hsc := { s.hsc with tangleCap := if flag then 1 else 4 } }).shedToCap

/-- R76, R82: a stage that is on and no longer available goes off, and the cap is formed anew. -/
def State.dropUnavailable (s : State) : State :=
  (s.stagesOff (four.filter (fun n => !s.available n))).shedToCap

/-! ### Interlocks (R88, R89) -/

/-- A phase in which a stage may be on: DRYING, or SERVICE for a stage under test. -/
def Phase.mayHeat : Phase → Bool
  | .drying | .service => true
  | .idle | .prep | .cooling | .guard | .done | .hold | .fault => false

/-- The pause interlock: not turning, and no allowance timer runs (R88, R89). -/
def State.pauseInterlock (s : State) : Bool := !s.hsc.turning && s.hsc.pauseDue.isNone

/-- One of the interlocks of R88 holds. -/
def State.interlocked (s : State) : Bool :=
  !s.csq.phase.mayHeat || s.pins.doorOpen || s.pins.cutOpen || s.hsc.airflow != .proven
    || s.mfe.tExh.diag || s.mfe.tHsg.diag || s.hsc.lockout || s.pauseInterlock

/-- R88: every stage is shed at once when an interlock holds. -/
def State.enforce (s : State) : State := if s.interlocked then s.shedAll else s

/-- "Turning begins" at the heat stage controller (R89). -/
def State.heatTurningBegins (s : State) : State :=
  { s with hsc := { s.hsc with turning := true, pauseDue := none, spent := false } }

/-- "Turning ends" at the heat stage controller: the allowance timer starts; an allowance of 0 sheds (R89). -/
def State.heatTurningEnds (s : State) : State :=
  let a := s.pauseAllowance
  let h := { s.hsc with turning := false, turningEnd := some s.clock }
  if a = 0 then State.enforce { s with hsc := { h with pauseDue := none, spent := true } }
  else { s with hsc := { h with pauseDue := some (s.clock + 1000 * a) } }

/-! ### The demand (R80) -/

/-- The error of R80. -/
def heatError (setpoint : Nat) (tExh : Int) : Int := clampInt (-500) 500 ((setpoint : Int) - tExh)

/-- The proportional part of R80. -/
def proportional (kp : Nat) (e : Int) : Int := truncDiv (kp * e) 16

/-- The integral step of R80. -/
def integralStep (ki : Nat) (e : Int) : Int := truncDiv (ki * e) 64

/-- The integral of R80: held back when the demand is saturated in the direction of the step. -/
def nextIntegral (i : Nat) (p step : Int) : Nat :=
  let cand := clampInt 0 1000 ((i : Int) + step)
  if p + cand > 1000 ∧ step > 0 then i
  else if p + cand < 0 ∧ step < 0 then i
  else cand.toNat

/-- The demand of R80. -/
def demandOf (p : Int) (i : Nat) : Nat := (clampInt 0 1000 (p + i)).toNat

/-- Step 2 of a period (R80); with T_exh DIAG nothing is computed. -/
def State.computeDemand (s : State) : State :=
  if s.mfe.tExh.diag then s
  else
    let e := heatError s.program.setpoint s.mfe.tExh.value
    let p := proportional s.kp e
    let i := nextIntegral s.hsc.i p (integralStep s.ki e)
    let d := demandOf p i
    let s := { s with hsc := { s.hsc with i := i, d := d, nReq := (d * s.nAvailable + 500) / 1000 } }
    s.modWindow (Window.addDemand d)

/-! ### Choosing and switching (R85, R86) -/

/-- The stage has been on for at least min_on (R85). -/
def State.minOnPassed (s : State) (n : StageNo) : Bool := 1000 * s.minOn ≤ s.clock - (s.stage n).switchTime

/-- The stage counts as off for at least min_off at a period (R86). -/
def State.minOffPassed (s : State) (n : StageNo) : Bool :=
  (s.stage n).offWaived || 1000 * s.minOff ≤ s.clock - (s.stage n).switchTime

/-- An open-element test is pending on any stage. -/
def State.testPending (s : State) : Bool := s.hsc.stages.any (fun st => st.test.isSome)

/-- Step 4 of a period (R85, R86). -/
def State.switchStages (s : State) : State :=
  let target := min s.hsc.nReq s.effectiveCap
  let on := s.stagesOn
  if target < on then
    s.stagesOff ((s.mostWornOn.filter (fun n => s.minOnPassed n)).take (on - target))
  else if on < target ∧ !s.interlocked ∧ s.hsc.turning ∧ !s.testPending then
    match (wearOrder s.hsc.stages).find? (fun n => s.available n && !(s.stage n).on && s.minOffPassed n) with
    | some n => s.stageOn n
    | none => s
  else s

/-! ### Element supervision (R90, R91, R92) -/

/-- R90: the first I_heat conversion after the switch is recorded as the reading after. -/
def Stage.readAfter (value : Int) (st : Stage) : Stage :=
  match st.test with
  | some t => if t.after.isNone then { st with test := some { t with after := some value } } else st
  | none => st

def State.recordAfter (s : State) (value : Int) : State :=
  { s with hsc := { s.hsc with stages := s.hsc.stages.map (Stage.readAfter value) } }

/-- R91 for one stage: the test passes, or the stage is marked OPEN, switched off and notice STAGE is raised. -/
def State.judgeTest (s : State) (n : StageNo) : State :=
  match (s.stage n).test with
  | none => s
  | some t =>
    match t.after with
    | none => s
    | some after =>
      let st := { s.stage n with test := none }
      if ((s.expectedCurrent n / 2 : Nat) : Int) ≤ after - t.baseline then s.setStage n st
      else
        let s := (s.setStage n { st with openMark := true }).stageOff n
        s.notifyBoth (.stage (n.val + 1) false 0)

/-- Every pending test with a reading after is judged (R91), and stages above the new cap are shed (R82). -/
def State.judgeTests (s : State) : State := (four.foldl State.judgeTest s).shedToCap

/-- The smallest expected current among the enabled stages (R92). -/
def State.smallestExpected (s : State) : Option Nat :=
  ((four.filter (fun n => s.stageEnabled n)).map (fun n => s.expectedCurrent n)).foldl
    (fun m x => some (match m with | none => x | some y => min x y)) none

/-- The current condition of R92. -/
def State.stuckCurrent (s : State) (value : Int) : Bool :=
  match s.smallestExpected with
  | none => false
  | some x => ((x / 2 : Nat) : Int) ≤ value

/-- The last moment at which an output was on: now, while one is on (R87). -/
def State.lastStageOn (s : State) : Option Nat :=
  if s.hsc.stages.any Stage.on then some s.clock else s.hsc.lastOn

/-- Every output has been off for at least 4,000 ms; since the reset when none was on since (R92). -/
def State.longOff (s : State) : Bool :=
  !s.hsc.stages.any Stage.on && 4000 ≤ s.clock - s.hsc.lastOn.getD s.resetTime

/-- HEAT_STUCK is to be reported at this I_heat conversion (R92). -/
def State.stuck (s : State) (value : Int) : Bool := s.longOff && s.stuckCurrent value && s.hsc.stuckArmed

/-- The stuck report after this conversion: disarmed by a report, armed by a conversion that does not meet the
current condition; no check with no stage enabled (R92). -/
def State.afterStuckCheck (s : State) (value : Int) : State :=
  if s.smallestExpected.isNone then s
  else if s.stuck value then { s with hsc := { s.hsc with stuckArmed := false } }
  else if s.stuckCurrent value then s
  else { s with hsc := { s.hsc with stuckArmed := true } }

/-! ### Fan and airflow (R94 to R97) -/

/-- The fan output goes on; the airflow state leaves OFF (R96). -/
def State.fanOn (s : State) : State :=
  let h := { s.hsc with fanDemand := true, fanOn := true, afterRun := none }
  { s with hsc := { h with airflow := if h.airflow = .off then .proving else h.airflow } }

/-- The fan output goes off; the airflow state is OFF and its deadlines are removed (R96). -/
def State.fanOff (s : State) : State :=
  State.enforce { s with hsc := { s.hsc with
    fanDemand := false, fanOn := false, afterRun := none, airflow := .off, proofDue := none, graceDue := none } }

/-- A stage output was on within the last 60,000 ms (R95). -/
def State.recentlyHeated (s : State) : Bool :=
  match s.lastStageOn with
  | none => false
  | some t => s.clock - t ≤ 60000

/-- The fan demand ends in a case that allows after-run (R95). -/
def State.fanDemandEnds (s : State) : State :=
  if s.hsc.fanDemand then
    if s.recentlyHeated then
      { s with hsc := { s.hsc with fanDemand := false, afterRun := some (s.clock + 60000) } }
    else s.fanOff
  else s

/-- The fan demand of a phase (R94); SERVICE is left to its tests. -/
def State.followFan (s : State) (entered : Phase) : State :=
  match entered with
  | .prep | .drying | .cooling | .guard => s.fanOn
  | .hold | .done | .idle => s.fanDemandEnds
  | .fault =>
    match s.csq.record.fault with
    | some f => if f.kind = .heatStuck then s.fanOn else s.fanOff
    | none => s.fanOff
  | .service => s

/-- The phases in which the loss of proven airflow is supervised (R97). -/
def Phase.supervisesAir : Phase → Bool
  | .prep | .drying | .cooling | .guard => true
  | .idle | .done | .hold | .fault | .service => false

/-- The airflow deadlines at a phase change (R96, R97). -/
def State.followAirflow (s : State) (left entered : Phase) : State :=
  let h := s.hsc
  let h := if left = .prep then { h with proofDue := none } else h
  let h := if entered.supervisesAir then h else { h with graceDue := none }
  let h :=
    if entered = .prep then
      { h with
        airflow := if h.airflow = .lost then .proving else h.airflow
        proofDue := if h.airflow = .proven then none else some (s.clock + 10000) }
    else h
  { s with hsc := h }

/-- Entry into SERVICE: OPEN marks and lockout cleared, inlet cap 4 (R76, R83, R93). -/
def Hsc.enterService (h : Hsc) : Hsc :=
  { h with
    stages := h.stages.map (fun st => { st with openMark := false })
    lockout := false, inletCap := 4 }

/-- The heat stage controller follows a phase change (R79, R88, R94, R96, R97). -/
def State.followHeat (s : State) (left entered : Phase) : State :=
  let s := { s with hsc := { s.hsc with
    periodDue := if entered = Phase.drying then some (s.clock + 2000) else none } }
  let s := if entered = .service then { s with hsc := s.hsc.enterService } else s
  ((s.enforce.followFan entered).followAirflow left entered).enforce

/-- The airflow switch opens or closes (R96, R97). In OFF it changes nothing, also just after a fault AIRFLOW (log
entry 39). -/
def State.airflowSwitch (s : State) (closed : Bool) : State :=
  match s.hsc.airflow, closed with
  | .proving, true => { s with hsc := { s.hsc with airflow := .proven, proofDue := none } }
  | .proven, false =>
    State.enforce { s with hsc := { s.hsc with
      airflow := .lost
      graceDue := if s.csq.phase.supervisesAir then some (s.clock + 30000) else s.hsc.graceDue } }
  | .lost, true => { s with hsc := { s.hsc with airflow := .proven, graceDue := none } }
  | .off, _ | .proving, false | .proven, true | .lost, false => s

/-! ### START and SERVICE (R98, R101) -/

/-- A stage at START: every stage counts as off for min_off. -/
def Stage.atStart (st : Stage) : Stage :=
  { st with offWaived := true, openMark := false, test := none, testDemand := false }

/-- R101, the column "At START"; the fan and the airflow follow with the PREP demand. -/
def State.heatAtStart (s : State) : State :=
  let s := s.shedAll
  { s with hsc := { s.hsc with
    d := 0, i := 0, stages := s.hsc.stages.map Stage.atStart
    inletCap := 4, tangleCap := 4, lockout := false, energy := 0 } }

/-- min_off has passed since the switch time of a stage under test (R98; R86 speaks of periods alone). -/
def State.testMinOffPassed (s : State) (n : StageNo) : Bool :=
  1000 * s.minOff ≤ s.clock - (s.stage n).switchTime

/-- The conditions of R98 for a stage test's output to come on; the drum must be turning (R98), so none comes on while
an allowance timer runs (R89). -/
def State.testMayStart (s : State) (n : StageNo) : Bool :=
  (s.stage n).testDemand && !(s.stage n).on && s.available n && s.testMinOffPassed n && s.hsc.turning
    && !s.interlocked && !s.testPending && s.stagesOn < s.effectiveCap

/-- In SERVICE a stage under test comes on when the last of its conditions comes true (R98, log entry 16). -/
def State.settleTests (s : State) : State :=
  if s.csq.phase = .service then
    four.foldl (fun s n => if s.testMayStart n then s.stageOn n else s) s
  else s

/-- A stage test goes off: the output waits for min_on (R98). -/
def State.stageTestOff (s : State) (n : StageNo) : State :=
  let s := s.setStage n { s.stage n with testDemand := false }
  if (s.stage n).on ∧ s.minOnPassed n then s.stageOff n else s

/-- Every stage test demand becomes off (R125). -/
def State.dropTestDemands (s : State) : State :=
  { s with hsc := { s.hsc with stages := s.hsc.stages.map (fun st => { st with testDemand := false }) } }

/-- A second of on-time and, outside SERVICE, of energy (R77). -/
def State.countSecond (s : State) (n : StageNo) : State :=
  let st := s.stage n
  let s := s.setStage n { st with onTime := satSucc 4294967295 st.onTime, rem := st.rem - 1000 }
  if s.csq.phase = .service then s
  else { s with hsc := { s.hsc with energy := min 4294967295 (s.hsc.energy + s.stageRating n) } }

/-- The cycle energy in Wh (R77). -/
def State.energyWh (s : State) : Nat := s.hsc.energy / 36

end Sys2Proof.Machine
end

