-- ==== Sys2Proof/Machine/Drum.lean ====
section
/-! DEFINITION. The drum motion controller (chapter 3) and the tangle monitor's marks (chapter 4, R67 to R72):
motion states, steps, the reversal gate, bursts, service tests. Pulses and the scoring of revolutions are in
Pulse.lean, since they reach the watches and the sequencer. -/

namespace Sys2Proof.Machine

/-! ### The tangle monitor's cap flag (R70, R84) -/

/-- The cap flag is set while a burst is in progress or a re-check deadline is pending; a change is reported to
the heat stage controller at that moment (R70). -/
def State.refreshCapFlag (s : State) : State :=
  let flag := s.tgm.burst || s.tgm.recheck.isSome
  if flag = s.tgm.capFlag then s
  else ({ s with tgm := { s.tgm with capFlag := flag } }).setTangleCap flag

/-- R68: the end of a burst is reported to the tangle monitor. -/
def State.burstEnded (s : State) : State :=
  if s.tgm.burst then
    State.refreshCapFlag { s with tgm := { s.tgm with
      burst := false, recheck := some (s.clock + 1000 * s.recheckTime) } }
  else s

/-- The tangle monitor follows a departure from DRYING (R72). -/
def State.followTangle (s : State) (left entered : Phase) : State :=
  match left, entered with
  | .drying, .hold => { s with tgm := { s.tgm with c := 0, outstanding := false } }
  | .drying, .cooling | .drying, .fault =>
    State.refreshCapFlag { s with tgm := { s.tgm with
      c := 0, b := 0, recheck := none, burst := false, outstanding := false } }
  | _, _ => s

/-- R74 at START; the cleared flag is reported. -/
def State.tangleAtStart (s : State) : State :=
  State.refreshCapFlag { s with tgm := { Tgm.reset with capFlag := s.tgm.capFlag } }

/-! ### Outputs (R43) -/

/-- The direction line that is on. -/
def Motion.driven : Motion → Option Dir
  | .starting d | .run d | .runOpp d => some d
  | .idle | .rest | .restIn | .restOut => none

/-- FWD, REV and SPD (R43). -/
structure DrumPins where
  fwd : Bool
  rev : Bool
  spd : Nat
  deriving DecidableEq, Repr

def Dmc.pins (d : Dmc) : DrumPins :=
  { fwd := d.motion.driven == some .fwd, rev := d.motion.driven == some .rev
    spd := if d.motion.driven.isSome then d.speed else 0 }

/-- The direction outputs go off: off time, rest minimum and its expiry (R43, R60). -/
def State.drumOff (s : State) : State :=
  if s.dmc.motion.driven.isSome then
    let m := s.minRest
    { s with dmc := { s.dmc with
      offTime := s.clock, restMin := m, restMinDue := some (s.clock + 1000 * m), speed := 0 } }
  else s

/-- The turning flag is cleared, and "turning ends" reported when it was set (R50). -/
def State.clearTurning (s : State) : State :=
  if s.dmc.turning then State.heatTurningEnds { s with dmc := { s.dmc with turning := false } } else s

/-- The turning flag is set, and "turning begins" reported (R50). -/
def State.setTurning (s : State) : State :=
  State.heatTurningBegins { s with dmc := { s.dmc with turning := true } }

/-! ### Entering the motion states (R43, R47, R50 to R57) -/

/-- A rest in progress (R57). -/
def Motion.isRest : Motion → Bool
  | .rest | .restIn | .restOut => true
  | .idle | .starting _ | .run _ | .runOpp _ => false

/-- A rest state is entered from a state that is not a rest. `empty` says whether the revolution history is
emptied: at every entry into REST and BURST (R52), not at REST_OUT within a burst. -/
def State.enterRest (s : State) (target : Motion) (empty : Bool) : State :=
  let s := s.drumOff
  let s := { s with dmc := { s.dmc with
    motion := target
    revolution := none
    history := if empty then [] else s.dmc.history
    stallDue := none, burstDue := none
    restEntry := some s.clock, restCheck := .timing (s.clock + 15000) } }
  s.clearTurning

/-- A demand that makes the drum rest: the rest is entered, or goes on as REST (R45, R47, R59). -/
def State.restDrum (s : State) : State :=
  if s.dmc.motion.isRest then { s with dmc := { s.dmc with motion := .rest } } else s.enterRest .rest true

/-- STARTING in direction `d` at speed `v` (R43, R47, R52, R56). -/
def State.enterStarting (s : State) (d : Dir) (v : Nat) : State :=
  let s := { s with dmc := { s.dmc with
    motion := .starting d, speed := v, lastDir := some d, restMinDue := none
    revolution := none, history := [], burstDue := none
    stallDue := some (s.clock + 5000), stallLength := 5000
    restEntry := none, restCheck := .none } }
  s.clearTurning

/-- A demand for IDLE: DMC is in IDLE at once, with no pattern and no step (R45, R51). The history stands. -/
def State.idleDrum (s : State) : State :=
  let s := s.drumOff
  let s := { s with dmc := { s.dmc with
    motion := .idle, pattern := none, current := none, remaining := none, staged := none
    interrupted := none, burstDue := none, revolution := none
    stallDue := none, restEntry := none, restCheck := .none } }
  s.clearTurning

/-! ### The gate and the steps (R46, R47, R48) -/

/-- The gate for direction `d` (R48). -/
def State.gateOpen (s : State) (d : Dir) : Bool :=
  s.dmc.lastDir == some d
    || (s.dmc.motion.driven.isNone && s.dmc.offTime + 1000 * s.dmc.restMin ≤ s.clock && s.dmc.still)

/-- The direction of a RUN action. -/
def Action.dir : Action → Option Dir
  | .rest => none
  | .runFwd => some .fwd
  | .runRev => some .rev

/-- STARTING or RUN in direction `d`. -/
def Motion.drives (m : Motion) (d : Dir) : Bool := m == .starting d || m == .run d

/-- The time of a step: none for a service test's step (R59). -/
def CurrentStep.time (c : CurrentStep) : Option Nat :=
  match c.index with
  | some _ => some (1000 * c.step.duration)
  | none => none

def State.setStep (s : State) (c : CurrentStep) (remaining : Option Nat) : State :=
  { s with dmc := { s.dmc with current := some c, remaining := remaining } }

/-- The step acts (R47): `c` becomes the current step. -/
def State.actStep (s : State) (c : CurrentStep) : State :=
  match c.step.action.dir with
  | none => (s.setStep { c with waiting := false } c.time).restDrum
  | some d =>
    if s.gateOpen d then
      let s := s.setStep { c with waiting := false } c.time
      if s.dmc.motion.drives d then { s with dmc := { s.dmc with speed := c.step.speed } }
      else s.enterStarting d c.step.speed
    else (s.setStep { c with waiting := true } none).restDrum

/-- Step `k` of the pattern copy begins as the current step, and its follower is staged (R47). -/
def State.beginStep (s : State) (k : Nat) : State :=
  match s.dmc.pattern with
  | none => s
  | some steps =>
    match steps[k]? with
    | none => s
    | some st =>
      let next := if k + 1 < steps.length then k + 1 else 0
      State.actStep { s with dmc := { s.dmc with staged := some next } }
        { index := some k, step := st, waiting := false }

/-- A pattern is started from step 0, from the working copy of block 5; an empty one rests without a step (R46). -/
def State.startPattern (s : State) (q : Nat) : State :=
  let steps := s.patternSteps q
  let s := { s with dmc := { s.dmc with
    pattern := some steps, current := none, remaining := none, staged := none } }
  if steps.isEmpty then s.restDrum else s.beginStep 0

/-- The waiting step starts: its full duration runs from here (R47, R48). -/
def State.startWaiting (s : State) (c : CurrentStep) (d : Dir) : State :=
  (s.setStep { c with waiting := false } c.time).enterStarting d c.step.speed

/-! ### Bursts (R53 to R55) -/

/-- RUN_OPP: the direction opposite to the interrupted step's, at the burst speed (R54, R56). -/
def State.enterRunOpp (s : State) (d : Dir) : State :=
  { s with dmc := { s.dmc with
    motion := .runOpp d, speed := s.burstSpeed, lastDir := some d, restMinDue := none
    revolution := none
    burstDue := some (s.clock + 1000 * s.burstTime)
    stallDue := some (s.clock + 5000), stallLength := 5000
    restEntry := none, restCheck := .none } }

/-- The burst ends: the interrupted step is current again with its remaining time and speed (R54). -/
def State.resumeStep (s : State) (i : Interrupted) : State :=
  let c : CurrentStep := { index := some i.index, step := i.step, waiting := false }
  let s := { s with dmc := { s.dmc with
    interrupted := none, current := some c, remaining := some i.remaining } }
  (s.enterStarting i.dir i.speed).burstEnded

/-- The gate is judged at an event that can open it: for a waiting step, for REST_IN and for REST_OUT (R48, R53,
R54). -/
def State.judgeGate (s : State) : State :=
  match s.dmc.motion with
  | .rest =>
    match s.dmc.current with
    | some c =>
      match c.waiting, c.step.action.dir with
      | true, some d => if s.gateOpen d then s.startWaiting c d else s
      | _, _ => s
    | none => s
  | .restIn =>
    match s.dmc.interrupted with
    | some i => if s.gateOpen i.dir.flip then s.enterRunOpp i.dir.flip else s
    | none => s
  | .restOut =>
    match s.dmc.interrupted with
    | some i => if s.gateOpen i.dir then s.resumeStep i else s
    | none => s
  | .idle | .starting _ | .run _ | .runOpp _ => s

/-- A burst request (R53): taken only in RUN, where the step is interrupted and REST_IN is entered; `none` when
it is declined. -/
def State.takeBurst (s : State) : Option State :=
  match s.dmc.motion, s.dmc.current, s.dmc.remaining with
  | .run d, some c, some r =>
    match c.index with
    | some k =>
      let i : Interrupted := { index := k, step := c.step, dir := d, speed := s.dmc.speed, remaining := r }
      let s := { s with dmc := { s.dmc with interrupted := some i, current := none, remaining := none } }
      some ((s.enterRest .restIn true).markBurst)
    | none => none
  | _, _, _ => none

/-- A phase change abandons a burst: the interrupted step is forgotten, a burst rest goes on as REST, and the
tangle monitor is told (R55). -/
def State.abandonBurst (s : State) : State :=
  if s.dmc.motion.inBurst then
    let s := { s with dmc := { s.dmc with
      interrupted := none, burstDue := none
      motion := if s.dmc.motion.isRest then .rest else s.dmc.motion } }
    s.burstEnded
  else s

/-- The pattern of a HEAT_STUCK fault: the cooling pattern of the program copy, or pattern 0 (R45). -/
def State.faultPattern (s : State) : Nat :=
  match s.csq.program with
  | some p => p.coolingPattern
  | none => 0

/-- A demand for REST removes the pattern copy and the current and staged steps (R45). -/
def State.restDemand (s : State) : State :=
  let s := { s with dmc := { s.dmc with pattern := none, current := none, remaining := none, staged := none } }
  s.restDrum

/-- The motion demand of a phase (R45). -/
def State.motionDemand (s : State) (left entered : Phase) : State :=
  match entered with
  | .prep =>
    s.startPattern (if s.csq.prepTarget = some .cooling then s.program.coolingPattern else s.program.dryingPattern)
  | .drying => s
  | .cooling => if left = .drying then s.startPattern s.program.coolingPattern else s
  | .guard => s.startPattern s.program.guardPattern
  | .hold => s.restDemand
  | .done | .idle | .service => s.idleDrum
  | .fault =>
    match s.csq.record.fault with
    | some f => if f.kind = .heatStuck then s.startPattern s.faultPattern else s.idleDrum
    | none => s.idleDrum

/-- The drum follows a phase change (R45, R55). -/
def State.followDrum (s : State) (left entered : Phase) : State := s.abandonBurst.motionDemand left entered

/-! ### Service tests of the drum (R59) -/

/-- The step of a drum test: an unlimited duration, outside any pattern. -/
def testStep (action : Action) (speed : Nat) : CurrentStep :=
  { index := none, step := { action := action, speed := speed, duration := 0 }, waiting := false }

/-- Run in a direction at a speed: a step of that action, with none staged (R59). -/
def State.testRun (s : State) (action : Action) (speed : Nat) : State :=
  let s := { s with dmc := { s.dmc with pattern := none, staged := none } }
  s.actStep (testStep action speed)

/-- Rest (R59). -/
def State.testRest (s : State) : State :=
  let s := { s with dmc := { s.dmc with pattern := none, staged := none, current := none, remaining := none } }
  s.restDrum

end Sys2Proof.Machine
end

