-- ==== Sys2Proof/Machine/Store.lean ====
section
/-! DEFINITION. The settings store (chapter 9): load, SET, GET, STORE, wear save, and what a store stopped partway
leaves. -/

namespace Sys2Proof.Machine

/-! ### The load (R155) -/

/-- The word that goes into the working copy; nothing for a double error. -/
def StoredWord.read : StoredWord → Option Word
  | .clean w => some w
  | .single w => some w
  | .double => none

def StoredWord.isSingle : StoredWord → Bool
  | .single _ => true
  | .clean _ | .double => false

/-- A block with a double error is INVALID. -/
def blockInvalid (ws : List StoredWord) : Bool := ws.any (fun w => w.read.isNone)

/-- The corrected-word count of a block, stopping at 255. -/
def correctedCount (ws : List StoredWord) : Nat := min 255 (ws.countP StoredWord.isSingle)

/-- The working copy a load gives block `b`: the words as read and corrected, each in its range, or the defaults
when the block is INVALID. -/
def loadedBlock (b : Nat) (ws : List StoredWord) : List Word :=
  if blockInvalid ws then defaultBlock b else fixWords b 0 (ws.filterMap StoredWord.read)

/-- The store after the load; block 6 goes to the on-times (R155). -/
def Sst.load (t : Sst) : Sst :=
  { t with
    blocks := ⟨loadedBlock 0 t.stored.b0, loadedBlock 1 t.stored.b1, loadedBlock 2 t.stored.b2,
      loadedBlock 3 t.stored.b3, loadedBlock 4 t.stored.b4, loadedBlock 5 t.stored.b5, t.blocks.b6⟩
    invalid := t.stored.map blockInvalid
    corrected := t.stored.map correctedCount }

/-- The four on-times written, each remainder kept (R77). -/
def State.setOnTimes (s : State) (ws : List Word) : State :=
  let q := s.hsc.stages
  let f (st : Stage) (i : Nat) : Stage := { st with onTime := (ws.getD i 0).toNat }
  { s with hsc := { s.hsc with stages := ⟨f q.q0 0, f q.q1 1, f q.q2 2, f q.q3 3⟩ } }

/-- The working copy of block 6: the on-times counted so far (R77). -/
def State.onTimeWords (s : State) : List Word :=
  [s.hsc.stages.q0, s.hsc.stages.q1, s.hsc.stages.q2, s.hsc.stages.q3].map (fun st => wordOfNat st.onTime)

/-- The working copy of block `b`. -/
def State.workingCopy (s : State) (b : Nat) : List Word := if b = 6 then s.onTimeWords else s.sst.blocks.get b

/-- A link controller takes its enable set and periodic period from block 0, and its timer starts afresh (R155,
R168, R171). -/
def State.takeLinkDefaults (s : State) (l : Link) : State :=
  let i := match l with | .a => 0 | .s => 1
  let p := s.setting 0 (2 + i)
  s.modLink l (fun lk => LinkState.reschedule
    { lk with
      enable := (s.word 0 i).truncate 8
      period := p
      periodicDue := if p = 0 then none else some (s.clock + 1000 * p)
      statusDue := false } lk.announced)

/-! ### Loss of supply during a store (R162) -/

/-- The words an interrupted store leaves: the first `k` programmed, the rest with a double error, at least one of
them (log entry 8). -/
def partlyProgrammed (image : List Word) (k : Nat) : List StoredWord :=
  let done := min k (image.length - 1)
  (image.take done).map .clean ++ List.replicate (image.length - done) .double

/-- The non-volatile words after the supply or RST stopped the engine. -/
def Sst.stopped (t : Sst) (p : StopPoint) : Seven (List StoredWord) :=
  match t.engine with
  | none => t.stored
  | some j =>
    match p with
    | .beforeErase => t.stored
    | .partway k => t.stored.set j.block (partlyProgrammed j.image k)
    | .allProgrammed => t.stored.set j.block (j.image.map .clean)

/-! ### Stores (R159, R160, R161) -/

/-- The engine begins a store of block `b`, with the copy taken now. -/
def State.beginStore (s : State) (b : Nat) (source : StoreSource) : State :=
  { s with sst := { s.sst with
    engine := some { block := b, source := source, image := s.workingCopy b, wanted := true } } }

/-- The wear save at an entry into DONE: begun, or pending while the engine stores (R161). -/
def State.wearSave (s : State) : State :=
  if s.sst.engine.isSome then { s with sst := { s.sst with wearPending := true } }
  else s.beginStore 6 .wear

/-- STORE (R159). -/
def State.storeRequest (s : State) (l : Link) (block : Byte) : State :=
  let k := (Request.store block).kind
  if 6 < block.toNat then s.answerStatus l k .badArg
  else if s.sst.engine.isSome then s.answerStatus l k .busy
  else
    (s.beginStore block.toNat (.link l)).modLink l (fun lk => { lk with inProgress := some .store })

/-- The reply of a completed STORE; none for the wear save or a link that has been reset (R160). -/
def State.storeReply (s : State) (j : StoreJob) : State :=
  match j.source with
  | .wear => s
  | .link l =>
    if j.wanted then s.answer l (Request.store 0).kind .ok [byteOf j.block] else s

/-- A store or wear save completes, and a pending wear save begins in the same event (R160, R161). -/
def State.completeStore (s : State) : State :=
  match s.sst.engine with
  | none => s
  | some j =>
    let s := { s with sst := { s.sst with
      stored := s.sst.stored.set j.block (j.image.map .clean)
      invalid := s.sst.invalid.set j.block false
      corrected := s.sst.corrected.set j.block 0
      engine := none } }
    let s := s.storeReply j
    if s.sst.wearPending then
      State.beginStore { s with sst := { s.sst with wearPending := false } } 6 .wear
    else s

/-- A link reset: no reply for a store the link asked for (R160). -/
def Sst.resetLink (t : Sst) (l : Link) : Sst :=
  { t with engine := t.engine.map (fun j => if j.source = .link l then { j with wanted := false } else j) }

/-- The block is being stored, by a STORE or by the wear save. -/
def Sst.storing (t : Sst) (b : Nat) : Bool :=
  match t.engine with
  | some j => j.block == b
  | none => false

/-! ### SET and GET (R157, R158) -/

/-- The phases in which blocks 1 to 5 may not be written (R157). -/
def Phase.locksSettings : Phase → Bool
  | .prep | .drying | .cooling | .guard | .hold => true
  | .idle | .done | .fault | .service => false

/-- A word range that lies in the block (R157, R158). -/
def rangeInBlock (block first count : Nat) : Bool :=
  block ≤ 6 && 1 ≤ count && count ≤ 32 && first + count ≤ blockLength block

/-- The words written into the working copy, and what follows at once (R76, R77, R157). -/
def State.writeBlock (s : State) (b first : Nat) (ws : List Word) : State :=
  if b = 6 then s.setOnTimes (writeWords s.onTimeWords first ws)
  else
    State.dropUnavailable { s with sst := { s.sst with
      blocks := s.sst.blocks.set b (writeWords (s.sst.blocks.get b) first ws) } }

/-- SET (R157). -/
def State.setRequest (s : State) (l : Link) (block first : Byte) (values : List Word) : State :=
  let k := (Request.set block first values).kind
  let b := block.toNat
  let n := first.toNat
  if !rangeInBlock b n values.length || namesUnknownAction b n values then s.answerStatus l k .badArg
  else if 1 ≤ b ∧ b ≤ 5 ∧ s.csq.phase.locksSettings then s.answerStatus l k .wrongPhase
  else if s.sst.storing b then s.answerStatus l k .busy
  else
    let ws := fixWords b n values
    let s := (s.writeBlock b n ws).settleTests
    if ws = values then s.answerStatus l k .ok else s.answer l k .adjusted (ws.flatMap wordBytes)

/-- GET (R158). -/
def State.getRequest (s : State) (l : Link) (block first count : Byte) : State :=
  let k := (Request.get block first count).kind
  let b := block.toNat
  if !rangeInBlock b first.toNat count.toNat then s.answerStatus l k .badArg
  else
    let busy := s.sst.storing b || (b == 6 && s.sst.wearPending)
    let words := ((s.workingCopy b).drop first.toNat).take count.toNat
    s.answer l k .ok
      ([boolByte (s.sst.invalid.get b), byteOf (s.sst.corrected.get b), boolByte busy] ++ words.flatMap wordBytes)

end Sys2Proof.Machine
end

