-- ==== Sys2Proof/Machine/Cycle.lean ====
section
/-! DEFINITION. The cycle sequencer (chapter 6): the phase change as one operation, faults, HOLD, PREP, the ends
of the phases, service control, and the cycle messages. -/

namespace Sys2Proof.Machine

/-! ### The phase change (R122) -/

/-- The phases in which the A-link is supervised (R113). -/
def Phase.supervised : Phase → Bool
  | .prep | .drying | .cooling | .guard => true
  | .idle | .done | .hold | .fault | .service => false

/-- The dryness estimator at a phase change: the window in progress is discarded when DRYING is left, an open
contact ends when the front end has left RUNNING, and a window starts at entry into DRYING (R19, R22). -/
def State.followDry (s : State) (left entered : Phase) : State :=
  let s := if left = .drying then s.discardWindow else s
  let s := if s.mfe.mode = .onRequest then s.endContactOnLeaving else s
  if entered = .drying then s.startWindow else s

/-- The phase becomes `entered`; leaving the supervised phases removes the supervision deadline (R113). -/
def Csq.setPhase (c : Csq) (entered : Phase) : Csq :=
  { c with
    phase := entered
    supervisionDue := if entered.supervised then c.supervisionDue else none }

/-- The blocks follow the phase, in the order front end, estimator, drum, tangle monitor, heat, wear save (log
entry 11). -/
def State.followPhase (s : State) (left entered : Phase) : State :=
  let s := (s.followFront entered).followDry left entered
  let s := (s.followDrum left entered).followTangle left entered
  let s := s.followHeat left entered
  if entered = .done then s.wearSave else s

/-- A phase change: the change is made first, and the PHASE record and notice PHASE follow (R122). -/
def State.changePhase (s : State) (entered : Phase) (cause : Cause) : State :=
  let left := s.csq.phase
  let s := ({ s with csq := s.csq.setPhase entered }).followPhase left entered
  (s.offerPhase left entered cause).notifyBoth (.phase entered cause)

/-- The cycle record changed by `f`. -/
def State.modRecord (s : State) (f : CycleRecord → CycleRecord) : State :=
  { s with csq := { s.csq with record := f s.csq.record } }

/-- The end reason set (R105, R112, R115, R126). -/
def State.setEnd (s : State) (r : EndReason) : State := s.modRecord (fun c => { c with endReason := some r })

/-! ### Leaving SERVICE (R118, R125) -/

/-- Manual control ends: the owner, the test demands, the test timers and the silence deadline go, and a waiting
TAKE_CONTROL is answered WRONG_PHASE (R118, R123, R125). -/
def State.endService (s : State) : State :=
  let wait := s.csq.pendingTake
  let s := { s with csq := { s.csq with
    owner := none, silenceDue := none, stageTimers := ⟨none, none, none, none⟩, fanTimer := none
    drumTimer := none, pendingTake := false } }
  let s := s.dropTestDemands
  if wait then s.answerStatus .s Request.takeControl.kind .wrongPhase else s

/-! ### Faults (R117 to R119) -/

/-- A fault taken in FAULT adds one to the additional-fault count and raises notice FAULT again (R119). -/
def State.countFault (s : State) : State :=
  match s.csq.record.fault with
  | none => s
  | some f =>
    let f := { f with extra := satSucc 255 f.extra }
    (s.modRecord (fun c => { c with fault := some f })).notifyBoth (.fault f.kind f.phase f.extra)

/-- DMC has left IDLE with the inverter fault line active (R58). -/
def State.leftIdleFaulted (s : State) (before : Motion) : Bool :=
  before == .idle && s.dmc.motion != .idle && s.pins.ivf

/-- DRIVE from a drum that was set going in FAULT (R58, R119). -/
def State.driveInFault (s : State) (before : Motion) : State :=
  if s.leftIdleFaulted before then s.countFault else s

/-- R119, the first row: HEAT_STUCK replaces another kind, and drum and fan take the new kind. -/
def State.replaceFault (s : State) (f : FaultRecord) : State :=
  let before := s.dmc.motion
  let f := { f with kind := .heatStuck, time := s.refTime, extra := satSucc 255 f.extra }
  let s := s.modRecord (fun c => { c with fault := some f })
  let s := (s.motionDemand .fault .fault).followFan .fault
  (s.notifyBoth (.fault f.kind f.phase f.extra)).driveInFault before

/-- A fault taken in FAULT (R119). -/
def State.faultInFault (s : State) (kind : FaultKind) : State :=
  match s.csq.record.fault with
  | none => s
  | some f => if f.kind ≠ .heatStuck ∧ kind = .heatStuck then s.replaceFault f else s.countFault

/-- What entry into FAULT removes at the sequencer (R118). -/
def Csq.clearForFault (c : Csq) : Csq :=
  { c with
    reasons := .empty, holdDue := none, supervisionDue := none, prepTarget := none, revSeen := false
    record := { c.record with held := none } }

/-- Entry into FAULT (R118). From SERVICE the drum takes the demand of FAULT from the motion state of the drum test; no
Stop comes before it (log entry 34). -/
def State.enterFault (s : State) (kind : FaultKind) : State :=
  let left := s.csq.phase
  let before := s.dmc.motion
  let s := if left = .service then s.endService else s
  let s := { s with csq := s.csq.clearForFault }
  let s := s.modRecord (fun c => { c with fault := some { kind := kind, phase := left, time := s.refTime, extra := 0 } })
  ((s.changePhase .fault .fault).notifyBoth (.fault kind left 0)).driveInFault before

/-- A fault taken (R117, R118, R119). -/
def State.takeFault (s : State) (kind : FaultKind) : State :=
  if s.csq.phase = .fault then s.faultInFault kind else s.enterFault kind

/-! ### DONE, IDLE, GUARD (R107, R108, R109) -/

/-- What entry into DONE removes at the sequencer (R108). -/
def Csq.clearForDone (c : Csq) : Csq :=
  { c with
    reasons := .empty, holdDue := none, supervisionDue := none, prepTarget := none, revSeen := false
    record := { c.record with held := none } }

def State.enterDone (s : State) (cause : Cause) : State :=
  ({ s with csq := s.csq.clearForDone }).changePhase .done cause

/-- A cycle phase ends for DONE with an end reason (R112, R115, R126). -/
def State.endCycle (s : State) (r : EndReason) : State := (s.setEnd r).enterDone (.ended r)

def State.enterGuard (s : State) (cause : Cause) : State :=
  ({ s with csq := { s.csq with guardMs := 0 } }).changePhase .guard cause

/-- The end of COOLING by cool target or maximum time (R106). -/
def State.endCooling (s : State) (cause : Cause) : State :=
  if 0 < s.program.guardTime then s.enterGuard cause else s.enterDone cause

/-- The end of DRYING; outside DRYING it has no effect (R105). -/
def State.endDrying (s : State) (r : EndReason) : State :=
  if s.csq.phase = .drying then (s.setEnd r).changePhase .cooling (.ended r) else s

/-- The declaration: notice DRY, and drying ends (R30, R105). -/
def State.declareDry (s : State) : State :=
  if s.csq.phase = .drying then
    (s.notifyBoth (.dry s.dry.current s.dry.streak)).endDrying .dry
  else s

/-- "No heat" is reported when N_av is 0 in DRYING (R76). -/
def State.checkHeat (s : State) : State :=
  if s.csq.phase = .drying ∧ s.nAvailable = 0 then s.endDrying .noHeat else s

/-! ### HOLD (R110) -/

/-- A tangle hold is counted (R110, R121). -/
def CycleRecord.countTangle (c : CycleRecord) (r : HoldReason) : CycleRecord :=
  if r = .tangle then { c with tangleHolds := satSucc 255 c.tangleHolds } else c

/-- The phase that a HOLD taken now holds (R110). -/
def Csq.heldPhase (c : Csq) : Option Phase := if c.phase = .prep then c.prepTarget else some c.phase

/-- The sequencer's own changes at entry into HOLD. -/
def Csq.forHold (c : Csq) (r : HoldReason) (due : Nat) : Csq :=
  { c with
    record := { (c.record.countTangle r) with held := c.heldPhase }
    reasons := HoldSet.only r, holdDue := some due, prepTarget := none, revSeen := false }

/-- Entry into HOLD. -/
def State.enterHold (s : State) (r : HoldReason) : State :=
  let s := { s with csq := s.csq.forHold r (s.clock + 60000 * s.holdLimit) }
  let s := s.changePhase .hold (.held r)
  s.notifyBoth (.hold s.csq.reasons)

/-- A cause taken in HOLD: a new reason joins the set. -/
def State.joinHold (s : State) (r : HoldReason) : State :=
  if s.csq.reasons.has r then s
  else
    let s := { s with csq := { s.csq with
      reasons := s.csq.reasons.add r, record := s.csq.record.countTangle r } }
    s.notifyBoth (.hold s.csq.reasons)

/-- A cause of HOLD judged against the phase (R107, R110, R113, R114, R138). -/
def State.takeHoldCause (s : State) (r : HoldReason) : State :=
  match s.csq.phase with
  | .prep | .drying | .cooling => s.enterHold r
  | .hold => s.joinHold r
  | .guard => if r = .paused ∨ r = .tangle then s else s.enterDone (.held r)
  | .idle | .done | .fault | .service => s

/-! ### PREP (R104, R105) -/

/-- PREP is complete: its target is entered; a latched lockout and then a lack of stages end drying at once. -/
def State.completePrep (s : State) : State :=
  match s.csq.prepTarget with
  | none => s
  | some target =>
    let s := { s with csq := { s.csq with
      prepTarget := none, revSeen := false, record := { s.csq.record with held := none } } }
    let s := s.changePhase target .prepComplete
    if target = .drying ∧ s.hsc.lockout then s.endDrying .overheat else s.checkHeat

/-- The judgement of PREP's completion (R104). -/
def State.judgePrep (s : State) : State :=
  if s.csq.phase = .prep ∧ s.hsc.airflow = .proven ∧ s.csq.revSeen then s.completePrep else s

/-- T_exh or T_hsg is DIAG. -/
def State.sensorDiag (s : State) : Bool := s.mfe.tExh.diag || s.mfe.tHsg.diag

/-- A fault taken when its condition holds. -/
def State.faultIf (s : State) (condition : Bool) (kind : FaultKind) : State :=
  if condition then s.takeFault kind else s

/-- The sequencer's own changes at entry into PREP. -/
def Csq.forPrep (c : Csq) (target : Phase) (due : Nat) : Csq :=
  { c with
    prepTarget := some target, revSeen := false, reasons := .empty, holdDue := none
    supervisionDue := some due }

/-- Entry into PREP (R104), with the faults CUTOFF_OPEN, SENSOR and DRIVE in that order (log entry 13). -/
def State.enterPrep (s : State) (target : Phase) (cause : Cause) : State :=
  let before := s.dmc.motion
  let s := { s with csq := s.csq.forPrep target (s.clock + 1000 * s.supervisionTime) }
  let s := s.changePhase .prep cause
  let drive := s.leftIdleFaulted before
  let s := (s.faultIf s.pins.cutOpen .cutoffOpen).faultIf s.sensorDiag .sensor
  (s.faultIf drive .drive).judgePrep

/-! ### START (R103) -/

/-- Any of settings blocks 1 to 5 is INVALID. -/
def Sst.barsStart (t : Sst) : Bool :=
  t.invalid.b1 || t.invalid.b2 || t.invalid.b3 || t.invalid.b4 || t.invalid.b5

/-- The program names an empty pattern for drying, for cooling, or for a guard time above 0. -/
def State.namesEmptyPattern (s : State) (p : Program) : Bool :=
  (s.patternSteps p.dryingPattern).isEmpty || (s.patternSteps p.coolingPattern).isEmpty
    || (0 < p.guardTime && (s.patternSteps p.guardPattern).isEmpty)

/-- The program copy and the new cycle record of an accepted START (R102, R103). -/
def Csq.forStart (c : Csq) (number : Nat) (p : Program) (now : Word) : Csq :=
  { c with
    program := some p
    record := { program := some number, startLink := .a, startStamp := now, held := none, endReason := none
                fault := none, bursts := 0, tangleHolds := 0 }
    dryingMs := 0, dryingSeconds := 0, coolingMs := 0 }

/-- An accepted START. -/
def State.beginCycle (s : State) (number : Nat) : State :=
  let s := { s with csq := s.csq.forStart number (s.programAt number) s.refTime }
  let s := { s with dry := s.dry.atStart }
  (s.tangleAtStart.heatAtStart).enterPrep .drying .start

/-- START judged by the conditions of R103 in order; none when it is accepted. -/
def State.startRefusal (s : State) (l : Link) (program : Byte) : Option Status :=
  if l = .s then some .notOwner
  else if s.csq.phase = .service then some .controlledElsewhere
  else if s.csq.phase ≠ .idle ∧ s.csq.phase ≠ .done then some .wrongPhase
  else if 7 < program.toNat then some .badArg
  else if s.sst.barsStart then some .configInvalid
  else if s.namesEmptyPattern (s.programAt program.toNat) then some .badArg
  else if s.pins.doorOpen then some .interlock
  else none

def State.startRequest (s : State) (l : Link) (program : Byte) : State :=
  let k := (Request.start program).kind
  match s.startRefusal l program with
  | some st => s.answerStatus l k st
  | none => (s.beginCycle program.toNat).answerStatus l k .ok

/-! ### PAUSE, RESUME, ABORT, ADVANCE, CLEAR (R111, R115, R120) -/

def State.pauseRequest (s : State) (l : Link) : State :=
  let k := Request.pause.kind
  match s.csq.phase with
  | .prep | .drying | .cooling | .hold => (s.takeHoldCause .paused).answerStatus l k .ok
  | .idle | .guard | .done | .fault | .service => s.answerStatus l k .wrongPhase

/-- The conditions of R111 that keep a HOLD. -/
def State.resumeBarred (s : State) : Bool :=
  s.pins.doorOpen || s.pins.cutOpen || s.pins.ivf || s.sensorDiag

def State.resumeRequest (s : State) (l : Link) : State :=
  let k := Request.resume.kind
  if s.csq.phase ≠ .hold then s.answerStatus l k .wrongPhase
  else if s.resumeBarred then s.answerStatus l k .interlock
  else (s.enterPrep (s.csq.record.held.getD .drying) .resume).answerStatus l k .ok

/-- An ending of the cycle as ABORT makes it: drying ends for COOLING, the other cycle phases for DONE (R115). -/
def State.abortCycle (s : State) (r : EndReason) : State :=
  match s.csq.phase with
  | .drying => s.endDrying r
  | .prep | .cooling | .guard | .hold => s.endCycle r
  | .idle | .done | .fault | .service => s

def State.abortRequest (s : State) (l : Link) : State :=
  let k := Request.abort.kind
  match s.csq.phase with
  | .drying | .prep | .cooling | .guard | .hold => (s.abortCycle .aborted).answerStatus l k .ok
  | .idle | .done | .fault | .service => s.answerStatus l k .wrongPhase

def State.advanceRequest (s : State) (l : Link) : State :=
  let k := Request.advance.kind
  if l = .s then s.answerStatus l k .notOwner
  else if s.csq.phase = .drying then (s.endDrying .advanced).answerStatus l k .ok
  else s.answerStatus l k .wrongPhase

/-- The condition of the recorded kind has gone (R120). -/
def State.conditionGone (s : State) : FaultKind → Bool
  | .cutoffOpen => !s.pins.cutOpen
  | .sensor => !s.sensorDiag
  | .airflow | .stall => true
  | .notStopping => s.dmc.still
  | .drive => !s.pins.ivf
  | .heatStuck => s.hsc.stuckArmed

/-- FAULT may be cleared: the condition has gone and the cutoff loop is intact (R120). -/
def State.faultCleared (s : State) : Bool :=
  !s.pins.cutOpen &&
    match s.csq.record.fault with
    | some f => s.conditionGone f.kind
    | none => true

def State.clearRequest (s : State) (l : Link) : State :=
  let k := Request.clear.kind
  match s.csq.phase with
  | .done => (s.changePhase .idle .clear).answerStatus l k .ok
  | .fault =>
    if s.faultCleared then (s.changePhase .idle .clear).answerStatus l k .ok
    else s.answerStatus l k .interlock
  | .idle | .prep | .drying | .cooling | .guard | .hold | .service => s.answerStatus l k .wrongPhase

/-! ### Service control (R123 to R125) -/

def State.takeControlRequest (s : State) (l : Link) : State :=
  let k := Request.takeControl.kind
  if l = .a then s.answerStatus l k .notOwner
  else if s.csq.phase ≠ .idle then s.answerStatus l k .wrongPhase
  else
    let s := { s with csq := { s.csq with owner := some .s, silenceDue := some (s.clock + 30000) } }
    let s := s.changePhase .service .takeControl
    if s.dmc.still then s.answerStatus l k .ok
    else
      ({ s with csq := { s.csq with pendingTake := true } }).modLink l
        (fun lk => { lk with inProgress := some .takeControl })

/-- Manual control is released to IDLE (R125). -/
def State.release (s : State) (cause : Cause) : State := s.endService.changePhase .idle cause

def State.releaseControlRequest (s : State) (l : Link) : State :=
  let k := Request.releaseControl.kind
  if l = .a then s.answerStatus l k .notOwner
  else if s.csq.phase ≠ .service then s.answerStatus l k .wrongPhase
  else (s.release .release).answerStatus l k .ok

/-- A test timer set; 120,000 ms at an accepted TEST (R124). -/
def Csq.setTimer (c : Csq) (a : Actuator) (due : Option Nat) : Csq :=
  match a with
  | .stage n => { c with stageTimers := c.stageTimers.set n due }
  | .fan => { c with fanTimer := due }
  | .drum => { c with drumTimer := due }

def Csq.timer (c : Csq) : Actuator → Option Nat
  | .stage n => c.stageTimers.get n
  | .fan => c.fanTimer
  | .drum => c.drumTimer

/-- A drum test demand acts, and DRIVE is reported when it makes DMC leave IDLE with IVF active (R58, R59). -/
def State.drumTest (s : State) (act : State → State) : State :=
  let before := s.dmc.motion
  let s := act s
  s.faultIf (s.leftIdleFaulted before) .drive

/-- A TEST whose arguments are in order: refused with INTERLOCK, or made (R124). -/
def State.testDemand (s : State) (a : Actuator) (demand speed : Nat) : Option State :=
  let s' := { s with csq := s.csq.setTimer a (some (s.clock + 120000)) }
  match a with
  | .stage n =>
    if demand = 0 then some (s'.stageTestOff n).settleTests
    else if s.available n then some (s'.setStage n { s'.stage n with testDemand := true }).settleTests
    else none
  | .fan => some (if demand = 0 then s'.fanDemandEnds else s'.fanOn)
  | .drum =>
    if demand = 0 then some (s'.drumTest State.testRest)
    else if s.pins.doorOpen then none
    else some (s'.drumTest (fun s => s.testRun (if demand = 1 then .runFwd else .runRev) speed))

/-- The arguments that R124 and R174 admit for an actuator. -/
def testArgsOk (a : Actuator) (demand speed : Nat) : Bool :=
  match a with
  | .stage _ | .fan => demand ≤ 1
  | .drum => demand = 0 || (demand ≤ 2 && 20 ≤ speed && speed ≤ 55)

/-- TEST (R124); the link, then the phase, then the arguments, then the interlock (log entry 29). -/
def State.testRequest (s : State) (l : Link) (actuator demand speed : Byte) : State :=
  let k := (Request.test actuator demand speed).kind
  if l = .a then s.answerStatus l k .notOwner
  else if s.csq.phase ≠ .service then s.answerStatus l k .wrongPhase
  else
    match actuatorOfCode actuator.toNat with
    | none => s.answerStatus l k .badArg
    | some a =>
      if testArgsOk a demand.toNat speed.toNat then
        match s.testDemand a demand.toNat speed.toNat with
        | none => s.answerStatus l k .interlock
        | some t => t.answerStatus l k .ok
      else s.answerStatus l k .badArg

/-- A test timer's expiry ends its actuator's demand (R124). -/
def State.testTimerEnds (s : State) (a : Actuator) : State :=
  let s := { s with csq := s.csq.setTimer a none }
  match a with
  | .stage n => (s.stageTestOff n).settleTests
  | .fan => s.fanDemandEnds
  | .drum => s.idleDrum

/-! ### Pins at the sequencer (R114, R117) -/

/-- The door opens: the heat's interlock, then the sequencer by its phase (R88, R114). -/
def State.doorOpened (s : State) : State :=
  let s := State.enforce { s with pins := { s.pins with doorOpen := true } }
  match s.csq.phase with
  | .prep | .drying | .cooling | .hold | .guard => s.takeHoldCause .door
  | .done => s.changePhase .idle (.held .door)
  | .service => State.idleDrum { s with csq := { s.csq with drumTimer := none } }
  | .idle | .fault => s

/-- The cutoff loop opens (R88, R117). -/
def State.cutoffOpened (s : State) : State :=
  (State.enforce { s with pins := { s.pins with cutOpen := true } }).takeFault .cutoffOpen

/-! ### The reaction to a link reset (R126) -/

/-- RESET_LINK at the sequencer, once its reply has been sent. -/
def State.resetAtSequencer (s : State) (l : Link) : State :=
  match l with
  | .a => s.abortCycle .linkReset
  | .s => if s.csq.phase = .service then s.release (.ended .linkReset) else s

end Sys2Proof.Machine
end

