-- ==== Sys2Proof/Machine/Watch.lean ====
section
/-! DEFINITION. Watch units (R135 to R139), the offer of values to them, and the window's end as an event (R26 to
R36), which reaches the watches and the sequencer. -/

namespace Sys2Proof.Machine

/-! ### Judging a value (R136) -/

/-- The value crosses the limit from the previous value. -/
def WatchSettings.crosses (c : WatchSettings) (previous : Option Int) (v : Int) : Bool :=
  match previous with
  | none => false
  | some p =>
    match c.sense with
    | .risesAbove => p ≤ c.limit && c.limit < v
    | .fallsBelow => c.limit ≤ p && v < c.limit

/-- The value clears the blocked mark. -/
def WatchSettings.clears (c : WatchSettings) (v : Int) : Bool :=
  match c.sense with
  | .risesAbove => v ≤ c.limit - c.hysteresis
  | .fallsBelow => c.limit + c.hysteresis ≤ v

/-- The watch unit after a value, and whether the value hit. -/
def WatchUnit.judge (x : WatchUnit) (c : WatchSettings) (v : Int) : WatchUnit × Bool :=
  let blocked := x.blocked && !c.clears v
  let y := { x with previous := some v, blocked := blocked }
  if !blocked && c.crosses x.previous v then
    let y := { y with hits := satSucc 65535 x.hits }
    match c.mode with
    | .once => ({ y with state := .hit }, true)
    | .repeating => ({ y with blocked := true }, true)
  else (y, false)

/-! ### The effects of a hit (R137, R138) -/

/-- The phase is one in which a hit is given to the sequencer (R138). -/
def State.hitHolds (s : State) : Bool := s.csq.phase.supervised

/-- The action of a hit. -/
def State.watchAction (s : State) (w : Fin 4) (action : WatchAction) (v : Int) : State :=
  let told : State :=
    match (s.watch w).owner with
    | none => s
    | some l => s.notify l (.watch w v)
  match action with
  | .none => s
  | .notice => told
  | .hold => if s.hitHolds then told.takeHoldCause .watch else told

/-- A hit: captures start, the WATCH record is offered, captures end, the action follows (R137). -/
def State.watchHit (s : State) (w : Fin 4) (c : WatchSettings) (v : Int) : State :=
  let r : Record := .watch w c.quantity v c.limit (s.watch w).hits
  (s.offerAround (· == .onWatch w) (· == .onWatch w) .watch r).watchAction w c.action v

/-- A new value of `q` offered to one unit. -/
def State.offerTo (s : State) (q : Quantity) (v : Int) (w : Fin 4) : State :=
  let x := s.watch w
  match x.settings with
  | none => s
  | some c =>
    if x.state = .armed ∧ c.quantity = q then
      let j := x.judge c v
      let s := s.setWatch w j.1
      if j.2 then s.watchHit w c v else s
    else s

/-- A new value of `q` offered to the units in ascending order, each hit in full before the next unit (R136). -/
def State.offerValue (s : State) (q : Quantity) (v : Int) : State := four.foldl (fun s w => s.offerTo q v w) s

/-! ### Requests on watch units (R127, R128, R135, R139) -/

/-- CLAIM_WATCH: the lowest FREE watch unit goes to the link (R127). -/
def State.claimWatch (s : State) (l : Link) : State :=
  let k := Request.claimWatch.kind
  match four.find? (fun w => (s.watch w).state == .free) with
  | none => s.answerStatus l k .noResource
  | some w =>
    (s.setWatch w { WatchUnit.free with owner := some l, state := .claimed }).answer l k .ok [byteOf w.val]

/-- R128 for a watch unit. -/
def State.withWatch (s : State) (l : Link) (k : Byte) (n : Byte) (f : Fin 4 → State) : State :=
  match fin4? n.toNat with
  | none => s.answerStatus l k .badArg
  | some w => if (s.watch w).owner = some l ∧ (s.watch w).state ≠ .free then f w else s.answerStatus l k .notOwner

/-- The action of SET_WATCH: HOLD is for the A-link alone. -/
def watchActionFor (l : Link) (n : Nat) : Option WatchAction :=
  match watchActionOfCode n with
  | some .hold => if l = .a then some .hold else none
  | a => a

/-- The settings that the arguments of SET_WATCH give, clamped (R135); none for an unknown code. -/
def watchSettings (l : Link) (quantity sense : Byte) (limit : Word) (hysteresis : Half) (mode action : Byte) :
    Option WatchSettings :=
  match quantityOfCode quantity.toNat, senseOfCode sense.toNat, watchModeOfCode mode.toNat,
      watchActionFor l action.toNat with
  | some q, some sn, some m, some a =>
    some { quantity := q, sense := sn, limit := clampInt (-1000) 65535 limit.toInt
           hysteresis := min 1000 hysteresis.toNat, mode := m, action := a }
  | _, _, _, _ => none

/-- The settings in effect in the request's layout without the unit number (R175). -/
def WatchSettings.bytes (c : WatchSettings) : List Byte :=
  [byteOf c.quantity.code, c.sense.code] ++ wordBytes (wordOfInt c.limit) ++ nat16 c.hysteresis
    ++ [c.mode.code, c.action.code]

/-- SET_WATCH (R135). -/
def State.setWatchRequest (s : State) (l : Link) (unit quantity sense : Byte) (limit : Word) (hysteresis : Half)
    (mode action : Byte) : State :=
  let k := (Request.setWatch unit quantity sense limit hysteresis mode action).kind
  s.withWatch l k unit fun w =>
    match watchSettings l quantity sense limit hysteresis mode action with
    | none => s.answerStatus l k .badArg
    | some c =>
      let clamped : Bool := c.limit != limit.toInt || c.hysteresis != hysteresis.toNat
      (s.setWatch w { s.watch w with state := .armed, settings := some c, previous := none, blocked := false }).answer
        l k (if clamped then .adjusted else .ok) c.bytes

/-- A configuration names watch unit `w`. -/
def CaptureConfig.names (c : CaptureConfig) (w : Fin 4) : Bool := c.start == .onWatch w || c.stop == .onWatch w

/-- The capture unit names watch unit `w` in a condition. -/
def CaptureUnit.names (u : CaptureUnit) (w : Fin 4) : Bool :=
  match u.config with
  | some c => c.names w
  | none => false

/-- The capture unit names the watch unit while ARMED or RUNNING. -/
def CaptureUnit.uses (u : CaptureUnit) (w : Fin 4) : Bool :=
  (u.state == .armed || u.state == .running) && u.names w

/-- A unit that names the released watch unit loses its configuration. -/
def CaptureUnit.forget (w : Fin 4) (u : CaptureUnit) : CaptureUnit :=
  if u.names w then { u with config := none } else u

/-- RELEASE_WATCH (R139). -/
def State.releaseWatchRequest (s : State) (l : Link) (unit : Byte) : State :=
  let k := (Request.releaseWatch unit).kind
  s.withWatch l k unit fun w =>
    if s.cap.units.any (·.uses w) then s.answerStatus l k .busy
    else
      let hits := (s.watch w).hits
      let s := s.setWatch w WatchUnit.free
      ({ s with cap := { s.cap with units := s.cap.units.map (CaptureUnit.forget w) } }).answer l k .ok (nat16 hits)

/-! ### The window's end (R26 to R36) -/

/-- The values of a window's end: n always, M at every BARS window, S at a valid one (R36), offered in this order, which
is the model's choice (log entry 35). -/
def State.offerWindow (s : State) (w : Window) (valid : Bool) (d : Dry) : State :=
  let s := s.offerValue .contacts w.n
  match w.method with
  | .demand => s
  | .bars =>
    let s := s.offerValue .m d.m
    if valid then s.offerValue .s d.s else s

/-- The next window starts while the phase is DRYING and the state is not DECLARED (R22). -/
def State.nextWindow (s : State) : State :=
  if s.csq.phase = .drying ∧ s.dry.estimate ≠ .declared then s.startWindow else s

/-- The end of window `w`: the WINDOW record, the declaration, which ends DRYING (R30), the values to the watches (R36,
R140), and the next window. That the declaration comes before the values is log entry 10. -/
def State.endWindow (s : State) (w : Window) : State :=
  let causes := s.windowCauses w
  let d := s.closeWindow w
  let declares := s.declares causes.isValid d
  let d := if declares then { d with estimate := .declared } else d
  let s := ({ s with dry := d }).offerRecord (windowRecord w causes d)
  let s := if declares then s.declareDry else s
  (s.offerWindow w causes.isValid d).nextWindow

/-- The ms left to the end of the window in progress. -/
def State.windowLeft (s : State) : Option Nat := s.left (s.dry.window.map (fun w => w.start + w.length))

/-- WINDOW_END. -/
def State.windowEnds (s : State) : State :=
  match s.dry.window with
  | none => s
  | some w => s.endWindow w

/-- The ms left to the next whole second of DRYING (R136). -/
def State.secondLeft (s : State) : Option Nat :=
  if s.csq.phase = .drying then some ((s.csq.dryingSeconds + 1) * 1000 - s.csq.dryingMs) else none

/-- A whole second of DRYING: its number is offered to the watches. -/
def State.dryingSecond (s : State) : State :=
  let n := s.csq.dryingMs / 1000
  ({ s with csq := { s.csq with dryingSeconds := n } }).offerValue .dryingSeconds n

end Sys2Proof.Machine
end

