-- ==== Sys2Proof/Machine/Pulse.lean ====
section
/-! DEFINITION. The drum's events that reach other blocks: the revolution pulse (R44, R49, R51), the scoring of a
revolution by the tangle monitor (R62 to R69), and the drum's timers (R44, R47, R48, R54, R56, R57, R68). -/

namespace Sys2Proof.Machine

/-! ### The revolution figures (R51) -/

/-- A motor current sample falls into the open revolution. -/
def OpenRevolution.sample (r : OpenRevolution) (i : Nat) : OpenRevolution :=
  { r with
    count := r.count + 1, sum := r.sum + i
    min := if r.count = 0 then i else Nat.min r.min i
    max := if r.count = 0 then i else Nat.max r.max i }

/-- A revolution opened at a pulse. -/
def OpenRevolution.opened (now : Nat) : OpenRevolution := { openedAt := now, count := 0, sum := 0, min := 0, max := 0 }

/-- The record of a revolution closed at `now`. -/
def OpenRevolution.close (r : OpenRevolution) (now : Nat) : Revolution :=
  { time := Nat.min 65535 ((now - r.openedAt) % 4294967296), min := r.min, max := r.max, mean := r.sum / r.count }

/-- The ripple of a revolution. -/
def Revolution.ripple (r : Revolution) : Nat := r.max - r.min

/-- Appended as the newest of at most 8. -/
def appendRevolution (h : List Revolution) (r : Revolution) : List Revolution :=
  (if Config.revolutionHistory ≤ h.length then h.drop 1 else h) ++ [r]

def Revolution.record (r : Revolution) : Record := .rev r.time r.min r.max r.mean

/-! ### Scoring (R62 to R65) -/

/-- The mean ripple of the history, of 8 entries when it counts (R63). -/
def meanRipple (h : List Revolution) : Nat := (h.map Revolution.ripple).sum / Config.revolutionHistory

/-- Condition A (R63). -/
def State.conditionA (s : State) : Bool :=
  s.dmc.history.length == Config.revolutionHistory && meanRipple s.dmc.history < s.rippleFloor

/-- Condition B (R64). -/
def State.conditionB (s : State) : Bool :=
  s.dry.lastN < s.contactFloor && s.program.target + s.wetMargin < s.dry.s && s.dry.method == .bars

/-- RUN, in either direction. -/
def Motion.isRun : Motion → Bool
  | .run _ => true
  | .idle | .starting _ | .rest | .restIn | .runOpp _ | .restOut => false

/-- A revolution record is scored (R62). -/
def State.scores (s : State) : Bool := s.csq.phase == .drying && s.program.tangleEnable && s.dmc.motion.isRun

/-- C after a scoring (R65). -/
def nextCounter (c : Nat) (both : Bool) : Nat := if both then satSucc 255 c else c - 1

/-- The candidate chain count (R66). -/
def Tgm.candidate (t : Tgm) : Nat := if t.recheck.isSome then t.b + 1 else 1

/-- The TANGLE record of the state at the scoring (R71). -/
def State.tangleRecord (s : State) (escalation : Bool) (chain : Nat) : Record :=
  .tangle escalation chain (meanRipple s.dmc.history) (min 255 s.dry.lastN) s.dry.s

/-- An accepted burst at the tangle monitor and the sequencer (R67); `before` is the state at the scoring. -/
def State.burstAccepted (s : State) (before : State) (chain : Nat) : State :=
  let s := State.refreshCapFlag { s with tgm := { s.tgm with
    c := 0, b := chain, recheck := none, burst := true, outstanding := false } }
  let s := s.offerRecord (before.tangleRecord false chain)
  s.modRecord (fun c => { c with bursts := satSucc 255 c.bursts })

/-- The escalation (R69). -/
def State.escalate (s : State) (chain : Nat) : State :=
  let r := s.tangleRecord true chain
  let s := State.refreshCapFlag { s with tgm := { s.tgm with c := 0, b := 0, recheck := none } }
  ((s.offerRecord r).notifyBoth (.tangle chain)).takeHoldCause .tangle

/-- A suspected tangle: a burst request, or the escalation (R66, R67, R69). The request is taken within the event of the
scoring, so it is never left outstanding (log entry 38). -/
def State.actOnTangle (s : State) : State :=
  let chain := s.tgm.candidate
  if chain ≤ s.maximumBursts then
    match s.takeBurst with
    | some t => t.burstAccepted s chain
    | none => s
  else s.escalate chain

/-- The tangle monitor is told of a new revolution record (R62, R65, R66). -/
def State.scoreRevolution (s : State) : State :=
  if s.scores then
    let s := { s with tgm := { s.tgm with c := nextCounter s.tgm.c (s.conditionA && s.conditionB) } }
    if s.tangleThreshold ≤ s.tgm.c ∧ !s.tgm.outstanding then s.actOnTangle else s
  else s

/-! ### The pulse (R44, R49, R51, R57) -/

/-- The stall interval after a pulse at speed `v` (R56). -/
def stallAfterPulse (v : Nat) : Nat := max 6000 (2 * (60000 / v))

/-- A revolution opens at this pulse and the stall deadline of RUN is set (R49, R56). -/
def State.openRevolution (s : State) : State :=
  let len := stallAfterPulse s.dmc.speed
  { s with dmc := { s.dmc with
    revolution := some (.opened s.clock), stallDue := some (s.clock + len), stallLength := len } }

/-- A revolution closes at this pulse: history, next revolution, REV record, watch values, tangle monitor (R51). The time
is offered to the watches before the ripple, which is the model's choice (log entry 35). -/
def State.closeRevolution (s : State) (o : OpenRevolution) : State :=
  let r := o.close s.clock
  let s := { s with dmc := { s.dmc with history := appendRevolution s.dmc.history r } }
  let s := s.openRevolution.offerRecord r.record
  ((s.offerValue .revTime r.time).offerValue .ripple r.ripple).scoreRevolution

/-- A pulse in RUN, or a later one in RUN_OPP. -/
def State.pulseTurning (s : State) : State :=
  match s.dmc.revolution with
  | some o => s.closeRevolution o
  | none => s.openRevolution

/-- The first pulse of STARTING: RUN, and the sequencer is told that the drum is running (R49, R104). -/
def State.pulseStarting (s : State) (d : Dir) : State :=
  let s := { s with dmc := { s.dmc with motion := .run d } }
  let s := s.setTurning.openRevolution
  if s.csq.phase = .prep then State.judgePrep { s with csq := { s.csq with revSeen := true } } else s

/-- A pulse in a rest (R57). -/
def State.pulseResting (s : State) : State :=
  if s.dmc.restCheck = .awaitingPulse then
    ({ s with dmc := { s.dmc with restCheck := .reported } }).takeFault .notStopping
  else s

/-- A revolution pulse. -/
def State.pulse (s : State) : State :=
  let s := { s with dmc := { s.dmc with lastPulse := some s.clock, still := false } }
  match s.dmc.motion with
  | .idle => s
  | .starting d => s.pulseStarting d
  | .run _ => s.pulseTurning
  | .runOpp _ => if s.dmc.turning then s.pulseTurning else s.setTurning.openRevolution
  | .rest | .restIn | .restOut => s.pulseResting

/-! ### Still, rest minimum, steps, bursts, supervision -/

/-- The ms left to the setting of the still flag (R44). -/
def State.stillLeft (s : State) : Option Nat :=
  if s.dmc.still then none else s.left (some (s.dmc.lastPulse.getD s.resetTime + 2000))

/-- The still flag is set: the gate is judged, and a waiting TAKE_CONTROL is answered (R44, R48, R123). -/
def State.becomeStill (s : State) : State :=
  let s := State.judgeGate { s with dmc := { s.dmc with still := true } }
  if s.csq.pendingTake then
    ({ s with csq := { s.csq with pendingTake := false } }).answerStatus .s Request.takeControl.kind .ok
  else s

/-- The rest minimum has passed (R48). -/
def State.restMinimumPasses (s : State) : State :=
  State.judgeGate { s with dmc := { s.dmc with restMinDue := none } }

/-- The step's time has run out: the staged step begins (R47). -/
def State.stepEnds (s : State) : State :=
  match s.dmc.staged with
  | some k => s.beginStep k
  | none => { s with dmc := { s.dmc with remaining := none } }

/-- The burst time has run out: REST_OUT (R54). -/
def State.burstTimeEnds (s : State) : State := s.enterRest .restOut false

/-- The stall deadline has expired: a new one of the same length, and fault STALL (R56). -/
def State.stallExpires (s : State) : State :=
  ({ s with dmc := { s.dmc with stallDue := some (s.clock + s.dmc.stallLength) } }).takeFault .stall

/-- The moment of the rest check, while it is being timed (R57). -/
def RestCheck.due : RestCheck → Option Nat
  | .timing d => some d
  | .none | .awaitingPulse | .reported => Option.none

/-- 15,000 ms after the rest entry time: the fault, or the wait for a pulse (R57). -/
def State.restCheckExpires (s : State) : State :=
  if s.dmc.still then { s with dmc := { s.dmc with restCheck := .awaitingPulse } }
  else ({ s with dmc := { s.dmc with restCheck := .reported } }).takeFault .notStopping

/-- The inverter fault line changes: DRIVE at its becoming active outside IDLE (R58). -/
def State.ivfChanges (s : State) (active : Bool) : State :=
  let rises := active && !s.pins.ivf
  let s := { s with pins := { s.pins with ivf := active } }
  s.faultIf (rises && s.dmc.motion != .idle) .drive

/-- The re-check deadline expires: the chain has ended (R68). -/
def State.recheckExpires (s : State) : State :=
  (State.refreshCapFlag { s with tgm := { s.tgm with recheck := none, b := 0 } }).settleTests

end Sys2Proof.Machine
end

