-- ==== Sys2Proof/Machine/Conversion.lean ====
section
/-! DEFINITION. Conversions as events: the slow channels (R3 to R7, R15) with the reactions of the heat stage
controller and the sequencer, the fast pair (R2), the measurement round (R12, R13), the start-up round (R16), and
the control period (R79). -/

namespace Sys2Proof.Machine

/-! ### Reactions of the heat stage controller (R83, R88, R90 to R93, R98) -/

/-- The housing limit (R93). -/
def State.housingCheck (s : State) (value : Int) : State :=
  if s.mfe.mode = .running ∧ !s.hsc.lockout ∧ (s.housingLimit : Int) ≤ value then
    let s := State.enforce { s with hsc := { s.hsc with lockout := true } }
    (s.notifyBoth (.stage 0 true value)).endDrying .overheat
  else s

/-- A temperature conversion at the heat stage controller. -/
def State.heatTemperature (s : State) (ch : Channel) (j : Judged) : State :=
  match ch with
  | .tIn =>
    let s := if j.entered then s.setInletCap 2 else s
    if s.csq.phase = .service then s.updateInletCap else s
  | .tExh => if j.entered then s.enforce else s
  | .tHsg =>
    let s := if j.entered then s.enforce else s
    if j.status = .good then s.housingCheck j.channel.value else s
  | .iHeat | .g | .iMot => s

/-- HEAT_STUCK is looked for at an I_heat conversion of the running schedule (R92). -/
def State.stuckCheck (s : State) (value : Int) : State :=
  if s.mfe.mode = .running then
    let found := s.stuck value
    (s.afterStuckCheck value).faultIf found .heatStuck
  else s

/-- An I_heat conversion at the heat stage controller: open-element tests, then the stuck check. -/
def State.heatCurrent (s : State) (value : Int) : State :=
  let s := s.recordAfter value
  let s := if s.csq.phase = .service then s.judgeTests else s
  s.stuckCheck value

/-! ### Reactions of the sequencer (R106, R117) -/

/-- A temperature conversion at the cycle sequencer. -/
def State.cycleTemperature (s : State) (ch : Channel) (j : Judged) : State :=
  let sensor : Bool := j.entered && (ch == .tExh || ch == .tHsg) && (s.csq.phase == .prep || s.csq.phase == .drying)
  let s := s.faultIf sensor .sensor
  if s.csq.phase = .cooling ∧ ch = .tExh ∧ j.status = .good ∧ j.channel.value ≤ (s.program.coolTarget : Int) then
    s.endCooling .coolTarget
  else s

/-! ### Slow conversions -/

/-- The watch quantity of a temperature channel (R7). -/
def Channel.quantity : Channel → Option Quantity
  | .tIn => some .tIn
  | .tExh => some .tExh
  | .tHsg => some .tHsg
  | .iHeat | .g | .iMot => none

/-- The value is offered to the watches when the outcome is GOOD (R7). -/
def State.offerTemperature (s : State) (ch : Channel) (j : Judged) : State :=
  match ch.quantity, j.status with
  | some q, .good => s.offerValue q j.channel.value
  | _, _ => s

/-- A temperature conversion: reading, round, TEMP record, watches, heat, sequencer. -/
def State.convertTemperature (s : State) (ch : Channel) (code : Code) : State :=
  let j := s.judged ch code
  let s := ((s.setChannel ch j.channel).roundDone ch).endRound
  let s := s.offerRecord (.temp ch j.status j.channel.value code)
  let s := s.offerTemperature ch j
  ((s.heatTemperature ch j).cycleTemperature ch j).settleTests

/-- An I_heat conversion. -/
def State.convertHeat (s : State) (code : Code) : State :=
  let v := s.plainValue .iHeat code
  let s := ((s.convertPlain .iHeat code).roundDone .iHeat).endRound
  ((s.offerRecord (.temp .iHeat .good v code)).heatCurrent v).settleTests

/-- A conversion of one of the six channels outside the fast schedule. -/
def State.convert (s : State) (ch : Channel) (code : Code) : State :=
  match ch with
  | .tIn | .tExh | .tHsg => s.convertTemperature ch code
  | .iHeat => s.convertHeat code
  | .g => (((s.reverseBars).convertPlain .g code).roundDone .g).endRound
  | .iMot => ((s.convertPlain .iMot code).roundDone .iMot).endRound

/-- A slow conversion of the running schedule: the rotation advances (R3). -/
def State.slowConversion (s : State) (code : Code) : State :=
  let ch := s.mfe.rotation
  State.convert { s with mfe := { s.mfe with rotation := ch.nextSlow, slowDue := some (s.clock + 250) } } ch code

/-! ### Fast conversions (R2, R51) -/

/-- A motor current sample falls into the open revolution. -/
def State.motorSample (s : State) (i : Nat) : State :=
  { s with dmc := { s.dmc with revolution := s.dmc.revolution.map (·.sample i) } }

/-- One bar sample and one motor current sample of the running schedule. -/
def State.fastConversion (s : State) (bar motor : Code) : State :=
  let s := { s with mfe := { s.mfe with fastDue := some (s.clock + 1) } }
  let s := (s.reverseBars.convertPlain .g bar).convertPlain .iMot motor
  let s := ((s.roundDone .g).roundDone .iMot).endRound
  (s.barSample bar.toNat).motorSample (s.plainValue .iMot motor).toNat

/-! ### Rounds (R12, R13, R16) -/

/-- The next channel of a measurement round in ON_REQUEST mode. -/
def State.roundNext (s : State) : Option Channel :=
  match s.mfe.mode, s.mfe.round with
  | .onRequest, some r => r.outstanding.head?
  | _, _ => none

/-- A conversion of a measurement round. -/
def State.roundConversion (s : State) (code : Code) : State :=
  match s.roundNext with
  | none => s
  | some ch => s.convert ch code

/-- The conversions of the start-up round in order (R16). -/
def startupOrder : List Channel :=
  [.tIn, .tIn, .tIn, .tExh, .tExh, .tExh, .tHsg, .tHsg, .tHsg, .iHeat, .g, .iMot]

/-- A conversion of the start-up round. -/
def State.startupConversion (s : State) (code : Code) : State :=
  match s.boot, startupOrder[s.mfe.startupDone]? with
  | .startup, some ch =>
    State.convert { s with mfe := { s.mfe with startupDone := s.mfe.startupDone + 1 } } ch code
  | _, _ => s

/-! ### The control period (R79, R99) -/

/-- The HEAT record (R99). -/
def State.heatRecord (s : State) : Record := .heat s.hsc.d s.onSet s.effectiveCap s.mfe.tExh.value

/-- Steps 2 to 5 of a period: demand, inlet cap, switching, HEAT record, and D to the watches. -/
def State.heatPeriod (s : State) : State :=
  let s := (s.computeDemand.updateInletCap).switchStages
  let s := s.offerRecord s.heatRecord
  if s.mfe.tExh.diag then s else s.offerValue .d s.hsc.d

/-- A control period (R79). -/
def State.controlPeriod (s : State) : State :=
  let s := { s with hsc := { s.hsc with periodDue := some (s.clock + 2000) } }
  (s.judgeTests.checkHeat).heatPeriod

/-! ### Airflow and allowance as events (R89, R95 to R97) -/

/-- The airflow switch changes; PREP's completion is judged when the state has become PROVEN (R96, R104). -/
def State.airflowChanges (s : State) (closed : Bool) : State :=
  let s := State.airflowSwitch { s with pins := { s.pins with afsClosed := closed } } closed
  s.judgePrep.settleTests

/-- The pause heat allowance runs out (R89). -/
def State.pauseExpires (s : State) : State :=
  State.enforce { s with hsc := { s.hsc with pauseDue := none, spent := true } }

/-- The proof deadline expires (R96). In FAULT the fan is off and the state OFF, where a later closing leaves it (log
entry 39). -/
def State.proofExpires (s : State) : State :=
  let s := { s with hsc := { s.hsc with proofDue := none } }
  s.faultIf (s.csq.phase == .prep && s.hsc.airflow == .proving) .airflow

/-- The grace deadline expires (R97). In FAULT the fan is off and the state OFF, where a later reclosing leaves it (log
entry 39). -/
def State.graceExpires (s : State) : State :=
  let s := { s with hsc := { s.hsc with graceDue := none } }
  s.faultIf (s.hsc.airflow == .lost) .airflow

/-- The ms left to the end of min_off of a stage whose test waits for it (R98). -/
def State.minOffLeft (s : State) (n : StageNo) : Option Nat :=
  let st := s.stage n
  if s.csq.phase = .service ∧ st.testDemand ∧ !st.on then
    s.left (some (st.switchTime + 1000 * s.minOff))
  else none

/-- The ms left to the end of min_on of a stage whose test has ended (R98). -/
def State.minOnLeft (s : State) (n : StageNo) : Option Nat :=
  let st := s.stage n
  if s.csq.phase = .service ∧ !st.testDemand ∧ st.on then s.left (some (st.switchTime + 1000 * s.minOn)) else none

/-- The ms left to the next counted second of a stage (R77); none while its output is off, so that a second which completes
at the very moment of the switch-off, and has not been counted before it, waits for the next switch-on (log entry 40). -/
def State.onSecondLeft (s : State) (n : StageNo) : Option Nat :=
  if (s.stage n).on then some (1000 - (s.stage n).rem) else none

end Sys2Proof.Machine
end

