-- ==== Sys2Proof/Machine/Links.lean ====
section
/-! DEFINITION. The link controllers (chapter 10): received characters and frames, the request queue, RESET_LINK,
the transmit selector, notices, periodic status, statistics, IDENTIFY and STATUS. -/

namespace Sys2Proof.Machine

/-! ### Valid frames (R113, R124, R166) -/

/-- A valid frame is reported to the sequencer: A-link supervision and S-link silence. -/
def State.reportFrame (s : State) (l : Link) : State :=
  match l with
  | .a =>
    if s.csq.phase.supervised then
      { s with csq := { s.csq with supervisionDue := some (s.clock + 1000 * s.supervisionTime) } }
    else s
  | .s =>
    if s.csq.phase = .service then { s with csq := { s.csq with silenceDue := some (s.clock + 30000) } } else s

/-- A frame is placed in the request queue, or discarded and counted when both places are taken (R167). -/
def LinkState.enqueue (lk : LinkState) (f : Frame) : LinkState :=
  if lk.queue.length < Config.queueCapacity then { lk with queue := lk.queue ++ [f] }
  else { lk with errors := { lk.errors with overflow := satSucc errorTop lk.errors.overflow } }

/-! ### RESET_LINK (R168) -/

/-- The OK reply of RESET_LINK. -/
def resetReply : Frame := { kind := resetLinkKind + 0x80#8, payload := [Status.ok.code] }

/-- RESET_LINK is taken: its reply replaces the waiting one; a second one adds nothing. -/
def LinkState.takeReset (lk : LinkState) : LinkState :=
  if lk.resetting then lk else { lk with resetting := true, reply := some resetReply }

/-- A valid RESET_LINK with an empty payload, reported and then taken, or held until the part is ready. -/
def State.resetArrives (s : State) (l : Link) : State :=
  let s := s.reportFrame l
  if s.boot = .ready then s.modLink l (·.takeReset) else s.modLink l (fun lk => { lk with resetHeld := true })

/-- A RESET_LINK held through the load and the start-up round is taken. -/
def LinkState.takeHeldReset (lk : LinkState) : LinkState :=
  if lk.resetHeld then LinkState.takeReset { lk with resetHeld := false } else lk

/-- The controller's own part of the reset's effects. -/
def LinkState.clearForReset (lk : LinkState) : LinkState :=
  { lk with
    queue := [], inProgress := none, reply := none, resetting := false
    pending := [], scheduled := false, statusDue := false, errors := .zero
    seq := 0, ring := [], posted := [] }

/-- A unit of the reset link is FREE again (R144). -/
def CaptureUnit.freeIf (l : Link) (u : CaptureUnit) : CaptureUnit := if u.owner = some l then .free else u

def WatchUnit.freeIf (l : Link) (x : WatchUnit) : WatchUnit := if x.owner = some l then .free else x

/-- The capture pool at a reset of link `l` (R144). -/
def Cap.resetLink (c : Cap) (l : Link) : Cap :=
  { units := c.units.map (CaptureUnit.freeIf l), watches := c.watches.map (WatchUnit.freeIf l) }

/-- A waiting TAKE_CONTROL is dropped by a reset of the S-link (R126). -/
def Csq.dropTake (c : Csq) (l : Link) : Csq := if l = .s then { c with pendingTake := false } else c

/-- The effects of RESET_LINK at one event, the sequencer's reaction last (R168). -/
def State.resetEffects (s : State) (l : Link) : State :=
  let s := (s.modLink l (·.clearForReset)).takeLinkDefaults l
  let s := { s with cap := s.cap.resetLink l, sst := s.sst.resetLink l, csq := s.csq.dropTake l }
  (s.resetFront l).resetAtSequencer l

/-! ### Notices, periodic status, statistics (R170 to R172) -/

/-- A kind set that names a code outside the eight kinds. -/
def namesUnknownKind (kinds : Half) : Bool := 256 ≤ kinds.toNat

/-- NOTICE_CFG on a link whose arguments are in order. -/
def LinkState.configure (lk : LinkState) (enable : Byte) (period now : Nat) : LinkState :=
  LinkState.reschedule { lk with
    enable := enable, period := period
    periodicDue := if period = 0 then none else some (now + 1000 * period)
    statusDue := lk.statusDue && period != 0 } lk.announced

/-- NOTICE_CFG (R170, R171). -/
def State.noticeCfgRequest (s : State) (l : Link) (enable : Half) (period : Byte) : State :=
  let k := (Request.noticeCfg enable period).kind
  if namesUnknownKind enable then s.answerStatus l k .badArg
  else
    let p := min 60 period.toNat
    let s := s.modLink l (·.configure (enable.truncate 8) p s.clock)
    s.answer l k (if p = period.toNat then .ok else .adjusted) (halfBytes enable ++ [byteOf p])

/-- The kinds named are removed from the pending set (R170). -/
def LinkState.acknowledge (lk : LinkState) (kinds : Byte) : LinkState :=
  LinkState.reschedule { lk with pending := lk.pending.filter (fun n => n.bit &&& kinds == 0) } lk.announced

/-- ACK_NOTICE (R170). -/
def State.ackNoticeRequest (s : State) (l : Link) (kinds : Half) : State :=
  let k := (Request.ackNotice kinds).kind
  if namesUnknownKind kinds then s.answerStatus l k .badArg
  else
    let s := s.modLink l (·.acknowledge (kinds.truncate 8))
    s.answer l k .ok [pendingMask (s.link l).pending, 0]

/-- LINK_STATS (R172): the counts and the frames queued; the counts are then 0. -/
def State.linkStatsRequest (s : State) (l : Link) : State :=
  let lk := s.link l
  let s := s.modLink l (fun lk => { lk with errors := .zero })
  s.answer l Request.linkStats.kind .ok (lk.errors.bytes ++ [byteOf lk.queue.length])

/-- The periodic period has run: a PERIODIC_STATUS is due, and the timer runs on (R171). -/
def LinkState.periodRuns (lk : LinkState) (now : Nat) : LinkState :=
  { lk with statusDue := true, periodicDue := some (now + 1000 * lk.period) }

/-! ### IDENTIFY and STATUS (R174 to R176) -/

/-- IDENTIFY: part number 340, behaviour revision 1, the reference time counter. -/
def State.identifyRequest (s : State) (l : Link) : State :=
  s.answer l Request.identify.kind .ok (nat16 340 ++ [1] ++ wordBytes s.refTime)

/-- A phase code, 0xFF when absent. -/
def phaseByte : Option Phase → Byte
  | none => 0xFF
  | some p => byteOf p.code

def endByte : Option EndReason → Byte
  | none => 0
  | some r => byteOf r.code

/-- Offsets 10 to 17 but for the end reason: the fault fields, 0 while there is no fault record. -/
def faultBytes : Option FaultRecord → List Byte
  | none => [0, 0, 0, 0, 0, 0, 0]
  | some f => [byteOf f.kind.code, byteOf f.phase.code] ++ wordBytes f.time ++ [byteOf f.extra]

def linkByte : Link → Byte
  | .a => 0
  | .s => 1

/-- Offsets 1 to 25 of STATUS: the sequencer's own fields. -/
def Csq.statusBytes (c : Csq) : List Byte :=
  [byteOf c.phase.code, c.reasons.mask, phaseByte c.record.held,
    match c.record.program with | none => 0xFF#8 | some p => byteOf p, linkByte c.record.startLink]
  ++ wordBytes c.record.startStamp ++ [endByte c.record.endReason] ++ faultBytes c.record.fault
  ++ nat32 (c.dryingMs / 1000) ++ nat32 (c.coolingMs / 1000)

/-- Offset 44: bit 0 the fan output, bit 1 an after-run. -/
def Hsc.fanByte (h : Hsc) : Byte := byteOf (h.fanOn.toNat + 2 * h.afterRun.isSome.toNat)

/-- The contents of a STATUS reply (R176). -/
def State.statusContents (s : State) : List Byte :=
  s.csq.statusBytes ++ nat32 s.energyWh ++ [s.dry.method.code, s.dry.estimate.code] ++ nat16 s.dry.current
  ++ [byteOf s.dry.remaining, byteOf s.csq.record.bursts, byteOf s.csq.record.tangleHolds] ++ nat16 s.hsc.d
  ++ [s.onSet.mask, s.openSet.mask, byteOf s.effectiveCap, boolByte s.hsc.lockout, s.hsc.airflow.code,
    s.hsc.fanByte, s.dmc.motion.code]

def State.statusRequest (s : State) (l : Link) : State := s.answer l Request.status.kind .ok s.statusContents

/-! ### Requests to their owners (R167, R174) -/

/-- The owning block judges the request and answers. -/
def State.serve (s : State) (l : Link) : Request → State
  | .identify => s.identifyRequest l
  | .status => s.statusRequest l
  | .read qs => s.readRequest l qs
  | .measure => s.measureRequest l
  | .pause => s.pauseRequest l
  | .resume => s.resumeRequest l
  | .abort => s.abortRequest l
  | .advance => s.advanceRequest l
  | .clear => s.clearRequest l
  | .start p => s.startRequest l p
  | .set b f vs => s.setRequest l b f vs
  | .get b f c => s.getRequest l b f c
  | .store b => s.storeRequest l b
  | .noticeCfg e p => s.noticeCfgRequest l e p
  | .ackNotice k => s.ackNoticeRequest l k
  | .claimCapture => s.claimCapture l
  | .configure u src sf sa ef ea d p => s.configureUnit l u src sf sa ef ea d p
  | .arm u => s.armUnit l u
  | .stopCapture u => s.stopUnit l u
  | .releaseCapture u => s.releaseUnit l u
  | .claimWatch => s.claimWatch l
  | .setWatch u q sn lim h m a => s.setWatchRequest l u q sn lim h m a
  | .releaseWatch u => s.releaseWatchRequest l u
  | .post t z => s.postBlock l t z
  | .flush t => s.flushBlock l t
  | .cancel t => s.cancelBlock l t
  | .takeControl => s.takeControlRequest l
  | .test a d v => s.testRequest l a d v
  | .releaseControl => s.releaseControlRequest l
  | .linkStats => s.linkStatsRequest l

/-- The controller may take a request (R167, R168). -/
def State.canTake (s : State) (l : Link) : Bool :=
  s.boot == .ready && (s.link l).inProgress.isNone && (s.link l).reply.isNone && !(s.link l).resetting

/-- A frame taken from the queue: its kind, its length, then its owner (R167). -/
def State.takeFrame (s : State) (l : Link) (f : Frame) : State :=
  match f.parse with
  | .unknownKind => s.answerStatus l f.kind .unknown
  | .badLength => s.answerStatus l f.kind .badArg
  | .request r => s.serve l r

/-- The controller takes the oldest queued request when it may (R167). -/
def State.takeRequest (s : State) (l : Link) : State :=
  match (s.link l).queue with
  | [] => s
  | f :: rest =>
    if s.canTake l then (s.modLink l (fun lk => { lk with queue := rest })).takeFrame l f else s

/-- A request comes in as a valid frame: it is reported, and taken at once when nothing stands before it, else
queued (R166, R167, log entry 4). -/
def State.arrive (s : State) (l : Link) (r : Request) : State :=
  let s := s.reportFrame l
  if s.canTake l && (s.link l).queue.isEmpty then s.serve l r else s.modLink l (·.enqueue r.frame)

/-! ### Received characters (R166) -/

/-- The gap that abandons a frame: 5 ms on the A-link, 10 ms on the S-link. -/
def gapLimit : Link → Nat
  | .a => 5
  | .s => 10

/-- A valid frame: RESET_LINK with an empty payload apart, the others to the queue (R166, R168). -/
def State.frameArrives (s : State) (l : Link) (f : Frame) : State :=
  if f.kind = resetLinkKind ∧ f.payload = [] then s.resetArrives l
  else (s.reportFrame l).modLink l (·.enqueue f)

def State.setAssembler (s : State) (l : Link) (a : Assembler) : State :=
  let due := match a with
    | .hunt => none
    | .length | .body _ _ _ | .check _ _ _ => some (s.clock + gapLimit l)
  s.modLink l (fun lk => { lk with assembler := a, gapDue := due })

def State.countError (s : State) (l : Link) (f : ErrorCounts → ErrorCounts) : State :=
  s.modLink l (fun lk => { lk with errors := f lk.errors })

/-- A complete frame judged (R166). -/
def State.judgeFrame (s : State) (l : Link) (len : Nat) (bytes : List Byte) (error : Bool) (check : Byte) : State :=
  if error then s.countError l (fun e => { e with byteError := satSucc errorTop e.byteError })
  else if check ≠ crc (byteOf len :: bytes) then
    s.countError l (fun e => { e with checkError := satSucc errorTop e.checkError })
  else
    match bytes with
    | [] => s
    | k :: p => s.frameArrives l { kind := k, payload := p }

/-- A received character with its byte error mark. In LENGTH and BODY a byte error sets the frame's error mark; in
CHECK R166 names no such effect (log entry 30). -/
def State.receive (s : State) (l : Link) (b : Byte) (error : Bool) : State :=
  match (s.link l).assembler with
  | .hunt => if b = 0xC5#8 ∧ !error then s.setAssembler l .length else s
  | .length =>
    if b = 0 ∨ 250 < b.toNat then
      (s.setAssembler l .hunt).countError l (fun e => { e with badLength := satSucc errorTop e.badLength })
    else s.setAssembler l (.body b.toNat [] error)
  | .body len bytes mark =>
    let bytes := bytes ++ [b]
    let mark := mark || error
    if bytes.length < len then s.setAssembler l (.body len bytes mark)
    else s.setAssembler l (.check len bytes mark)
  | .check len bytes mark => (s.setAssembler l .hunt).judgeFrame l len bytes mark b

/-- The gap expires: the frame is abandoned (R166). -/
def State.gapExpires (s : State) (l : Link) : State :=
  (s.setAssembler l .hunt).countError l (fun e => { e with gap := satSucc errorTop e.gap })

/-! ### The transmit selector (R149, R169, R177, R178) -/

/-- The oldest FILLED block of a queue, with its filling. -/
def oldestFilled : List Posted → Option (Posted × Filling)
  | [] => none
  | p :: ps =>
    match p.filled with
    | some f => some (p, f)
    | none => oldestFilled ps

/-- The BLOCK frame of a FILLED block (R149, R178). -/
def blockFrame (p : Posted) (f : Filling) : Frame :=
  { kind := 0x61
    payload := [p.tag, byteOf f.entries.length, byteOf (f.ended.toNat + 2 * f.flushed.toNat)]
      ++ f.entries.flatMap RingEntry.bytes }

/-- The NOTICE frame: the whole pending set with its details (R170, R177). -/
def LinkState.noticeFrame (lk : LinkState) : Frame :=
  { kind := 0x60, payload := [pendingMask lk.pending, 0] ++ lk.pending.flatMap Notice.detail }

/-- The PERIODIC_STATUS frame (R171, R178). -/
def State.periodicFrame (s : State) : Frame :=
  { kind := 0x62
    payload := [byteOf s.csq.phase.code, s.csq.reasons.mask] ++ nat16 s.dry.current ++ [byteOf s.dry.remaining]
      ++ int16 s.mfe.tExh.value ++ int16 s.mfe.tIn.value ++ [s.onSet.mask, s.dmc.motion.code] }

/-- The transmission of a frame begins. -/
def LinkState.beginSending (lk : LinkState) (f : Frame) (reset : Bool) : LinkState :=
  { lk with sending := some { bytes := f.wire, reset := reset } }

/-- A BLOCK frame begins: the block leaves the queue, and R148 and R152 apply again (R149). -/
def State.beginBlock (s : State) (l : Link) (p : Posted) (f : Filling) : State :=
  (s.modLink l (fun lk =>
    { lk with posted := lk.posted.filter (fun q => q.tag != p.tag) }.beginSending (blockFrame p f) false)).deliver l

/-- The free transmitter begins the first frame that exists: reply, BLOCK, NOTICE, PERIODIC_STATUS (R169). -/
def State.beginTransmission (s : State) (l : Link) : State :=
  let lk := s.link l
  if lk.sending.isSome then s
  else
    match lk.reply, oldestFilled lk.posted with
    | some f, _ => s.setLink l ({ lk with reply := none }.beginSending f lk.resetting)
    | none, some (p, f) => s.beginBlock l p f
    | none, none =>
      if lk.scheduled then s.setLink l ({ lk with scheduled := false }.beginSending lk.noticeFrame false)
      else if lk.statusDue then s.setLink l ({ lk with statusDue := false }.beginSending s.periodicFrame false)
      else s

/-- The last byte has been sent: the transmitter is free, and a RESET_LINK reply brings the reset's effects
(R168, R169). -/
def State.endTransmission (s : State) (l : Link) : State :=
  match (s.link l).sending with
  | none => s
  | some x =>
    let s := s.modLink l (fun lk => { lk with sending := none })
    if x.reset then s.resetEffects l else s

end Sys2Proof.Machine
end

