-- ==== Sys2Proof/Machine/Clock.lean ====
section
/-! DEFINITION. The clock-driven commands: how long each has left, the frame of their meanings, and the tick that
an empty queue makes (log entries 1, 2 and 26). -/

namespace Sys2Proof.Machine

/-- The ms left to a phase's own limit: the elapsed count against so many minutes (R105, R106, R107). -/
def State.limitLeft (s : State) (phase : Phase) (minutes elapsed : Nat) : Option Nat :=
  if s.csq.phase = phase then some (60000 * minutes - elapsed) else none

/-- The ms left to a clock-driven command; none while its timer does not run, and for every other command. -/
def State.commandLeft (s : State) : Instr → Option Nat
  | .fastConversion _ _ => s.left s.mfe.fastDue
  | .slowConversion _ => s.left s.mfe.slowDue
  | .windowEnd => s.windowLeft
  | .stillTimeout => s.stillLeft
  | .restMinimumExpiry => s.left s.dmc.restMinDue
  | .stepEnd => s.dmc.remaining
  | .burstTimeExpiry => s.left s.dmc.burstDue
  | .stallDeadlineExpiry => s.left s.dmc.stallDue
  | .restCheckExpiry => s.left s.dmc.restCheck.due
  | .recheckDeadlineExpiry => s.left s.tgm.recheck
  | .controlPeriod => s.left s.hsc.periodDue
  | .onTimeSecond n => s.onSecondLeft n
  | .pauseAllowanceExpiry => s.left s.hsc.pauseDue
  | .afterRunExpiry => s.left s.hsc.afterRun
  | .proofDeadlineExpiry => s.left s.hsc.proofDue
  | .graceDeadlineExpiry => s.left s.hsc.graceDue
  | .testStageMinOffExpiry n => s.minOffLeft n
  | .testStageMinOnExpiry n => s.minOnLeft n
  | .dryingElapsedSecond => s.secondLeft
  | .timeLimit => s.limitLeft .drying s.program.maxDrying s.csq.dryingMs
  | .coolTime => s.limitLeft .cooling s.program.maxCooling s.csq.coolingMs
  | .guardTime => s.limitLeft .guard s.program.guardTime s.csq.guardMs
  | .holdLimitExpiry => s.left s.csq.holdDue
  | .supervisionExpiry => s.left s.csq.supervisionDue
  | .silenceExpiry => s.left s.csq.silenceDue
  | .testTimerExpiry a => s.left (s.csq.timer a)
  | .gapExpiry l => s.left (s.link l).gapDue
  | .periodicPeriodExpiry l => s.left (s.link l).periodicDue
  | _ => none

/-- The meaning of a command that comes from outside: without supply it does not reach the part (log entry 9). -/
def State.event (s : State) (effect : State → State) : Host.Outcome State Fault Refusal := .next (s.powered effect)

/-- The meaning of a clock-driven command: the clock moves to its moment and the effect is made; while its timer
does not run it does nothing (log entry 2). -/
def State.timed (s : State) (i : Instr) (effect : State → State) : Host.Outcome State Fault Refusal :=
  s.event (fun s => s.atMoment (s.commandLeft i) effect)

/-! ### The tick (log entry 1) -/

/-- The commands that the part's own clock brings, in the order in which those due at one moment are taken (log
entry 26). Conversions are not among them: their codes come from outside. -/
def clockCommands : List Instr :=
  [.onTimeSecond 0, .onTimeSecond 1, .onTimeSecond 2, .onTimeSecond 3, .windowEnd, .stillTimeout,
   .restMinimumExpiry, .stepEnd, .burstTimeExpiry, .stallDeadlineExpiry, .restCheckExpiry,
   .recheckDeadlineExpiry, .controlPeriod, .pauseAllowanceExpiry, .afterRunExpiry, .proofDeadlineExpiry,
   .graceDeadlineExpiry, .testStageMinOffExpiry 0, .testStageMinOffExpiry 1, .testStageMinOffExpiry 2,
   .testStageMinOffExpiry 3, .testStageMinOnExpiry 0, .testStageMinOnExpiry 1, .testStageMinOnExpiry 2,
   .testStageMinOnExpiry 3, .dryingElapsedSecond, .timeLimit, .coolTime, .guardTime, .holdLimitExpiry,
   .supervisionExpiry, .silenceExpiry, .testTimerExpiry (.stage 0), .testTimerExpiry (.stage 1),
   .testTimerExpiry (.stage 2), .testTimerExpiry (.stage 3), .testTimerExpiry .fan, .testTimerExpiry .drum,
   .gapExpiry .a, .gapExpiry .s, .periodicPeriodExpiry .a, .periodicPeriodExpiry .s, .requestTake .a,
   .requestTake .s, .transmitBegin .a, .transmitBegin .s]

/-- The controller of a link has a request it may take (R167). -/
def State.takeable (s : State) (l : Link) : Bool := s.canTake l && !(s.link l).queue.isEmpty

/-- The transmitter of a link is free and a frame exists for it (R169). -/
def State.sendable (s : State) (l : Link) : Bool :=
  let lk := s.link l
  lk.sending.isNone
    && (lk.reply.isSome || (oldestFilled lk.posted).isSome || lk.scheduled || lk.statusDue)

/-- A command of the clock is due now. -/
def State.due (s : State) (i : Instr) : Bool :=
  match i with
  | .requestTake l => s.takeable l
  | .transmitBegin l => s.sendable l
  | .testStageMinOffExpiry n => s.minOffLeft n == some 0 && s.testMayStart n
  | i => s.commandLeft i == some 0

/-- The first command due now, in the fixed order. -/
def State.firstDue (s : State) : Option Instr := clockCommands.find? s.due

/-- The first command due now is queued; with none due, one millisecond passes. Each command is found due at the moment
it is queued, so one whose timer an earlier command of the same moment has set again or removed is not queued. Without
supply nothing happens. -/
def State.tick (s : State) : State :=
  s.powered fun s =>
    match s.firstDue with
    | some c => { s with pending := [c] }
    | none => s.elapse 1

end Sys2Proof.Machine
end

