-- ==== Sys2Proof/Machine/CaptureRequests.lean ====
section
/-! DEFINITION. The requests on capture units, watch units and posted blocks (chapters 7 and 8). -/

namespace Sys2Proof.Machine

/-- CLAIM_CAPTURE comes in (R127). -/
def execClaimCapture (l : Link) (s : State) : Host.Outcome State Fault Refusal :=
  s.event fun s => s.arrive l .claimCapture

/-- CONFIGURE comes in (R129). -/
def execConfigure (l : Link) (unit : Byte) (sources : Half) (startForm startArg endForm : Byte) (endArg : Half)
    (decimation policy : Byte) (s : State) : Host.Outcome State Fault Refusal :=
  s.event fun s => s.arrive l (.configure unit sources startForm startArg endForm endArg decimation policy)

/-- ARM comes in (R130). -/
def execArm (l : Link) (unit : Byte) (s : State) : Host.Outcome State Fault Refusal :=
  s.event fun s => s.arrive l (.arm unit)

/-- STOP_CAPTURE comes in (R133). -/
def execStopCapture (l : Link) (unit : Byte) (s : State) : Host.Outcome State Fault Refusal :=
  s.event fun s => s.arrive l (.stopCapture unit)

/-- RELEASE_CAPTURE comes in (R134). -/
def execReleaseCapture (l : Link) (unit : Byte) (s : State) : Host.Outcome State Fault Refusal :=
  s.event fun s => s.arrive l (.releaseCapture unit)

/-- CLAIM_WATCH comes in (R127). -/
def execClaimWatch (l : Link) (s : State) : Host.Outcome State Fault Refusal :=
  s.event fun s => s.arrive l .claimWatch

/-- SET_WATCH comes in (R135). -/
def execSetWatch (l : Link) (unit quantity sense : Byte) (limit : Word) (hysteresis : Half) (mode action : Byte)
    (s : State) : Host.Outcome State Fault Refusal :=
  s.event fun s => s.arrive l (.setWatch unit quantity sense limit hysteresis mode action)

/-- RELEASE_WATCH comes in (R139). -/
def execReleaseWatch (l : Link) (unit : Byte) (s : State) : Host.Outcome State Fault Refusal :=
  s.event fun s => s.arrive l (.releaseWatch unit)

/-- POST comes in (R147). -/
def execPost (l : Link) (tag size : Byte) (s : State) : Host.Outcome State Fault Refusal :=
  s.event fun s => s.arrive l (.post tag size)

/-- FLUSH comes in (R150). -/
def execFlush (l : Link) (tag : Byte) (s : State) : Host.Outcome State Fault Refusal :=
  s.event fun s => s.arrive l (.flush tag)

/-- CANCEL comes in (R151). -/
def execCancel (l : Link) (tag : Byte) (s : State) : Host.Outcome State Fault Refusal :=
  s.event fun s => s.arrive l (.cancel tag)

end Sys2Proof.Machine
end

