-- ==== Sys2Proof/Machine/CycleEvents.lean ====
section
/-! DEFINITION. The events and requests of the cycle sequencer (chapter 6). -/

namespace Sys2Proof.Machine

/-- DOOR_OPENS (R88, R114). -/
def execDoorOpens (s : State) : Host.Outcome State Fault Refusal := s.event State.doorOpened

/-- DOOR_CLOSES: the door interlock clears; the sequencer takes no event (R88, R114). -/
def execDoorCloses (s : State) : Host.Outcome State Fault Refusal :=
  s.event fun s => State.settleTests { s with pins := { s.pins with doorOpen := false } }

/-- CUTOFF_OPENS (R88, R117). -/
def execCutoffOpens (s : State) : Host.Outcome State Fault Refusal := s.event State.cutoffOpened

/-- CUTOFF_CLOSES: the cutoff interlock clears (R88). -/
def execCutoffCloses (s : State) : Host.Outcome State Fault Refusal :=
  s.event fun s => State.settleTests { s with pins := { s.pins with cutOpen := false } }

/-- DRYING_ELAPSED_SECOND (07 7.1, R136). -/
def execDryingElapsedSecond (s : State) : Host.Outcome State Fault Refusal :=
  s.timed .dryingElapsedSecond State.dryingSecond

/-- TIME_LIMIT (R105). -/
def execTimeLimit (s : State) : Host.Outcome State Fault Refusal := s.timed .timeLimit fun s => s.endDrying .timeLimit

/-- COOL_TIME (R106). -/
def execCoolTime (s : State) : Host.Outcome State Fault Refusal := s.timed .coolTime fun s => s.endCooling .coolTime

/-- GUARD_TIME (R107). -/
def execGuardTime (s : State) : Host.Outcome State Fault Refusal := s.timed .guardTime fun s => s.enterDone .guardTime

/-- HOLD_LIMIT_EXPIRY (R112). -/
def execHoldLimitExpiry (s : State) : Host.Outcome State Fault Refusal :=
  s.timed .holdLimitExpiry fun s => s.endCycle .holdExpired

/-- SUPERVISION_EXPIRY (R113). -/
def execSupervisionExpiry (s : State) : Host.Outcome State Fault Refusal :=
  s.timed .supervisionExpiry fun s => s.takeHoldCause .link

/-- SILENCE_EXPIRY (R125). -/
def execSilenceExpiry (s : State) : Host.Outcome State Fault Refusal :=
  s.timed .silenceExpiry fun s => s.release .silence

/-- TEST_TIMER_EXPIRY (R124). -/
def execTestTimerExpiry (actuator : Actuator) (s : State) : Host.Outcome State Fault Refusal :=
  s.timed (.testTimerExpiry actuator) fun s => s.testTimerEnds actuator

/-- START comes in (R103). -/
def execStart (l : Link) (program : Byte) (s : State) : Host.Outcome State Fault Refusal :=
  s.event fun s => s.arrive l (.start program)

/-- PAUSE comes in (R115). -/
def execPause (l : Link) (s : State) : Host.Outcome State Fault Refusal := s.event fun s => s.arrive l .pause

/-- RESUME comes in (R111). -/
def execResume (l : Link) (s : State) : Host.Outcome State Fault Refusal := s.event fun s => s.arrive l .resume

/-- ABORT comes in (R115). -/
def execAbort (l : Link) (s : State) : Host.Outcome State Fault Refusal := s.event fun s => s.arrive l .abort

/-- ADVANCE comes in (R115). -/
def execAdvance (l : Link) (s : State) : Host.Outcome State Fault Refusal := s.event fun s => s.arrive l .advance

/-- CLEAR comes in (R115, R120). -/
def execClear (l : Link) (s : State) : Host.Outcome State Fault Refusal := s.event fun s => s.arrive l .clear

/-- TAKE_CONTROL comes in (R123). -/
def execTakeControl (l : Link) (s : State) : Host.Outcome State Fault Refusal :=
  s.event fun s => s.arrive l .takeControl

/-- TEST comes in (R124). -/
def execTest (l : Link) (actuator demand speed : Byte) (s : State) : Host.Outcome State Fault Refusal :=
  s.event fun s => s.arrive l (.test actuator demand speed)

/-- RELEASE_CONTROL comes in (R125). -/
def execReleaseControl (l : Link) (s : State) : Host.Outcome State Fault Refusal :=
  s.event fun s => s.arrive l .releaseControl

end Sys2Proof.Machine
end

