-- ==== Sys2Proof/Machine/DrumEvents.lean ====
section
/-! DEFINITION. The events of the drum motion controller and the tangle monitor (chapters 3 and 4). -/

namespace Sys2Proof.Machine

/-- REVOLUTION_PULSE (R44, R49). -/
def execRevolutionPulse (s : State) : Host.Outcome State Fault Refusal := s.event fun s => s.pulse.settleTests

/-- STILL_TIMEOUT: 2,000 ms without a pulse (R44). -/
def execStillTimeout (s : State) : Host.Outcome State Fault Refusal := s.timed .stillTimeout State.becomeStill

/-- REST_MINIMUM_EXPIRY (R48). -/
def execRestMinimumExpiry (s : State) : Host.Outcome State Fault Refusal :=
  s.timed .restMinimumExpiry State.restMinimumPasses

/-- STEP_END (R47). -/
def execStepEnd (s : State) : Host.Outcome State Fault Refusal := s.timed .stepEnd State.stepEnds

/-- BURST_TIME_EXPIRY (R54). -/
def execBurstTimeExpiry (s : State) : Host.Outcome State Fault Refusal := s.timed .burstTimeExpiry State.burstTimeEnds

/-- STALL_DEADLINE_EXPIRY (R56). -/
def execStallDeadlineExpiry (s : State) : Host.Outcome State Fault Refusal :=
  s.timed .stallDeadlineExpiry State.stallExpires

/-- REST_CHECK_EXPIRY (R57). -/
def execRestCheckExpiry (s : State) : Host.Outcome State Fault Refusal :=
  s.timed .restCheckExpiry State.restCheckExpires

/-- IVF_CHANGE (R58). -/
def execIvfChange (active : Bool) (s : State) : Host.Outcome State Fault Refusal :=
  s.event fun s => s.ivfChanges active

/-- RECHECK_DEADLINE_EXPIRY (R68). -/
def execRecheckDeadlineExpiry (s : State) : Host.Outcome State Fault Refusal :=
  s.timed .recheckDeadlineExpiry State.recheckExpires

end Sys2Proof.Machine
end

