-- ==== Sys2Proof/Machine/FrontEvents.lean ====
section
/-! DEFINITION. The conversions, the measurement requests and the window's end (chapters 1 and 2). -/

namespace Sys2Proof.Machine

/-- STARTUP_ROUND_CONVERSION: the next of the twelve conversions (R16). -/
def execStartupRoundConversion (code : Code) (s : State) : Host.Outcome State Fault Refusal :=
  s.event fun s => s.startupConversion code

/-- FAST_CONVERSION: one bar sample and one motor current sample (R2). -/
def execFastConversion (bar motor : Code) (s : State) : Host.Outcome State Fault Refusal :=
  s.timed (.fastConversion bar motor) fun s => s.fastConversion bar motor

/-- SLOW_CONVERSION: the next channel of the rotation (R3). -/
def execSlowConversion (code : Code) (s : State) : Host.Outcome State Fault Refusal :=
  s.timed (.slowConversion code) fun s => s.slowConversion code

/-- ROUND_CONVERSION: the next outstanding channel of a measurement round (R12, R13). -/
def execRoundConversion (code : Code) (s : State) : Host.Outcome State Fault Refusal :=
  s.event fun s => s.roundConversion code

/-- MEASURE comes in (R12). -/
def execMeasure (l : Link) (s : State) : Host.Outcome State Fault Refusal := s.event fun s => s.arrive l .measure

/-- READ comes in (R11). -/
def execRead (l : Link) (quantities : List Byte) (s : State) : Host.Outcome State Fault Refusal :=
  s.event fun s => s.arrive l (.read quantities)

/-- WINDOW_END (R22, R26). -/
def execWindowEnd (s : State) : Host.Outcome State Fault Refusal := s.timed .windowEnd State.windowEnds

end Sys2Proof.Machine
end

