-- ==== Sys2Proof/Machine/HeatEvents.lean ====
section
/-! DEFINITION. The events of the heat stage controller (chapter 5). -/

namespace Sys2Proof.Machine

/-- CONTROL_PERIOD (R79). -/
def execControlPeriod (s : State) : Host.Outcome State Fault Refusal := s.timed .controlPeriod State.controlPeriod

/-- ON_TIME_SECOND of a stage whose output is on (R77). -/
def execOnTimeSecond (n : StageNo) (s : State) : Host.Outcome State Fault Refusal :=
  s.timed (.onTimeSecond n) fun s => s.countSecond n

/-- PAUSE_ALLOWANCE_EXPIRY (R89). -/
def execPauseAllowanceExpiry (s : State) : Host.Outcome State Fault Refusal :=
  s.timed .pauseAllowanceExpiry State.pauseExpires

/-- AFTER_RUN_EXPIRY (R95). -/
def execAfterRunExpiry (s : State) : Host.Outcome State Fault Refusal := s.timed .afterRunExpiry State.fanOff

/-- AIRFLOW_SWITCH_CHANGE (R96, R97, R104). -/
def execAirflowSwitchChange (closed : Bool) (s : State) : Host.Outcome State Fault Refusal :=
  s.event fun s => s.airflowChanges closed

/-- PROOF_DEADLINE_EXPIRY (R96). -/
def execProofDeadlineExpiry (s : State) : Host.Outcome State Fault Refusal :=
  s.timed .proofDeadlineExpiry State.proofExpires

/-- GRACE_DEADLINE_EXPIRY (R97). -/
def execGraceDeadlineExpiry (s : State) : Host.Outcome State Fault Refusal :=
  s.timed .graceDeadlineExpiry State.graceExpires

/-- TEST_STAGE_MIN_OFF_EXPIRY (R98). -/
def execTestStageMinOffExpiry (n : StageNo) (s : State) : Host.Outcome State Fault Refusal :=
  s.timed (.testStageMinOffExpiry n) State.settleTests

/-- TEST_STAGE_MIN_ON_EXPIRY: the output of a stage whose test has ended goes off (R98). -/
def execTestStageMinOnExpiry (n : StageNo) (s : State) : Host.Outcome State Fault Refusal :=
  s.timed (.testStageMinOnExpiry n) fun s => (s.stageOff n).settleTests

end Sys2Proof.Machine
end

