-- ==== Sys2Proof/Machine/LinkEvents.lean ====
section
/-! DEFINITION. The events and requests of the link controllers (chapters 10 and 11). -/

namespace Sys2Proof.Machine

/-- CHARACTER_RECEIVED: data bits, parity bit and stop bit as sampled (R164, R166). -/
def execCharacterReceived (l : Link) (data : Byte) (parity stop : Bool) (s : State) :
    Host.Outcome State Fault Refusal :=
  s.event fun s => s.receive l data (byteError data parity stop)

/-- GAP_EXPIRY (R166). -/
def execGapExpiry (l : Link) (s : State) : Host.Outcome State Fault Refusal :=
  s.timed (.gapExpiry l) fun s => s.gapExpires l

/-- REQUEST_TAKE (R167). -/
def execRequestTake (l : Link) (s : State) : Host.Outcome State Fault Refusal := s.event fun s => s.takeRequest l

/-- RESET_LINK comes in with an empty payload (R168). -/
def execResetLink (l : Link) (s : State) : Host.Outcome State Fault Refusal := s.event fun s => s.resetArrives l

/-- TRANSMIT_BEGIN (R169). -/
def execTransmitBegin (l : Link) (s : State) : Host.Outcome State Fault Refusal :=
  s.event fun s => s.beginTransmission l

/-- TRANSMIT_COMPLETE (R168, R169). -/
def execTransmitComplete (l : Link) (s : State) : Host.Outcome State Fault Refusal :=
  s.event fun s => s.endTransmission l

/-- NOTICE_CFG comes in (R170, R171). -/
def execNoticeCfg (l : Link) (enable : Half) (period : Byte) (s : State) : Host.Outcome State Fault Refusal :=
  s.event fun s => s.arrive l (.noticeCfg enable period)

/-- ACK_NOTICE comes in (R170). -/
def execAckNotice (l : Link) (kinds : Half) (s : State) : Host.Outcome State Fault Refusal :=
  s.event fun s => s.arrive l (.ackNotice kinds)

/-- PERIODIC_PERIOD_EXPIRY (R171). -/
def execPeriodicPeriodExpiry (l : Link) (s : State) : Host.Outcome State Fault Refusal :=
  s.timed (.periodicPeriodExpiry l) fun s => s.modLink l (·.periodRuns s.clock)

/-- LINK_STATS comes in (R172). -/
def execLinkStats (l : Link) (s : State) : Host.Outcome State Fault Refusal := s.event fun s => s.arrive l .linkStats

/-- IDENTIFY comes in (R174, R175). -/
def execIdentify (l : Link) (s : State) : Host.Outcome State Fault Refusal := s.event fun s => s.arrive l .identify

/-- STATUS comes in (R176). -/
def execStatus (l : Link) (s : State) : Host.Outcome State Fault Refusal := s.event fun s => s.arrive l .status

end Sys2Proof.Machine
end

