-- ==== Sys2Proof/Machine/StoreRequests.lean ====
section
/-! DEFINITION. The requests on the settings store and the completion of a store (chapter 9). -/

namespace Sys2Proof.Machine

/-- SET comes in (R157). -/
def execSet (l : Link) (block first : Byte) (values : List Word) (s : State) : Host.Outcome State Fault Refusal :=
  s.event fun s => s.arrive l (.set block first values)

/-- GET comes in (R158). -/
def execGet (l : Link) (block first count : Byte) (s : State) : Host.Outcome State Fault Refusal :=
  s.event fun s => s.arrive l (.get block first count)

/-- STORE comes in (R159). -/
def execStore (l : Link) (block : Byte) (s : State) : Host.Outcome State Fault Refusal :=
  s.event fun s => s.arrive l (.store block)

/-- STORE_COMPLETE (R160, R161). -/
def execStoreComplete (s : State) : Host.Outcome State Fault Refusal := s.event State.completeStore

end Sys2Proof.Machine
end

