-- ==== Sys2Proof/Machine/SupplyEvents.lean ====
section
/-! DEFINITION. The supply events, the settings load and the end of the start-up round (R16, R126, R155, R162). -/

namespace Sys2Proof.Machine

/-- POWER_ON: every block takes its reset values and the load begins; what a store in progress left is in the
non-volatile words (R155, R162, R163). -/
def execPowerOn (stop : StopPoint) (s : State) : Host.Outcome State Fault Refusal :=
  .next (State.resetWith s.pending .loading 0 s.pins (s.sst.stopped stop))

/-- RST: as POWER_ON, but the reference time counter runs on (log entry 3). -/
def execRst (stop : StopPoint) (s : State) : Host.Outcome State Fault Refusal :=
  s.event fun s => State.resetWith s.pending .loading s.clock s.pins (s.sst.stopped stop)

/-- LOSS_OF_SUPPLY: a store in progress stops, and nothing reaches the part until POWER_ON (R162, log entry 9). -/
def execLossOfSupply (stop : StopPoint) (s : State) : Host.Outcome State Fault Refusal :=
  s.event fun s => State.resetWith s.pending .off s.clock s.pins (s.sst.stopped stop)

/-- The load is complete: working copies, marks and counts, on-times, and the links' defaults (R155). -/
def State.loadComplete (s : State) : State :=
  let s := { s with boot := .startup, sst := s.sst.load }
  let s := s.setOnTimes (loadedBlock 6 s.sst.stored.b6)
  (s.takeLinkDefaults .a).takeLinkDefaults .s

/-- SETTINGS_LOAD_COMPLETE (R155). -/
def execSettingsLoadComplete (s : State) : Host.Outcome State Fault Refusal :=
  s.event fun s => if s.boot = .loading then s.loadComplete else s

/-- The start-up round ends: held RESET_LINKs are taken, and CUTOFF_OPEN is raised from IDLE when the loop is open
(R126, R168, log entry 18). -/
def State.becomeReady (s : State) : State :=
  let s := ({ s with boot := .ready }).modLink .a (·.takeHeldReset)
  let s := s.modLink .s (·.takeHeldReset)
  s.faultIf (s.pins.cutOpen && s.csq.phase == .idle) .cutoffOpen

/-- STARTUP_ROUND_COMPLETE, after the twelve conversions of R16 (R126). -/
def execStartupRoundComplete (s : State) : Host.Outcome State Fault Refusal :=
  s.event fun s => if s.boot = .startup ∧ s.mfe.startupDone = startupOrder.length then s.becomeReady else s

end Sys2Proof.Machine
end

