-- ==== Sys2Proof/Machine/Dispatch.lean ====
section
/-! DEFINITION. The dispatch: one arm per command, one direct call of its meaning. -/

namespace Sys2Proof.Machine

/-- The effect of a command on everything but the queue. -/
def exec (i : Instr) (s : State) : Host.Outcome State Fault Refusal :=
  match i with
  | .powerOn stop => Sys2Proof.Machine.execPowerOn stop s
  | .rst stop => Sys2Proof.Machine.execRst stop s
  | .settingsLoadComplete => Sys2Proof.Machine.execSettingsLoadComplete s
  | .startupRoundConversion code => Sys2Proof.Machine.execStartupRoundConversion code s
  | .startupRoundComplete => Sys2Proof.Machine.execStartupRoundComplete s
  | .fastConversion bar motor => Sys2Proof.Machine.execFastConversion bar motor s
  | .slowConversion code => Sys2Proof.Machine.execSlowConversion code s
  | .measure l => Sys2Proof.Machine.execMeasure l s
  | .roundConversion code => Sys2Proof.Machine.execRoundConversion code s
  | .read l quantities => Sys2Proof.Machine.execRead l quantities s
  | .windowEnd => Sys2Proof.Machine.execWindowEnd s
  | .revolutionPulse => Sys2Proof.Machine.execRevolutionPulse s
  | .stillTimeout => Sys2Proof.Machine.execStillTimeout s
  | .restMinimumExpiry => Sys2Proof.Machine.execRestMinimumExpiry s
  | .stepEnd => Sys2Proof.Machine.execStepEnd s
  | .burstTimeExpiry => Sys2Proof.Machine.execBurstTimeExpiry s
  | .stallDeadlineExpiry => Sys2Proof.Machine.execStallDeadlineExpiry s
  | .restCheckExpiry => Sys2Proof.Machine.execRestCheckExpiry s
  | .ivfChange active => Sys2Proof.Machine.execIvfChange active s
  | .recheckDeadlineExpiry => Sys2Proof.Machine.execRecheckDeadlineExpiry s
  | .controlPeriod => Sys2Proof.Machine.execControlPeriod s
  | .onTimeSecond n => Sys2Proof.Machine.execOnTimeSecond n s
  | .pauseAllowanceExpiry => Sys2Proof.Machine.execPauseAllowanceExpiry s
  | .afterRunExpiry => Sys2Proof.Machine.execAfterRunExpiry s
  | .airflowSwitchChange closed => Sys2Proof.Machine.execAirflowSwitchChange closed s
  | .proofDeadlineExpiry => Sys2Proof.Machine.execProofDeadlineExpiry s
  | .graceDeadlineExpiry => Sys2Proof.Machine.execGraceDeadlineExpiry s
  | .testStageMinOffExpiry n => Sys2Proof.Machine.execTestStageMinOffExpiry n s
  | .testStageMinOnExpiry n => Sys2Proof.Machine.execTestStageMinOnExpiry n s
  | .doorOpens => Sys2Proof.Machine.execDoorOpens s
  | .doorCloses => Sys2Proof.Machine.execDoorCloses s
  | .cutoffOpens => Sys2Proof.Machine.execCutoffOpens s
  | .cutoffCloses => Sys2Proof.Machine.execCutoffCloses s
  | .dryingElapsedSecond => Sys2Proof.Machine.execDryingElapsedSecond s
  | .timeLimit => Sys2Proof.Machine.execTimeLimit s
  | .coolTime => Sys2Proof.Machine.execCoolTime s
  | .guardTime => Sys2Proof.Machine.execGuardTime s
  | .holdLimitExpiry => Sys2Proof.Machine.execHoldLimitExpiry s
  | .supervisionExpiry => Sys2Proof.Machine.execSupervisionExpiry s
  | .silenceExpiry => Sys2Proof.Machine.execSilenceExpiry s
  | .testTimerExpiry actuator => Sys2Proof.Machine.execTestTimerExpiry actuator s
  | .start l program => Sys2Proof.Machine.execStart l program s
  | .pause l => Sys2Proof.Machine.execPause l s
  | .resume l => Sys2Proof.Machine.execResume l s
  | .abort l => Sys2Proof.Machine.execAbort l s
  | .advance l => Sys2Proof.Machine.execAdvance l s
  | .clear l => Sys2Proof.Machine.execClear l s
  | .takeControl l => Sys2Proof.Machine.execTakeControl l s
  | .test l actuator demand speed => Sys2Proof.Machine.execTest l actuator demand speed s
  | .releaseControl l => Sys2Proof.Machine.execReleaseControl l s
  | .claimCapture l => Sys2Proof.Machine.execClaimCapture l s
  | .configure l unit sources startForm startArg endForm endArg decimation policy => Sys2Proof.Machine.execConfigure l unit sources startForm startArg endForm endArg decimation policy s
  | .arm l unit => Sys2Proof.Machine.execArm l unit s
  | .stopCapture l unit => Sys2Proof.Machine.execStopCapture l unit s
  | .releaseCapture l unit => Sys2Proof.Machine.execReleaseCapture l unit s
  | .claimWatch l => Sys2Proof.Machine.execClaimWatch l s
  | .setWatch l unit quantity sense limit hysteresis mode action => Sys2Proof.Machine.execSetWatch l unit quantity sense limit hysteresis mode action s
  | .releaseWatch l unit => Sys2Proof.Machine.execReleaseWatch l unit s
  | .post l tag size => Sys2Proof.Machine.execPost l tag size s
  | .flush l tag => Sys2Proof.Machine.execFlush l tag s
  | .cancel l tag => Sys2Proof.Machine.execCancel l tag s
  | .set l block first values => Sys2Proof.Machine.execSet l block first values s
  | .get l block first count => Sys2Proof.Machine.execGet l block first count s
  | .store l block => Sys2Proof.Machine.execStore l block s
  | .storeComplete => Sys2Proof.Machine.execStoreComplete s
  | .characterReceived l data parity stop => Sys2Proof.Machine.execCharacterReceived l data parity stop s
  | .gapExpiry l => Sys2Proof.Machine.execGapExpiry l s
  | .requestTake l => Sys2Proof.Machine.execRequestTake l s
  | .resetLink l => Sys2Proof.Machine.execResetLink l s
  | .transmitBegin l => Sys2Proof.Machine.execTransmitBegin l s
  | .transmitComplete l => Sys2Proof.Machine.execTransmitComplete l s
  | .noticeCfg l enable period => Sys2Proof.Machine.execNoticeCfg l enable period s
  | .ackNotice l kinds => Sys2Proof.Machine.execAckNotice l kinds s
  | .periodicPeriodExpiry l => Sys2Proof.Machine.execPeriodicPeriodExpiry l s
  | .linkStats l => Sys2Proof.Machine.execLinkStats l s
  | .identify l => Sys2Proof.Machine.execIdentify l s
  | .status l => Sys2Proof.Machine.execStatus l s
  | .lossOfSupply stop => Sys2Proof.Machine.execLossOfSupply stop s

end Sys2Proof.Machine
end

