-- ==== Sys2Proof/Safety.lean ====
section
/-! DEFINITION. What counts as a consistent state of the D340: the invariants that the rules of the spec name, and
the terms in which the statements of Certificates/Slice0/Obligations.lean speak. -/

namespace Sys2Proof.Machine

/-! ### Terms of the statements -/

/-- The other link. -/
def otherLink : Link → Link
  | .a => .s
  | .s => .a

/-- A request that comes in on `l` now is taken at once: nothing of the link stands before it (R167). -/
abbrev State.takesAtOnce (s : State) (l : Link) : Prop := s.canTake l = true ∧ (s.link l).queue = []

/-- The waiting reply of `l` answers a request of kind `k` with a status and contents (R165, R173). -/
abbrev State.replyIs (t : State) (l : Link) (k : Byte) (st : Status) (contents : List Byte) : Prop :=
  (t.link l).reply = some { kind := k + 0x80#8, payload := st.code :: contents }

/-- Of the links, only the waiting reply and the request in progress of `l` differ. -/
abbrev State.onlyReply (s t : State) (l : Link) : Prop :=
  t.link l = { s.link l with reply := (t.link l).reply, inProgress := (t.link l).inProgress }
    ∧ t.link (otherLink l) = s.link (otherLink l)

/-- The state after a request that changes nothing: only the links differ, and the supervision or silence deadline
that every valid frame moves (R113, R124). -/
abbrev State.onlyLinks (s t : State) (l : Link) : Prop :=
  t = { s with csq := (s.reportFrame l).csq, linkA := t.linkA, linkS := t.linkS }

/-- A request refused by its owner: the reply is the status alone, and nothing else changes. -/
abbrev State.refused (s t : State) (l : Link) (k : Byte) (st : Status) : Prop :=
  s.onlyLinks t l ∧ s.onlyReply t l ∧ t.replyIs l k st []

/-- No armed watch unit can hold the cycle. -/
abbrev State.noHoldWatch (s : State) : Prop :=
  ∀ w : Fin 4, (s.watch w).state = .armed → (s.watch w).settings.all (fun c => c.action != .hold) = true

/-- No watch unit judges a value. -/
abbrev State.noWatch (s : State) : Prop := ∀ w : Fin 4, (s.watch w).state ≠ .armed

/-- The machine with every watch unit FREE. -/
abbrev State.unwatched (s : State) : State :=
  let x : WatchUnit := { owner := none, state := .free, settings := none, previous := none, blocked := false, hits := 0 }
  { s with cap := { s.cap with watches := ⟨x, x, x, x⟩ } }

/-- The machine with the watch units of `s`. -/
abbrev State.rewatched (m s : State) : State := { m with cap := { m.cap with watches := s.cap.watches } }

/-- The values offered to the watch units one after the other, each to the units in ascending order (R136). What one
value does to one unit is in WatchJudged. -/
abbrev State.offeredAll (s : State) (values : List (Quantity × Int)) : State :=
  values.foldl (fun s x => ([0, 1, 2, 3] : List (Fin 4)).foldl (fun s w => s.offerTo x.1 x.2 w) s) s

/-- A value clears the blocked mark of a watch with these settings (R136). -/
def WatchSettings.unblocks (c : WatchSettings) (v : Int) : Bool :=
  match c.sense with
  | .risesAbove => decide (v ≤ c.limit - c.hysteresis)
  | .fallsBelow => decide (c.limit + c.hysteresis ≤ v)

/-- A value hits: it crosses the limit from the previous one, and the watch is not blocked (R136). -/
def WatchUnit.hitBy (x : WatchUnit) (c : WatchSettings) (v : Int) : Bool :=
  let crosses := match c.sense, x.previous with
    | _, none => false
    | .risesAbove, some p => decide (p ≤ c.limit ∧ c.limit < v)
    | .fallsBelow, some p => decide (c.limit ≤ p ∧ v < c.limit)
  crosses && !(x.blocked && !c.unblocks v)

/-- A watch unit once it has judged a value (R136, R137). -/
def WatchUnit.seen (x : WatchUnit) (c : WatchSettings) (v : Int) : WatchUnit :=
  if x.hitBy c v then
    { x with
      previous := some v, hits := min 65535 (x.hits + 1)
      state := if c.mode = .once then .hit else .armed, blocked := c.mode == .repeating }
  else { x with previous := some v, blocked := x.blocked && !c.unblocks v }

/-- From `s` to `t` each ARMED watch unit has judged the value of its quantity, and no other one (R136). -/
abbrev State.valuesSeen (s t : State) (values : List (Quantity × Int)) : Prop :=
  ∀ w : Fin 4, t.watch w =
    match (s.watch w).state, (s.watch w).settings with
    | .armed, some c =>
      match values.lookup c.quantity with
      | some v => (s.watch w).seen c v
      | none => s.watch w
    | _, _ => s.watch w

/-- The command offers these values, the first first: its whole effect is what it does with no watch unit armed,
followed by the offers; `alone` says when, for a command that reacts to its value after the offers. -/
abbrev State.offers (s : State) (c : Instr) (values : State → List (Quantity × Int)) (alone : State → Prop) : Prop :=
  ∃ t, exec c s = .next t ∧ ∃ m, exec c s.unwatched = .next m ∧
    s.valuesSeen t (values m) ∧ (alone m → t = (m.rewatched s).offeredAll (values m))

/-- No capture unit waits or runs and no watch unit judges: records and values reach no link. -/
abbrev State.unobserved (s : State) : Prop :=
  (∀ u : Fin 3, (s.unit u).state ≠ .armed ∧ (s.unit u).state ≠ .running) ∧ s.noWatch

/-- The state at the moment `due`, before what falls due there. -/
abbrev State.moment (s : State) (due : Nat) : State := s.elapse (due - s.clock)

/-- What no conversion, timer or cycle message touches: queue, supply, clock, pins, settings and on-times. -/
abbrev State.outerFrame (s t : State) : Prop :=
  t.pending = s.pending ∧ t.boot = s.boot ∧ t.clock = s.clock ∧ t.resetTime = s.resetTime ∧ t.pins = s.pins
    ∧ t.sst.blocks = s.sst.blocks ∧ t.sst.invalid = s.sst.invalid ∧ t.sst.corrected = s.sst.corrected
    ∧ t.sst.stored = s.sst.stored ∧ ∀ n : StageNo, (t.stage n).onTime = (s.stage n).onTime

/-- The NOTICE schedule after a change of a link's pending set or enable set: scheduled when the pending kinds that are
enabled gained a member, cancelled when there is none left (R170). -/
abbrev LinkState.reschedules (before after : LinkState) : Prop :=
  let announced := fun x : LinkState => pendingMask x.pending &&& x.enable
  after.scheduled =
    if announced after = 0 then false
    else if announced after &&& ~~~announced before = 0 then before.scheduled else true

/-- From `u` to `t` the capture pool, the rings and the posted blocks take exactly the record `r` (R140, R141). -/
abbrev State.produced (u t : State) (r : Record) : Prop :=
  t.cap = (u.offerRecord r).cap
    ∧ ∀ l : Link, (t.link l).seq = ((u.offerRecord r).link l).seq ∧ (t.link l).ring = ((u.offerRecord r).link l).ring
        ∧ (t.link l).posted = ((u.offerRecord r).link l).posted

/-- From `u` to `t` the record `r` is the first that reaches a ring; others may follow. On a link with a posted block the
ring may have been drained since. -/
abbrev State.producedFirst (u t : State) (r : Record) : Prop :=
  ∀ l : Link, (u.link l).posted = [] → ((u.offerRecord r).link l).ring <+: (t.link l).ring

/-- An ARMED capture unit whose start condition is `start` runs; any other is as before (R131). -/
abbrev CaptureUnit.startsOn (x : CaptureUnit) (start : StartCond) : CaptureUnit :=
  if x.state = .armed ∧ x.config.any (fun c => c.start == start) = true then { x with state := .running } else x

/-- The state once an event that starts captures on `start` has produced its record `r` (R137, R142). -/
def State.offeredOn (s : State) (start : StartCond) (r : Record) : State :=
  State.offerRecord { s with cap := { s.cap with
    units := ⟨(s.unit 0).startsOn start, (s.unit 1).startsOn start, (s.unit 2).startsOn start⟩ } } r

/-- Capture unit `u`, running in `s` before the event and in `o` after its record, ends on it (R132). -/
abbrev State.endsOn (s o : State) (u : Fin 3) (stop : EndCond) : Prop :=
  (s.unit u).state = .running ∧ (s.unit u).config.any (fun c => c.stop == stop) = true ∧ (o.unit u).state = .running

/-- The units after the record of such an event: those that end on it with `reason`, the last of a link with its notice
CAPTURE pending, and the others as the record left them (R132). -/
abbrev State.endsAround (s o t : State) (stop : EndCond) (reason : CaptureEnd) : Prop :=
  (∀ u : Fin 3, t.unit u = if s.endsOn o u stop then { o.unit u with state := .ended, endReason := some reason } else o.unit u)
    ∧ (∀ u : Fin 3, s.endsOn o u stop → ∀ l ∈ (o.unit u).owner,
        (∀ v : Fin 3, u < v → s.endsOn o v stop → (o.unit v).owner ≠ some l) →
        Notice.capture u reason (o.unit u).taken (o.unit u).skipped ∈ (t.link l).pending)

/-- The values of R16, R42, R61, R74, R101, R126, R143, R154, R163 and R172 after power-on or RST, at the present
moment. Values that no rule gives are in log entries 7 (settings and on-times before the load) and 22 (n_req, the guard
elapsed time, the starting link and stamp of a cycle record without a START, the decimation position of a FREE capture unit,
a held RESET_LINK forgotten). -/
abbrev State.holdsResetValues (t : State) : Prop :=
  (t.mfe.mode = .onRequest ∧ t.mfe.rotation = .tIn ∧ t.mfe.lastPositive = false ∧ t.mfe.round = none
    ∧ t.mfe.fastDue = none ∧ t.mfe.slowDue = none ∧ t.mfe.startupDone = 0
    ∧ (∀ c ∈ sixChannels,
        let temp : Bool := c == .tIn || c == .tExh || c == .tHsg
        let f : Freshness := if temp then .diag else .none
        t.mfe.channel c = { value := if temp then 32767 else 0, code := 0, time := 0, diag := temp
                            outCount := 0, goodCount := 0, freshA := f, freshS := f }))
  ∧ t.dry = { contact := none, window := none, method := .bars, barShort := false, estimate := .settling
              m := 0, s := 0, dw := 0, ds := 0, streak := 0, history := [], remaining := 255, lastN := 0 }
  ∧ t.dmc = { motion := .idle, speed := 0, lastDir := none, offTime := t.clock, restMin := 3
              restMinDue := some (t.clock + 3000), restEntry := none, pattern := none, current := none
              remaining := none, staged := none, interrupted := none, burstDue := none, revolution := none
              history := [], lastPulse := none, still := false, turning := false, stallDue := none
              stallLength := 0, restCheck := .none }
  ∧ t.tgm = { c := 0, b := 0, recheck := none, burst := false, outstanding := false, capFlag := false }
  ∧ (let stage : Stage := { on := false, switchTime := t.clock, offWaived := false, openMark := false
                            onTime := 0, rem := 0, test := none, testDemand := false }
     t.hsc = { d := 0, i := 0, nReq := 0, stages := ⟨stage, stage, stage, stage⟩, inletCap := 4, tangleCap := 4
               lockout := false, turning := false, turningEnd := none, spent := false, pauseDue := none
               lastOn := none, stuckArmed := true, fanOn := false, fanDemand := false, afterRun := none
               airflow := .off, proofDue := none, graceDue := none, energy := 0, periodDue := none })
  ∧ t.csq = { phase := .idle, program := none, prepTarget := none, revSeen := false, owner := none
              record := { program := none, startLink := .a, startStamp := 0, held := none, endReason := none
                          fault := none, bursts := 0, tangleHolds := 0 }
              reasons := { paused := false, door := false, tangle := false, link := false, watch := false }
              dryingMs := 0, dryingSeconds := 0, coolingMs := 0, guardMs := 0, holdDue := none
              supervisionDue := none, silenceDue := none, stageTimers := ⟨none, none, none, none⟩
              fanTimer := none, drumTimer := none, pendingTake := false }
  ∧ (∀ u : Fin 3, t.unit u = { owner := none, state := .free, config := none, position := 0, taken := 0
                               skipped := 0, endReason := none })
  ∧ (∀ w : Fin 4, t.watch w = { owner := none, state := .free, settings := none, previous := none
                                blocked := false, hits := 0 })
  ∧ (t.sst.invalid = ⟨false, false, false, false, false, false, false⟩ ∧ t.sst.corrected = ⟨0, 0, 0, 0, 0, 0, 0⟩
    ∧ t.sst.engine = none ∧ t.sst.wearPending = false
    ∧ ∀ b : Fin 6, t.sst.blocks.get b.val = defaultBlock b.val)
  ∧ (∀ l : Link, t.link l =
      { assembler := .hunt, gapDue := none, queue := [], inProgress := none, reply := none, resetHeld := false
        resetting := false, sending := none, pending := [], enable := match l with | .a => 25 | .s => 0
        scheduled := false, period := 0, periodicDue := none, statusDue := false
        errors := { badLength := 0, gap := 0, byteError := 0, checkError := 0, overflow := 0 }
        seq := 0, ring := [], posted := [] })

/-- The non-volatile words after a store `j` of `s` was stopped at `stop` (R162). -/
abbrev State.storeStopped (s t : State) (j : StoreJob) (stop : StopPoint) : Prop :=
  (∀ b : Fin 7, b.val ≠ j.block → t.sst.stored.get b.val = s.sst.stored.get b.val)
    ∧ match stop with
      | .beforeErase => t.sst.stored.get j.block = s.sst.stored.get j.block
      | .partway _ => (t.sst.stored.get j.block).any (fun w => w == .double) = true
      | .allProgrammed => t.sst.stored.get j.block = j.image.map .clean

/-- Every stage output is off. -/
abbrev State.heatOff (s : State) : Prop := ∀ n : StageNo, (s.stage n).on = false

/-- The phase is `p`, entered with this cause, of which notice PHASE tells both links (R122). -/
abbrev State.hasEntered (t : State) (p : Phase) (cause : Cause) : Prop :=
  t.csq.phase = p ∧ ∀ l : Link, Notice.phase p cause ∈ (t.link l).pending

/-- The fault record is `f`, and notice FAULT tells both links its kind, phase and additional-fault count (R118, R119). -/
abbrev State.hasFault (t : State) (f : FaultRecord) : Prop :=
  t.csq.record.fault = some f ∧ ∀ l : Link, Notice.fault f.kind f.phase f.extra ∈ (t.link l).pending

/-- FAULT with a record of this kind, taken in `left` at the present moment, and so many additional faults taken in the
same event (R118, R119). -/
abbrev State.faulted (t : State) (kind : FaultKind) (left : Phase) (extra : Nat := 0) : Prop :=
  t.hasEntered .fault .fault
    ∧ t.hasFault { kind := kind, phase := left, time := t.refTime, extra := extra }
    ∧ t.csq.reasons = .empty ∧ t.csq.record.held = none ∧ t.csq.supervisionDue = none ∧ t.csq.holdDue = none
    ∧ t.csq.prepTarget = none

/-- Drum, fan and heat are off, as in FAULT of a kind other than HEAT_STUCK (R118). -/
abbrev State.stopped (t : State) : Prop :=
  t.dmc.motion = .idle ∧ t.hsc.fanOn = false ∧ t.hsc.afterRun = none ∧ t.hsc.airflow = .off ∧ t.heatOff

/-- A fault that does not replace the record `f`, taken in FAULT: the additional-fault count, and notice FAULT again
(R119). -/
abbrev State.faultedAgain (t : State) (f : FaultRecord) : Prop :=
  t.csq.phase = .fault ∧ t.hasFault { f with extra := min 255 (f.extra + 1) }

/-- HOLD with the one reason, its limit set and its notice pending (R110). -/
abbrev State.holdsFor (t : State) (r : HoldReason) (held : Option Phase) : Prop :=
  t.hasEntered .hold (.held r) ∧ t.csq.reasons = HoldSet.only r ∧ t.csq.record.held = held
    ∧ t.csq.holdDue = some (t.clock + 60000 * t.holdLimit) ∧ t.csq.supervisionDue = none
    ∧ t.heatOff ∧ ∀ l : Link, Notice.hold (HoldSet.only r) ∈ (t.link l).pending

/-- In HOLD a reason joins: a new one raises notice HOLD again with the joined set (R110). -/
abbrev State.joinsHold (s t : State) (r : HoldReason) : Prop :=
  t.csq = { s.csq with reasons := s.csq.reasons.add r }
    ∧ ∀ l : Link,
      if s.csq.reasons.has r then (t.link l).pending = (s.link l).pending
      else Notice.hold (s.csq.reasons.add r) ∈ (t.link l).pending

/-- The wear save of an entry into DONE: a store of block 6 with the on-times as they are, or pending behind the store in
progress (R161). -/
abbrev State.savesWear (s t : State) : Prop :=
  match s.sst.engine with
  | none =>
      t.sst.engine = some { block := 6, source := .wear, wanted := true
                            image := [0, 1, 2, 3].map fun n : StageNo => BitVec.ofNat 32 (t.stage n).onTime }
        ∧ t.sst.wearPending = s.sst.wearPending
  | some j =>
      t.sst.engine.map (fun x => (x.block, x.source, x.image)) = some (j.block, j.source, j.image)
        ∧ t.sst.wearPending = true

/-- DONE, entered with this cause, and what its entry removes and saves (R108, R161). -/
abbrev State.isDone (s t : State) (cause : Cause) : Prop :=
  t.hasEntered .done cause ∧ t.csq.reasons = .empty ∧ t.csq.record.held = none ∧ t.csq.holdDue = none
    ∧ t.csq.supervisionDue = none ∧ t.heatOff ∧ t.dmc.motion = .idle ∧ t.mfe.mode = .onRequest
    ∧ t.hsc.fanDemand = false ∧ s.savesWear t

/-- COOLING entered from DRYING with its end reason (R105, R106). -/
abbrev State.isCooling (t : State) (r : EndReason) : Prop :=
  t.hasEntered .cooling (.ended r) ∧ t.csq.record.endReason = some r ∧ t.heatOff ∧ t.dry.window = none
    ∧ t.hsc.periodDue = none ∧ t.dmc.pattern = some (t.patternSteps t.program.coolingPattern)

/-- Manual control has been released to IDLE with this cause (R125). -/
abbrev State.released (t : State) (cause : Cause) : Prop :=
  t.hasEntered .idle cause ∧ t.csq.owner = none ∧ t.csq.silenceDue = none ∧ t.csq.pendingTake = false
    ∧ t.csq.stageTimers = ⟨none, none, none, none⟩ ∧ t.csq.fanTimer = none ∧ t.csq.drumTimer = none
    ∧ (∀ n : StageNo, (t.stage n).testDemand = false) ∧ t.heatOff ∧ t.dmc.motion = .idle
    ∧ t.hsc.fanDemand = false ∧ t.mfe.mode = .onRequest

/-! ### The fan, the caps and the turning report (R82, R89, R94, R95) -/

/-- R70 and R84: the cap flag says that a burst is in progress or a re-check deadline is pending, and the tangle
cap follows it. -/
abbrev State.capFlagRight (s : State) : Prop :=
  s.tgm.capFlag = (s.tgm.burst || s.tgm.recheck.isSome) ∧ s.hsc.tangleCap = if s.tgm.capFlag then 1 else 4

/-- The fan runs by demand (R94). -/
abbrev State.fanRuns (t : State) : Prop := t.hsc.fanOn = true ∧ t.hsc.fanDemand = true ∧ t.hsc.afterRun = none

/-- The fan is off, and the airflow state with it (R94, R96). -/
abbrev State.fanIsOff (t : State) : Prop :=
  t.hsc.fanOn = false ∧ t.hsc.fanDemand = false ∧ t.hsc.afterRun = none ∧ t.hsc.airflow = .off

/-- The fan is as before. -/
abbrev State.fanStands (s t : State) : Prop :=
  t.hsc.fanOn = s.hsc.fanOn ∧ t.hsc.fanDemand = s.hsc.fanDemand ∧ t.hsc.afterRun = s.hsc.afterRun

/-- The fan demand ends: the after-run follows when a stage was on within the last 60,000 ms (R95, log entry 23). -/
abbrev State.fanEnds (s t : State) : Prop :=
  if s.hsc.fanDemand = false then s.fanStands t
  else if (∃ n : StageNo, (s.stage n).on = true) ∨ ∃ m ∈ s.hsc.lastOn, s.clock - m ≤ 60000 then
    t.hsc.fanOn = s.hsc.fanOn ∧ t.hsc.fanDemand = false ∧ t.hsc.afterRun = some (s.clock + 60000)
  else t.fanIsOff

/-- Stage `m` is more worn than stage `n`: of equal on-times the higher number (R78). -/
abbrev State.moreWorn (s : State) (m n : StageNo) : Prop :=
  (s.stage n).onTime < (s.stage m).onTime ∨ (s.stage n).onTime = (s.stage m).onTime ∧ n < m

/-- How many stages that are on are more worn than stage `n`. -/
def State.wearRank (s : State) (n : StageNo) : Nat :=
  ([0, 1, 2, 3] : List StageNo).countP fun m => decide ((s.stage m).on = true ∧ s.moreWorn m n)

/-- Of the stages on in `s` exactly those above the cap of `t` have gone off, the most worn ones (R82). -/
abbrev State.shedsTo (s t : State) : Prop :=
  ∀ n : StageNo, (s.stage n).on = true → ((t.stage n).on = false ↔ s.wearRank n < s.stagesOn - t.effectiveCap)

/-- Every pending open-element test is unread or passes (R90, R91). -/
abbrev State.testsPass (s : State) : Prop :=
  ∀ n : StageNo, ∀ x ∈ (s.stage n).test, ∀ after ∈ x.after,
    (((s.word 3 (8 + n.val)).toNat / 2 : Nat) : Int) ≤ after - x.baseline

/-- Turning ends now at the heat stage controller: the pause allowance begins, or it sheds at once (R89). -/
abbrev State.turningEnds (u t : State) : Prop :=
  t.hsc.turning = false ∧ t.hsc.turningEnd = some u.clock
    ∧ if u.word 3 18 = 0 then t.hsc.pauseDue = none ∧ t.hsc.spent = true ∧ t.heatOff
      else t.hsc.pauseDue = some (u.clock + 1000 * (u.word 3 18).toNat) ∧ t.hsc.spent = u.hsc.spent

/-- The turning report follows the drum's turning flag, in an event in which it does not rise (R50, R89). -/
abbrev State.turningFollowed (u t : State) : Prop :=
  (u.dmc.turning = true → t.dmc.turning = false → u.turningEnds t)
    ∧ (t.dmc.turning = u.dmc.turning → t.hsc.turning = u.hsc.turning ∧ t.hsc.turningEnd = u.hsc.turningEnd
        ∧ t.hsc.pauseDue = u.hsc.pauseDue ∧ t.hsc.spent = u.hsc.spent)

/-- The state once stage `n` has gone off now; the unread tests of the other stages are dropped (R87, R90). The on-time's
remainder stands, also at a full second not yet counted (log entry 40). -/
def State.goesOff (u : State) (n : StageNo) : State :=
  let stage := fun m : StageNo =>
    if m = n then { u.stage m with on := false, switchTime := u.clock, offWaived := false, test := none }
    else if (u.stage m).test.any (fun x => x.after.isNone) = true then { u.stage m with test := none }
    else u.stage m
  { u with hsc := { u.hsc with stages := ⟨stage 0, stage 1, stage 2, stage 3⟩, lastOn := some u.clock } }

/-- The state once the test demand of stage `n` has ended: its output goes off at once past min_on (R98). -/
def State.demandEnds (u : State) (n : StageNo) : State :=
  let v := u.setStage n { u.stage n with testDemand := false }
  if (u.stage n).on = true ∧ 1000 * (u.word 3 14).toNat ≤ u.clock - (u.stage n).switchTime then v.goesOff n else v

/-- A temperature code converted (R4), with V and the offset from the working copy of block 1. -/
def State.linearised (s : State) (ch : Channel) (code : Code) : Int :=
  let v (j : Nat) : Int := (s.word 1 j).toInt
  v (code.toNat / 256)
    + Int.tdiv ((v (code.toNat / 256 + 1) - v (code.toNat / 256)) * ((code.toNat % 256 : Nat) : Int)) 256
    + v (17 + ch.code)

/-- A current code scaled (R8), with offset and gain at words `o` and `o + 1` of block 1. -/
def State.scaled (s : State) (o : Nat) (code : Code) : Int :=
  max 0 (Int.tdiv (((code.toNat : Int) - s.setting 1 o) * s.setting 1 (o + 1)) 256)

/-- The table of R5, without the freshness: `c` before and `c'` after a temperature conversion. -/
abbrev ChannelState.judgedTo (c c' : ChannelState) (code : Code) (good : Int) (now : Word) : Prop :=
  c'.code = code ∧ c'.time = now
    ∧ (if 40 ≤ code.toNat ∧ code.toNat ≤ 4055 then
        c'.outCount = 0 ∧ c'.goodCount = min 3 (c.goodCount + 1)
          ∧ (if c.diag = true ∧ c'.goodCount < 3 then c'.diag = true ∧ c'.value = 32767
             else c'.diag = false ∧ c'.value = good)
      else
        c'.goodCount = 0 ∧ c'.outCount = min 3 (c.outCount + 1)
          ∧ (if c.diag = true ∨ c'.outCount = 3 then c'.diag = true ∧ c'.value = 32767
             else c'.diag = false ∧ c'.value = c.value))

/-- The reading of a channel without its freshness. -/
abbrev ChannelState.sameReading (c c' : ChannelState) : Prop :=
  c' = { c with freshA := c'.freshA, freshS := c'.freshS }

/-- One conversion of channel `ch`: its reading by R4, R5 or R8, every other reading as before. -/
abbrev State.converted (s t : State) (ch : Channel) (code : Code) (now : Word) : Prop :=
  (∀ c ∈ sixChannels, c ≠ ch → (s.mfe.channel c).sameReading (t.mfe.channel c))
    ∧ match ch with
      | .tIn | .tExh | .tHsg => (s.mfe.channel ch).judgedTo (t.mfe.channel ch) code (s.linearised ch code) now
      | .iHeat => (s.mfe.iHeat).sameReading { t.mfe.iHeat with value := s.mfe.iHeat.value, code := s.mfe.iHeat.code, time := s.mfe.iHeat.time }
          ∧ t.mfe.iHeat.value = s.scaled 22 code ∧ t.mfe.iHeat.code = code ∧ t.mfe.iHeat.time = now
      | .g => t.mfe.g.value = (code.toNat : Int) ∧ t.mfe.g.code = code ∧ t.mfe.g.time = now
      | .iMot => t.mfe.iMot.value = s.scaled 20 code ∧ t.mfe.iMot.code = code ∧ t.mfe.iMot.time = now

/-- The drum's outputs are off (R43). -/
abbrev Dmc.outputsOff (d : Dmc) : Prop := d.pins = { fwd := false, rev := false, spd := 0 }

/-- The gate of R48 for direction `d`. -/
abbrev State.gateIsOpen (s : State) (d : Dir) : Prop :=
  s.dmc.lastDir = some d
    ∨ s.dmc.motion.driven = none ∧ s.dmc.offTime + 1000 * s.dmc.restMin ≤ s.clock ∧ s.dmc.still = true

/-- STARTING in direction `d` at speed `v`, entered now (R47, R52, R56). -/
abbrev State.startsDriving (t : State) (d : Dir) (v : Nat) : Prop :=
  t.dmc.motion = .starting d ∧ t.dmc.speed = v ∧ t.dmc.lastDir = some d ∧ t.dmc.stallDue = some (t.clock + 5000)
    ∧ t.dmc.revolution = none ∧ t.dmc.history = [] ∧ t.dmc.turning = false

/-- A rest entered now, from outputs that were on (R43, R47, R57). -/
abbrev State.restsFromNow (s t : State) : Prop :=
  t.dmc.outputsOff ∧ t.dmc.offTime = t.clock ∧ t.dmc.restMin = s.minRest
    ∧ t.dmc.restMinDue = some (t.clock + 1000 * s.minRest) ∧ t.dmc.restEntry = some t.clock
    ∧ t.dmc.restCheck = .timing (t.clock + 15000) ∧ t.dmc.stallDue = none ∧ t.dmc.revolution = none
    ∧ t.dmc.turning = false

/-- The stall interval after a pulse at the speed demanded (R56). -/
def State.stallAfter (s : State) : Nat := max 6000 (2 * (60000 / s.dmc.speed))

/-- The drum once a pulse now has opened a revolution and set the stall deadline of RUN (R44, R49, R51, R56). -/
abbrev State.pulseOpens (s : State) : Dmc :=
  { s.dmc with
    lastPulse := some s.clock, still := false
    revolution := some { openedAt := s.clock, count := 0, sum := 0, min := 0, max := 0 }
    stallDue := some (s.clock + s.stallAfter), stallLength := s.stallAfter }

/-- The record of the revolution `o` closed now (R51). -/
def State.closedRevolution (s : State) (o : OpenRevolution) : Revolution :=
  { time := min 65535 ((s.clock - o.openedAt) % 4294967296), min := o.min, max := o.max, mean := o.sum / o.count }

/-- The last eight of the history and a new record (R51). -/
def lastEight {α : Type} (h : List α) (x : α) : List α := (h ++ [x]).drop (h.length + 1 - 8)

/-- The gate judged at an event that can open it (R48, R53, R54): a waiting step starts, RUN_OPP is entered, or the
burst ends and the interrupted step resumes; with the gate closed nothing of the drum changes. -/
abbrev State.gateJudged (u t : State) : Prop :=
  let stands := t.dmc = u.dmc ∧ t.tgm = u.tgm ∧ t.hsc = u.hsc
  (∀ c ∈ u.dmc.current, ∀ d ∈ c.step.action.dir, u.dmc.motion = .rest → c.waiting = true →
      if u.gateIsOpen d then
        t.startsDriving d c.step.speed ∧ t.dmc.current = some { c with waiting := false }
          ∧ (c.index.isSome = true → t.dmc.remaining = some (1000 * c.step.duration)) ∧ t.tgm = u.tgm
      else stands)
  ∧ (∀ i ∈ u.dmc.interrupted, u.dmc.motion = .restIn →
      if u.gateIsOpen i.dir.flip then
        t.dmc.motion = .runOpp i.dir.flip ∧ t.dmc.speed = u.burstSpeed ∧ t.dmc.lastDir = some i.dir.flip
          ∧ t.dmc.burstDue = some (u.clock + 1000 * u.burstTime) ∧ t.dmc.stallDue = some (u.clock + 5000)
          ∧ t.dmc.interrupted = some i ∧ t.tgm = u.tgm
      else stands)
  ∧ (∀ i ∈ u.dmc.interrupted, u.dmc.motion = .restOut →
      if u.gateIsOpen i.dir then
        t.startsDriving i.dir i.speed ∧ t.dmc.interrupted = none
          ∧ t.dmc.current = some { index := some i.index, step := i.step, waiting := false }
          ∧ t.dmc.remaining = some i.remaining ∧ t.dmc.staged = u.dmc.staged
          ∧ t.tgm = (if u.tgm.burst then
              { u.tgm with burst := false, recheck := some (u.clock + 1000 * u.recheckTime), capFlag := true } else u.tgm)
      else stands)
  ∧ (u.dmc.motion = .rest → (∀ c ∈ u.dmc.current, c.waiting = true → c.step.action.dir = none) → stands)
  ∧ (u.dmc.motion = .restIn ∨ u.dmc.motion = .restOut → u.dmc.interrupted = none → stands)
  ∧ (u.dmc.motion ≠ .rest ∧ u.dmc.motion ≠ .restIn ∧ u.dmc.motion ≠ .restOut → stands)
  ∧ u.turningFollowed t ∧ (u.dmc.turning = false → u.capFlagRight → t.hsc = u.hsc)

/-- A stage under test waits to come on, its min_off past (R98). -/
abbrev State.waitsToHeat (s : State) (n : StageNo) : Prop :=
  (s.stage n).testDemand = true ∧ (s.stage n).on = false ∧ s.available n = true
    ∧ 1000 * (s.word 3 15).toNat ≤ s.clock - (s.stage n).switchTime

/-- Stage `n` comes on now, its open-element test armed with the I_heat reading as it stands (R87, R90). -/
abbrev State.comesOn (u : State) (n : StageNo) : Stage :=
  { u.stage n with
    on := true, switchTime := u.clock, offWaived := false
    test := some { baseline := u.mfe.iHeat.value, after := none } }

/-- The stage tests judged in `u` (R98): in SERVICE, while the drum turns (R89), the waiting stage of the lowest number
(log entry 16) comes on when no interlock holds, no test is pending and the cap admits one more; else nothing changes.
What a switch-on does to the stuck report is left open (log entry 12). -/
abbrev State.testsJudged (u t : State) : Prop :=
  let may := u.csq.phase = .service ∧ u.hsc.turning = true ∧ u.interlocked = false
    ∧ (∀ m : StageNo, (u.stage m).test = none) ∧ u.stagesOn < u.effectiveCap
  (∀ n : StageNo, may → u.waitsToHeat n → (∀ m : StageNo, m < n → ¬u.waitsToHeat m) →
      t = { u with hsc := { u.hsc with
              stages := u.hsc.stages.set n (u.comesOn n), stuckArmed := t.hsc.stuckArmed } })
    ∧ (¬(may ∧ ∃ n : StageNo, u.waitsToHeat n) → t = u)

/-! ### A slow conversion at the other blocks (R5, R10, R83, R88, R90 to R93, R106, R117) -/

/-- The status of a conversion, from its channel afterwards (R5, R8). -/
def ChannelState.outcome (c : ChannelState) (ch : Channel) (code : Code) : TempStatus :=
  match ch with
  | .tIn | .tExh | .tHsg =>
    if c.diag then .diag else if 40 ≤ code.toNat ∧ code.toNat ≤ 4055 then .good else .suspect
  | .iHeat | .g | .iMot => .good

/-- The conversion takes channel `ch` into DIAG. -/
abbrev State.entersDiag (s t : State) (ch : Channel) : Prop :=
  (s.mfe.channel ch).diag = false ∧ (t.mfe.channel ch).diag = true

/-- A conversion of the channels `chs` ends a round of link `l` that still waits for its reply (R13). -/
abbrev State.roundEnds (s : State) (chs : List Channel) (l : Link) : Prop :=
  s.mfe.round.any (fun r => r.link == l && r.wanted && r.outstanding.all chs.contains) = true

/-- The freshness of a channel on a link after a conversion of the channels `chs`, before any reply (R10). -/
def State.freshNow (s t : State) (chs : List Channel) (code : Code) (c : Channel) (l : Link) : Freshness :=
  if c ∈ chs then
    if (t.mfe.channel c).outcome c code = .good then .fresh
    else if s.entersDiag t c then .diag else (s.mfe.channel c).freshness l
  else (s.mfe.channel c).freshness l

/-- The freshness that a conversion of the channels `chs` leaves on both links; on a link that is answered the channels
are marked as reported (R10, R13). -/
abbrev State.freshened (s t : State) (chs : List Channel) (code : Code) : Prop :=
  ∀ c ∈ sixChannels, ∀ l : Link, (t.mfe.channel c).freshness l =
    if s.roundEnds chs l then (if s.freshNow t chs code c l = .diag then .diag else .stale)
    else s.freshNow t chs code c l

/-- A conversion of the channels `chs` and the measurement round: the channels are no longer outstanding, and with the
last of them the round ends; a link that still waits is answered with the six channels (R13). A waiting TAKE_CONTROL is
never that of a link with a round of its own (R167). -/
abbrev State.roundGoesOn (s t : State) (chs : List Channel) (code : Code) : Prop :=
  (s.mfe.round = none → t.mfe.round = none)
    ∧ ∀ r ∈ s.mfe.round,
      let left := r.outstanding.filter fun c => !chs.contains c
      if left = [] then
        t.mfe.round = none
          ∧ (r.wanted = true → (s.link r.link).resetting = false → (s.csq.pendingTake = true → r.link = .a) →
              (t.link r.link).inProgress = none
                ∧ t.replyIs r.link 0x04 .ok (sixChannels.flatMap fun c =>
                    int16 (t.mfe.channel c).value ++ nat16 (t.mfe.channel c).code.toNat
                      ++ [(s.freshNow t chs code c r.link).code] ++ wordBytes (t.mfe.channel c).time))
      else t.mfe.round = some { r with outstanding := left }

/-- `u` with the front end, the capture pool and the links as in `t`. -/
abbrev State.readInto (u t : State) : State := { u with mfe := t.mfe, cap := t.cap, linkA := t.linkA, linkS := t.linkS }

/-- Besides them only the heat stage controller differs. -/
abbrev State.heatFrame (u t : State) : Prop := t = { u.readInto t with hsc := t.hsc }

/-- T_exh or T_hsg enters DIAG: the heat is shed, and in PREP and DRYING it is the fault SENSOR (R88, R117). -/
abbrev State.sensorLost (u t : State) : Prop :=
  t.heatOff
    ∧ if u.csq.phase = .prep ∨ u.csq.phase = .drying then t.faulted .sensor u.csq.phase ∧ t.stopped else u.heatFrame t

/-- A conversion of T_in at the heat stage controller: the inlet cap, and what it sheds (R82, R83). -/
abbrev State.inletConverted (u t : State) : Prop :=
  let c := t.mfe.tIn
  let limit : Int := (u.word 3 16).toNat
  u.heatFrame t
    ∧ if u.entersDiag t .tIn then t.hsc.inletCap = 2 ∧ u.shedsTo t
      else if u.csq.phase = .service then
        u.shedsTo t
          ∧ t.hsc.inletCap = (if c.diag then 2 else if limit ≤ c.value then u.stagesOn - 1
              else if c.value < limit - 100 then min 4 (u.hsc.inletCap + 1) else u.hsc.inletCap)
      else t.hsc = u.hsc

/-- A conversion of T_exh at the heat stage controller and the sequencer: its loss, or the cool target (R106). -/
abbrev State.exhaustConverted (u t : State) (code : Code) : Prop :=
  let c := t.mfe.tExh
  if u.entersDiag t .tExh then u.sensorLost t
  else if u.csq.phase = .cooling ∧ c.outcome .tExh code = .good ∧ c.value ≤ (u.program.coolTarget : Int) then
    t.csq.record.endReason = u.csq.record.endReason
      ∧ if 0 < u.program.guardTime then
          t.hasEntered .guard .coolTarget ∧ t.csq.guardMs = 0 ∧ t.heatOff
            ∧ t.dmc.pattern = some (t.patternSteps t.program.guardPattern)
        else u.isDone t .coolTarget
  else (u.readInto t).testsJudged t

/-- A conversion of T_hsg at the heat stage controller and the sequencer: its loss, or the housing limit, which is looked
at in RUNNING (R93). -/
abbrev State.housingConverted (u t : State) (code : Code) : Prop :=
  let c := t.mfe.tHsg
  if u.entersDiag t .tHsg then u.sensorLost t
  else if u.mfe.mode = .running ∧ c.outcome .tHsg code = .good ∧ u.hsc.lockout = false
      ∧ (((u.word 3 17).toNat : Nat) : Int) ≤ c.value then
    t.hsc.lockout = true ∧ t.heatOff ∧ (∀ l : Link, Notice.stage 0 true c.value ∈ (t.link l).pending)
      ∧ if u.csq.phase = .drying then t.isCooling .overheat else u.heatFrame t
  else (u.readInto t).testsJudged t

/-- Fan and drum run as in FAULT of kind HEAT_STUCK (R45, R94). -/
abbrev State.coolsInFault (u t : State) : Prop :=
  t.hsc.fanOn = true ∧ t.hsc.fanDemand = true
    ∧ t.dmc.pattern = some (t.patternSteps (match u.csq.program with | some p => p.coolingPattern | none => 0))

/-- HEAT_STUCK found at this conversion: the report is disarmed; outside FAULT it is the fault, and in FAULT it replaces
another kind, with one more additional fault when the drum leaves IDLE under an active inverter fault line (R58, R92,
R118, R119). In SERVICE the drum leaves the motion state of its test (log entry 34). -/
abbrev State.stuckReported (u t : State) : Prop :=
  let drive := (u.pins.ivf && u.dmc.motion == .idle).toNat
  t.hsc.stuckArmed = false ∧ t.heatOff
    ∧ (u.csq.phase ≠ .fault → t.faulted .heatStuck u.csq.phase drive ∧ u.coolsInFault t)
    ∧ (∀ f ∈ u.csq.record.fault, u.csq.phase = .fault →
        if f.kind = .heatStuck then t.faultedAgain f ∧ t.dmc = u.dmc
        else
          u.coolsInFault t
            ∧ t.hasFault { f with kind := .heatStuck, time := t.refTime, extra := min 255 (f.extra + 1 + drive) })

/-- The reading after of a pending open-element test judged in SERVICE, where no other test is pending (R91, R98). -/
abbrev State.testJudgedAt (u t : State) (n : StageNo) (x : PendingTest) : Prop :=
  let rise := x.after.getD t.mfe.iHeat.value - x.baseline
  if (((u.word 3 (8 + n.val)).toNat / 2 : Nat) : Int) ≤ rise then
    (t.stage n).openMark = (u.stage n).openMark ∧ ((u.stage n).on = true → (t.stage n).test = none)
  else
    (t.stage n).openMark = true ∧ (t.stage n).on = false ∧ (t.stage n).test = none
      ∧ ∀ l : Link, Notice.stage (n.val + 1) false 0 ∈ (t.link l).pending

/-- A conversion of I_heat at the heat stage controller: the readings after of the pending tests, judged at once in
SERVICE, and the check for a stuck stage in RUNNING (R90, R92, R98). -/
abbrev State.heaterConverted (u t : State) : Prop :=
  let v := t.mfe.iHeat.value
  let enabled := fun n : StageNo => u.word 3 n.val ≠ 0
  let met := ∃ n : StageNo, enabled n ∧ (((u.word 3 (8 + n.val)).toNat / 2 : Nat) : Int) ≤ v
  if u.mfe.mode = .running ∧ u.heatOff ∧ 4000 ≤ u.clock - u.hsc.lastOn.getD u.resetTime ∧ met ∧ u.hsc.stuckArmed = true then u.stuckReported t
  else
    u.heatFrame t
      ∧ (if u.csq.phase = .service then
          ∀ n : StageNo, ∀ x ∈ (u.stage n).test, (∀ m : StageNo, m ≠ n → (u.stage m).test = none) → u.testJudgedAt t n x
         else
          t.hsc = { u.hsc with
              stages := t.hsc.stages
              stuckArmed := if u.mfe.mode = .running ∧ (∃ n : StageNo, enabled n) ∧ ¬met then true else u.hsc.stuckArmed }
            ∧ ∀ n : StageNo, t.stage n = { u.stage n with
                test := (u.stage n).test.map fun x => { x with after := some (x.after.getD v) } })

/-- What a conversion does to the heat stage controller and the sequencer; one of G or I_mot does nothing to them. -/
abbrev State.slowReaction (u t : State) (ch : Channel) (code : Code) : Prop :=
  match ch with
  | .tIn => u.inletConverted t
  | .tExh => u.exhaustConverted t code
  | .tHsg => u.housingConverted t code
  | .iHeat => u.heaterConverted t
  | .g | .iMot => t = { u.readInto t with cap := u.cap }

/-- The TEMP record of a conversion (R15). -/
def ChannelState.tempRecord (c : ChannelState) (ch : Channel) (code : Code) : Record :=
  .temp ch (c.outcome ch code) c.value code

/-- A conversion of channel `ch` outside the fast schedule, whole: the reading, the freshness on both links, an open
measurement round, the TEMP record, and what follows at the heat stage controller and the sequencer. That the record comes
before what follows is log entry 10. -/
abbrev State.conversionMade (u t : State) (ch : Channel) (code : Code) : Prop :=
  u.converted t ch code u.refTime ∧ u.freshened t [ch] code ∧ u.roundGoesOn t [ch] code ∧ u.outerFrame t
    ∧ (ch ∈ [Channel.tIn, .tExh, .tHsg, .iHeat] →
        let record := (t.mfe.channel ch).tempRecord ch code
        u.producedFirst t record ∧ (u.noWatch → t.csq.phase = u.csq.phase → u.produced t record))
    ∧ (u.noHoldWatch → u.slowReaction t ch code)

/-- The causes of R26 that fail for a window. -/
def State.failedCauses (s : State) (w : Window) : WindowCauses :=
  { lowTurning := decide (w.turn < w.length * 4 / 5), burst := w.burst
    tangle := decide ((s.word 2 5).toNat ≤ s.tgm.c), barShort := decide (w.method = .bars) && s.dry.barShort
    sensor := s.mfe.tExh.diag, noDemand := decide (w.method = .demand ∧ w.dCount = 0) }

/-- The conditions of R26 under which a window is valid. -/
abbrev State.windowValid (s : State) (w : Window) : Prop :=
  w.length * 4 / 5 ≤ w.turn ∧ w.burst = false ∧ s.tgm.c < s.tangleThreshold
    ∧ (w.method = .bars → s.dry.barShort = false) ∧ s.mfe.tExh.diag = false
    ∧ (w.method = .demand → 1 ≤ w.dCount)

/-- R28, step by step. -/
def State.moisture (s : State) (w : Window) : Nat :=
  let f := min 1000 (1000 * w.a / w.length)
  let gm := w.sumG / w.a
  let tc := max 0 (min 100 (Int.tdiv s.mfe.tExh.value 10))
  let den := (1024 + (s.alpha : Int) * (tc - 25)).toNat
  min 4000 (f * (gm * 1024 / den) / s.gref)

/-- R32, from the new estimate and history. -/
def remainingMinutes (target length estimate : Nat) (history : List Nat) : Nat :=
  if estimate ≤ target then 0
  else if history.length < 4 then 255
  else
    let slope := Int.tdiv ((history.headD 0 : Int) - history.getLastD 0) (history.length - 1)
    if slope ≤ 0 then 255
    else
      let windows := (estimate - target + slope.toNat - 1) / slope.toNat
      min 250 ((windows * length / 1000 + 59) / 60)

/-! ### Notices and records as bytes (R177, R179) -/

/-- A figure in so many bytes, the least significant first; a negative one in two's complement (R173). -/
def inBytes (n : Nat) (v : Int) : List Byte := (List.range n).map fun k => BitVec.ofInt 8 (v / 256 ^ k)

/-- The detail of each notice kind: its fields, each with its bytes (R177). -/
def Notice.fields : Notice → List (Nat × Int)
  | .phase new cause => [(1, new.code), (1, cause.code)]
  | .dry estimate streak => [(2, estimate), (1, streak)]
  | .tangle chain => [(1, chain)]
  | .hold reasons => [(1, reasons.mask.toNat)]
  | .fault kind left extra => [(1, kind.code), (1, left.code), (1, extra)]
  | .stage number lockout housing => [(1, number), (1, if lockout then 1 else 0), (2, housing)]
  | .watch unit value => [(1, unit.val), (2, value)]
  | .capture unit reason taken skipped => [(1, unit.val), (1, reason.code.toNat), (4, taken), (2, skipped)]

/-- The detail of a notice in a NOTICE frame (R177). -/
def Notice.onWire (n : Notice) : List Byte := n.fields.flatMap fun f => inBytes f.1 f.2

/-- A field that shares its bytes with others: its lowest bit, its width and its value. -/
structure SharedField where
  bit   : Nat
  width : Nat
  value : Int
  deriving DecidableEq, Repr

/-- The figure that holds each field in its bits, and 0 in every other bit. -/
def packed (fs : List SharedField) : Int := (fs.map fun f => f.value % 2 ^ f.width * 2 ^ f.bit).sum

/-- Byte 8 of a capture record: the kind in bits 0 to 3, and for REV bits 8 to 11 of the mean in bits 4 to 7 (R179). -/
def Record.byte8 : Record → Int
  | .contact _ _ _ => 0
  | .window _ _ _ _ _ _ _ => 1
  | .rev _ _ _ mean => packed [⟨0, 4, 2⟩, ⟨4, 4, (mean / 256 : Nat)⟩]
  | .heat _ _ _ _ => 3
  | .temp _ _ _ _ => 4
  | .phase _ _ _ _ => 5
  | .tangle _ _ _ _ _ => 6
  | .watch _ _ _ _ _ => 7

/-- The payload of a capture record, p0 to p5: its figures, each with its bytes (R179). -/
def Record.figures : Record → List (Nat × Int)
  | .contact duration peak mean => [(2, duration), (2, peak), (2, mean)]
  | .window method valid c index estimate streak contacts =>
      [(1, packed [⟨0, 1, if method = .demand then 1 else 0⟩, ⟨1, 1, valid.toNat⟩, ⟨2, 1, c.lowTurning.toNat⟩
          , ⟨3, 1, c.burst.toNat⟩, ⟨4, 1, c.tangle.toNat⟩, ⟨5, 1, c.barShort.toNat⟩, ⟨6, 1, c.sensor.toNat⟩
          , ⟨7, 1, c.noDemand.toNat⟩])
      , (3, packed [⟨0, 12, index⟩, ⟨12, 12, estimate⟩]), (1, streak), (1, contacts)]
  | .rev time min max mean => [(2, time), (3, packed [⟨0, 12, min⟩, ⟨12, 12, max⟩]), (1, mean)]
  | .heat demand stages cap exhaust =>
      [(2, demand), (1, packed [⟨0, 4, stages.mask.toNat⟩, ⟨4, 3, cap⟩]), (2, exhaust), (1, 0)]
  | .temp channel status value raw =>
      [(1, packed [⟨0, 2, channel.code⟩, ⟨4, 2, status.code⟩]), (2, value), (2, raw.toNat), (1, 0)]
  | .phase left entered cause reasons =>
      [(1, packed [⟨0, 4, left.code⟩, ⟨4, 4, entered.code⟩]), (1, cause.code), (1, reasons.mask.toNat), (3, 0)]
  | .tangle escalation chain ripple contacts estimate =>
      [(1, packed [⟨0, 3, chain⟩, ⟨7, 1, escalation.toNat⟩]), (2, ripple), (1, contacts), (2, estimate)]
  | .watch unit quantity value limit hits =>
      [(1, packed [⟨0, 2, unit.val⟩, ⟨4, 4, quantity.code⟩]), (2, value), (2, limit), (1, (Nat.min 255 hits : Nat))]

/-- A ring entry as 16 bytes (R179). -/
def RingEntry.onWire (e : RingEntry) : List Byte :=
  let head : List (Nat × Int) := [(4, e.seq.toNat), (4, e.stamp.toNat), (1, e.record.byte8), (1, e.units.toNat)]
  (head ++ e.record.figures).flatMap fun f => inBytes f.1 f.2

/-! ### Filling posted blocks (R148, R152, R153) -/

/-- A ring and its posted blocks once every head block that the ring can fill is filled, and, when no capture unit of the
link is ARMED or RUNNING, the blocks that it cannot fill are filled with END. -/
def settledBlocks (capturing : Bool) : List RingEntry → List Posted → List RingEntry × List Posted
  | ring, [] => (ring, [])
  | ring, p :: ps =>
    let filledWith := fun (entries rest : List RingEntry) (ended : Bool) =>
      ((settledBlocks capturing rest ps).1,
        { p with filled := some { entries := entries, ended := ended, flushed := false } } :: (settledBlocks capturing rest ps).2)
    if p.filled.isSome then ((settledBlocks capturing ring ps).1, p :: (settledBlocks capturing ring ps).2)
    else if p.size ≤ ring.length then filledWith (ring.take p.size) (ring.drop p.size) false
    else if capturing then (ring, p :: ps)
    else filledWith ring [] true

/-- The ring and the posted blocks of link `l` are those of `ring` and `posted`, settled (R148, R152, R153). -/
abbrev State.settles (t : State) (l : Link) (ring : List RingEntry) (posted : List Posted) : Prop :=
  ((t.link l).ring, (t.link l).posted) = settledBlocks (t.capturing l) ring posted

/-- A ring and its posted blocks once FLUSH has filled the WAITING blocks up to and with the one of the tag: each takes as
many entries as its size, or as the ring holds (R150). -/
def flushedBlocks (tag : Byte) (ring : List RingEntry) (posted : List Posted) : List RingEntry × List Posted :=
  let named := posted.findIdx (fun p => p.tag == tag)
  let sizes := posted.mapIdx fun i p => if p.filled.isNone && decide (i ≤ named) then p.size else 0
  let before := fun i => (sizes.take i).sum
  (ring.drop sizes.sum,
    posted.mapIdx fun i p =>
      if p.filled.isNone && decide (i ≤ named) then
        { p with filled := some { entries := (ring.drop (before i)).take p.size, ended := false, flushed := true } }
      else p)

/-- The ring's sequence numbers rise from the oldest entry to the newest, up to the link's sequence (R141, R145). -/
abbrev LinkState.ringRises (lk : LinkState) : Prop :=
  lk.ring.Pairwise fun a b => (lk.seq - b.seq).toNat < (lk.seq - a.seq).toNat

/-- The state after the characters of `bytes`, each with even parity and its stop bit, one after the other. -/
def State.hear (s : State) (l : Link) (bytes : List Byte) : State :=
  bytes.foldl (fun s b =>
    match exec (.characterReceived l b (evenParity b) true) s with
    | .next t => t
    | .fault _ => s
    | .refused _ => s) s

/-- The payload lengths that 11.2 admits for a request kind; none for a code that is no request kind. -/
def requestLengths (kind : Byte) : Option (List Nat) :=
  match kind.toNat with
  | 0x01 | 0x02 | 0x04 | 0x10 | 0x11 | 0x12 | 0x13 | 0x14 | 0x30 | 0x38 | 0x48 | 0x4A | 0x50 => some [0]
  | 0x15 | 0x22 | 0x32 | 0x33 | 0x34 | 0x3A | 0x41 | 0x42 => some [1]
  | 0x29 | 0x40 => some [2]
  | 0x21 | 0x28 | 0x49 => some [3]
  | 0x03 => some ((List.range 12).map (· + 1))
  | 0x20 => some ((List.range 32).map (fun k => 6 + 4 * k))
  | 0x31 => some [10]
  | 0x39 => some [11]
  | 0x5F => some []
  | _ => none

/-! ### The words of a settings block (9.1, 6.2, R155, R180) -/

/-- An unsigned field of a settings word: its lowest bit, its width and its range. -/
structure WordField where
  bit   : Nat
  width : Nat
  lo    : Nat
  hi    : Nat
  deriving DecidableEq, Repr

/-- How a settings word holds its fields. -/
inductive WordForm where
  | fields (fs : List WordField)
  | signed (lo hi : Int)
  | windowLength
  | step
  deriving DecidableEq, Repr

/-- A word that one unsigned field has to itself (log entry 15). -/
def WordForm.whole (lo hi : Nat) : WordForm := .fields [⟨0, 32, lo, hi⟩]

def WordForm.free : WordForm := .whole 0 4294967295

/-- The fields of a step word (R180). -/
def stepFields : List WordField := [⟨0, 8, 0, 2⟩, ⟨8, 8, 20, 55⟩, ⟨16, 8, 1, 255⟩]

/-- A notice enable set: members outside the eight kinds are dropped. -/
def WordForm.notices : WordForm := .fields [⟨0, 8, 0, 255⟩]

/-- The tables of 9.1 and 6.2: the words of a block in order; of block 4 one program, of block 5 one pattern. Words
beyond those listed are free. -/
def wordForms (b : Nat) : List WordForm :=
  match b with
  | 0 => [.notices, .notices, .whole 0 60, .whole 0 60, .whole 5 60, .whole 1 120]
  | 1 => List.replicate 17 (.signed (-500) 3000) ++ List.replicate 3 (.signed (-50) 50)
      ++ [.whole 0 1000, .whole 1 255, .whole 0 1000, .whole 1 255, .whole 50 2000, .whole 0 40, .whole 100 4000]
  | 2 => [.windowLength, .whole 1 8, .whole 0 1000, .whole 0 50, .whole 0 2000, .whole 5 100, .whole 30 300
      , .whole 1 5, .whole 20 55, .whole 5 60]
  | 3 => List.replicate 4 (.whole 0 1) ++ List.replicate 4 (.whole 1 60) ++ List.replicate 4 (.whole 10 300)
      ++ [.whole 0 255, .whole 0 255, .whole 5 60, .whole 5 60, .whole 1200 2200, .whole 1000 1600, .whole 0 10, .whole 2 10]
  | 4 => [.whole 0 4000, .whole 400 850, .fields [⟨0, 16, 0, 60⟩, ⟨16, 16, 5, 180⟩], .whole 250 500
      , .fields [⟨0, 16, 1, 30⟩, ⟨16, 16, 0, 120⟩]
      , .fields [⟨0, 2, 0, 3⟩, ⟨2, 2, 0, 3⟩, ⟨4, 2, 0, 3⟩, ⟨8, 1, 0, 1⟩, ⟨16, 8, 1, 4⟩], .whole 50 900, .free]
  | 5 => .whole 0 12 :: List.replicate 12 .step
  | _ => []

/-- The form of word `i` of block `b`. -/
def wordForm (b i : Nat) : WordForm :=
  let k := if b = 4 then i % 8 else if b = 5 then i % 13 else i
  (wordForms b).getD k .free

def WordField.value (f : WordField) (w : Word) : Nat := w.toNat / 2 ^ f.bit % 2 ^ f.width

/-- The word that holds each field at the value `g` gives, and 0 in every other bit. -/
def packFields (fs : List WordField) (g : WordField → Nat) : Word := BitVec.ofNat 32 (fs.map fun f => g f * 2 ^ f.bit).sum

/-- Each field of the word lies in its range, and a bit that names no field is 0. -/
def WordForm.admits (k : WordForm) (w : Word) : Bool :=
  let inRange (fs : List WordField) : Bool :=
    fs.all (fun f => decide (f.lo ≤ f.value w ∧ f.value w ≤ f.hi)) && packFields fs (fun f => f.value w) == w
  match k with
  | .fields fs => inRange fs
  | .signed lo hi => decide (lo ≤ w.toInt ∧ w.toInt ≤ hi)
  | .windowLength => decide (2000 ≤ w.toNat ∧ w.toNat ≤ 30000 ∧ w.toNat % 1000 = 0)
  | .step => inRange stepFields

/-- The word with each field brought into its range: clamped, W first truncated to a multiple of 1000, an unknown step
action REST (R155). -/
def WordForm.broughtIn (k : WordForm) (w : Word) : Word :=
  let clamped (fs : List WordField) (w : Word) : Word := packFields fs fun f => max f.lo (min f.hi (f.value w))
  match k with
  | .fields fs => clamped fs w
  | .signed lo hi => BitVec.ofInt 32 (max lo (min hi w.toInt))
  | .windowLength => BitVec.ofNat 32 (max 2000 (min 30000 (w.toNat - w.toNat % 1000)))
  | .step => clamped stepFields (if 2 < w.toNat % 256 then BitVec.ofNat 32 (w.toNat - w.toNat % 256) else w)

/-! ### Invariants: the heater (R76, R82, R88) -/

/-- R88: a stage output is on only while no interlock holds. -/
abbrev State.heaterInterlocked (s : State) : Prop := (∃ n : StageNo, (s.stage n).on = true) → s.interlocked = false

/-- Before the part is ready no cycle can have begun (R167). -/
abbrev State.bootIdle (s : State) : Prop := s.boot ≠ .ready → s.csq.phase = .idle ∨ s.csq.phase = .fault

/-- R82: the number of stage outputs on never exceeds the effective cap, and R76: a stage that is on is available. -/
abbrev State.withinCap (s : State) : Prop :=
  s.stagesOn ≤ s.effectiveCap ∧ ∀ n : StageNo, (s.stage n).on = true → s.available n = true

/-! ### The sequencer (R104, R110, R112, R113, R123) -/

/-- DRYING or COOLING, the phases that PREP leads into and a HOLD holds. -/
abbrev Phase.isTarget (p : Phase) : Prop := p = .drying ∨ p = .cooling

/-- The sequencer's marks and deadlines are present exactly in their phases. -/
abbrev Csq.consistent (c : Csq) : Prop :=
  (c.reasons ≠ .empty ↔ c.phase = .hold)
    ∧ c.owner = (if c.phase = .service then some .s else none)
    ∧ c.prepTarget.isSome = (c.phase == .prep) ∧ (∀ p ∈ c.prepTarget, p.isTarget)
    ∧ (∀ p ∈ c.record.held, p.isTarget) ∧ (c.phase = .hold → c.record.held.isSome = true)
    ∧ c.supervisionDue.isSome = c.phase.supervised
    ∧ c.holdDue.isSome = (c.phase == .hold)
    ∧ c.silenceDue.isSome = (c.phase == .service)
    ∧ (c.pendingTake = true → c.phase = .service)
    ∧ (∀ n : Fin 4, (c.stageTimers.get n).isSome = true → c.phase = .service)
    ∧ (c.fanTimer.isSome = true → c.phase = .service) ∧ (c.drumTimer.isSome = true → c.phase = .service)
    ∧ (c.phase = .fault → c.record.fault.isSome = true)

/-! ### The schedules that follow the phase (R1, R22, R79) -/

/-- R1, R22, R79, R105: the front end's mode and schedules, the window and the control period stand with the phase, and
once dryness is declared DRYING is over. -/
abbrev State.schedulesRight (s : State) : Prop :=
  s.mfe.mode = s.csq.phase.frontMode
    ∧ s.mfe.fastDue.isSome = (s.mfe.mode == .running) ∧ s.mfe.slowDue.isSome = (s.mfe.mode == .running)
    ∧ (s.dry.window.isSome = true → s.csq.phase = .drying)
    ∧ s.hsc.periodDue.isSome = (s.csq.phase == .drying)
    ∧ (s.dry.estimate = .declared → s.csq.phase ≠ .drying ∧ s.csq.prepTarget ≠ some .drying
        ∧ (s.csq.phase = .hold → s.csq.record.held ≠ some .drying))

/-! ### The drum (R43, R49, R50, R56, R57, R67) -/

/-- FWD, REV and SPD stand with the motion state: in STARTING and RUN the direction and the speed of the current step, in
RUN_OPP the direction and speed of the burst, else off (R43). -/
abbrev Dmc.outputsRight (d : Dmc) : Prop :=
  d.pins = (match d.motion with
      | .starting dir | .run dir =>
          { fwd := dir == .fwd, rev := dir == .rev, spd := (d.current.map (·.step.speed)).getD 0 }
      | .runOpp dir => { fwd := dir == .fwd, rev := dir == .rev, spd := d.speed }
      | .idle | .rest | .restIn | .restOut => { fwd := false, rev := false, spd := 0 })
    ∧ (match d.motion with
      | .starting dir | .run dir => d.current.map (fun c => (c.waiting, c.step.action.dir)) == some (false, some dir)
      | .runOpp _ | .idle | .rest | .restIn | .restOut => true) = true

/-- The drum's outputs and marks stand with its motion state, and a burst is in progress only in DRYING. -/
abbrev State.drumRight (s : State) : Prop :=
  s.dmc.outputsRight
    ∧ (∀ i ∈ s.dmc.interrupted, i.speed = i.step.speed ∧ i.step.action.dir = some i.dir)
    ∧ (∀ d ∈ s.dmc.motion.driven, s.dmc.lastDir = some d)
    ∧ s.dmc.turning = s.dmc.revolution.isSome
    ∧ (s.dmc.motion.isRun = true → s.dmc.turning = true)
    ∧ (s.dmc.turning = true → s.dmc.motion.isRun = true ∨ s.dmc.motion = .runOpp .fwd ∨ s.dmc.motion = .runOpp .rev)
    ∧ s.hsc.turning = s.dmc.turning
    ∧ s.dmc.stallDue.isSome = s.dmc.motion.driven.isSome
    ∧ (s.dmc.restCheck ≠ .none ↔ s.dmc.motion.isRest = true)
    ∧ s.tgm.burst = s.dmc.motion.inBurst ∧ s.dmc.interrupted.isSome = s.dmc.motion.inBurst
    ∧ (s.dmc.burstDue.isSome = true → s.dmc.motion = .runOpp .fwd ∨ s.dmc.motion = .runOpp .rev)
    ∧ (s.dmc.motion.inBurst = true → s.csq.phase = .drying ∧ s.dmc.remaining = none)

/-! ### Ranges (2.1, 3.1, 4.1, 5.1, 6.1) -/

/-- Each word of a block's working copy is in its range (9.1, R155, R157, R180). -/
abbrev blockInRange (b : Nat) (ws : List Word) : Prop :=
  ws.length = blockLength b ∧ ∀ x ∈ ws.zipIdx, (wordForm b x.2).admits x.1 = true

/-- The working copies of blocks 0 to 5 hold words in their ranges; the non-volatile blocks and a store's image
have the lengths of 9.1. -/
abbrev State.settingsInRange (s : State) : Prop :=
  (∀ b : Fin 6, blockInRange b.val (s.sst.blocks.get b.val))
    ∧ (∀ b : Fin 7, (s.sst.stored.get b.val).length = blockLength b.val)
    ∧ (∀ j ∈ s.sst.engine, j.block < 7 ∧ j.image.length = blockLength j.block)

/-- The estimator's and the heater's figures are in their ranges (R29, R33, R77, R80). -/
abbrev State.figuresInRange (s : State) : Prop :=
  s.dry.m ≤ 4000 ∧ s.dry.s ≤ 4000 ∧ s.dry.dw ≤ 1000 ∧ s.dry.ds ≤ 1000 ∧ s.dry.streak ≤ 255
    ∧ s.dry.remaining ≤ 255 ∧ s.dry.history.length ≤ 8 ∧ s.dmc.history.length ≤ 8
    ∧ s.hsc.d ≤ 1000 ∧ s.hsc.i ≤ 1000 ∧ s.tgm.c ≤ 255
    ∧ (∀ w ∈ s.dry.window, w.dSum ≤ 1000 * w.dCount) ∧ (∀ n : StageNo, (s.stage n).onTime ≤ 4294967295)

/-! ### Links, rings, blocks (R145, R146, R167, R172) -/

/-- A posted block carries at most its size, and its size is 1 to 15 (R146). -/
abbrev Posted.right (p : Posted) : Prop :=
  1 ≤ p.size ∧ p.size ≤ 15 ∧ ∀ f ∈ p.filled, f.entries.length ≤ p.size

/-- The FILLED blocks of a queue stand before its WAITING ones (R146). -/
def filledFirst : List Posted → Bool
  | [] => true
  | p :: ps => if p.filled.isSome then filledFirst ps else ps.all (fun q => q.filled.isNone)

/-- The capacities of a link hold, its posted blocks are in order, and no block waits that the ring could fill (R148). -/
abbrev LinkState.right (lk : LinkState) : Prop :=
  lk.ring.length ≤ 128 ∧ lk.posted.length ≤ 2 ∧ lk.queue.length ≤ 2 ∧ (∀ p ∈ lk.posted, p.right)
    ∧ (lk.posted.map (·.tag)).Nodup ∧ filledFirst lk.posted = true
    ∧ (∀ p ∈ lk.posted.find? (fun p => p.filled.isNone), lk.ring.length < p.size)
    ∧ lk.errors.badLength ≤ 65535 ∧ lk.errors.gap ≤ 65535 ∧ lk.errors.byteError ≤ 65535
    ∧ lk.errors.checkError ≤ 65535 ∧ lk.errors.overflow ≤ 65535

/-- No block waits on a link with no capture unit ARMED or RUNNING (R152, R153). -/
abbrev State.noneWaits (s : State) (l : Link) : Prop :=
  s.capturing l = false → ∀ p ∈ (s.link l).posted, p.filled.isSome = true

/-- Each link is in order. -/
abbrev State.linksRight (s : State) : Prop := s.linkA.right ∧ s.linkS.right ∧ s.noneWaits .a ∧ s.noneWaits .s

/-- The pending set holds each kind once, in order of kind code, and a NOTICE is scheduled only while a kind is pending and
enabled (R170, R177). -/
abbrev LinkState.noticesRight (lk : LinkState) : Prop :=
  lk.pending.Pairwise (fun a b => a.code < b.code) ∧ (lk.scheduled = true → lk.announced ≠ 0)

abbrev State.noticesRight (s : State) : Prop := s.linkA.noticesRight ∧ s.linkS.noticesRight

/-! ### The capture pool (R127) -/

/-- The watch units a configuration names are owned by `l`. -/
abbrev State.namesOwn (s : State) (l : Option Link) (c : CaptureConfig) : Prop :=
  ∀ w : Fin 4, c.names w = true → (s.watch w).owner = l

/-- R127: a unit that is not FREE has an owner, and the watch units named in its conditions are its owner's. -/
abbrev State.ownersRight (s : State) : Prop :=
  (∀ u : Fin 3, ((s.unit u).owner.isSome = true ↔ (s.unit u).state ≠ .free))
    ∧ (∀ w : Fin 4, ((s.watch w).owner.isSome = true ↔ (s.watch w).state ≠ .free))
    ∧ (∀ u : Fin 3, ∀ c ∈ (s.unit u).config, (s.unit u).owner.isSome = true ∧ s.namesOwn (s.unit u).owner c)

/-- 7.1, R136, R141: the counts of the capture pool stop at their tops. -/
abbrev State.countsRight (s : State) : Prop :=
  (∀ u : Fin 3, (s.unit u).taken ≤ 4294967295 ∧ (s.unit u).skipped ≤ 65535) ∧ ∀ w : Fin 4, (s.watch w).hits ≤ 65535

/-! ### The front end (R5, R10) -/

/-- A temperature channel holds 32767 while it is DIAG, and its freshness is DIAG exactly then. -/
abbrev ChannelState.diagRight (c : ChannelState) : Prop :=
  (c.diag = true → c.value = 32767) ∧ (c.freshA = .diag ↔ c.diag = true) ∧ (c.freshS = .diag ↔ c.diag = true)

abbrev State.diagnosisRight (s : State) : Prop :=
  s.mfe.tIn.diagRight ∧ s.mfe.tExh.diagRight ∧ s.mfe.tHsg.diagRight

end Sys2Proof.Machine
end

