-- ==== Sys2Proof/Certificates/Slice0/Obligations.lean ====
section
/-! DEFINITION. The statements for the provers. A statement of a command says what the machine does when the command
is executed on its own; a request is stated where its link takes it at once (R167). Where a statement rests on a
choice of the model, its docstring names the log entry. Every command of the clock is stated at the moment of its timer,
which is log entry 2. -/

open Sys2Proof Sys2Proof.Machine

/-! ### The queue -/

/-- One step takes the command at the front of the queue and executes it with the queue's rest. On an empty queue the
first command of the clock that is due now is queued and nothing else changes, or, with none due, one millisecond passes;
without supply nothing changes. What an empty queue does is the model's choice, log entries 1, 9 and 26. -/
def Obligations.StepTakesFront : Prop :=
  ∀ (c : Instr) (rest : List Instr) (s : State),
    (s.pending = c :: rest → step s = exec c { s with pending := rest }) ∧
    (s.pending = [] → ∃ t, step s = .next t ∧
      (s.boot = .off → t = s) ∧
      (s.boot ≠ .off →
        (∀ (earlier later : List Instr), clockCommands = earlier ++ c :: later → s.due c = true →
            (∀ d ∈ earlier, s.due d = false) → t = { s with pending := [c] })
        ∧ ((∀ d ∈ clockCommands, s.due d = false) → t = s.elapse 1)))

/-- Every command gives a next state and leaves the queue of waiting commands alone. -/
def Obligations.CommandsLeaveQueue : Prop :=
  ∀ (c : Instr) (s : State), ∃ t, exec c s = .next t ∧ t.pending = s.pending

/-! ### Supply, load and start-up round -/

/-- POWER_ON and RST bring every block to its reset values and begin the load, and LOSS_OF_SUPPLY leaves the part without
supply; POWER_ON starts the reference time counter, and with no store in progress the non-volatile words stand. The
model's choices among these clauses: that RST leaves the counter running (log entry 3), that the pins stand as they are
(log entries 5 and 9), that a loss of supply brings the reset values at once, leaves the clock, and lets nothing but
POWER_ON reach the part (log entry 9), that the settings hold their defaults and the on-times are 0 before the load (log
entry 7, the REST speeds among the defaults log entry 17), and the values that no rule gives (log entry 22). -/
def Obligations.SupplyEventsReset : Prop :=
  ∀ (stop : StopPoint) (s : State),
    let reset := fun (boot : Boot) (t : State) =>
      t.boot = boot ∧ t.pins = s.pins ∧ t.pending = s.pending ∧ t.holdsResetValues
        ∧ (s.sst.engine = none → t.sst.stored = s.sst.stored)
    (∃ t, exec (.powerOn stop) s = .next t ∧ t.clock = 0 ∧ t.resetTime = 0 ∧ reset .loading t) ∧
    (s.boot ≠ .off → ∃ t, exec (.rst stop) s = .next t ∧ t.clock = s.clock ∧ t.resetTime = s.clock ∧ reset .loading t) ∧
    (s.boot ≠ .off → ∃ t, exec (.lossOfSupply stop) s = .next t ∧ t.clock = s.clock ∧ t.resetTime = s.clock ∧ reset .off t) ∧
    (s.boot = .off → exec (.rst stop) s = .next s ∧ exec (.lossOfSupply stop) s = .next s)

/-- A store in progress stops at RST and at a loss of supply and does not resume; what it leaves in its block depends
on how far it had got, what the next load makes of that block likewise, and every other block stands. The model's
choices: how far it had got is an operand, with the words left unprogrammed reading with a double error (log entry 8);
pins and clock stand at a loss of supply (log entry 9); a settings field whose range holds no negative value is read
unsigned (log entry 15); and the REST speeds of the default patterns (log entry 17). A loss of supply with no store in
progress is in SupplyEventsReset. -/
def Obligations.InterruptedStore : Prop :=
  ∀ (stop again : StopPoint) (s : State) (j : StoreJob), s.boot ≠ .off → s.sst.engine = some j → j.block < 7 →
    j.image.length = blockLength j.block → (∀ b : Fin 7, (s.sst.stored.get b.val).length = blockLength b.val) →
    let old := s.sst.stored.get j.block
    let inRange := fun ws : List Word => ws.mapIdx fun i w => (wordForm j.block i).broughtIn w
    let lost := fun u : State => u.sst.engine = none ∧ u.sst.wearPending = false ∧ s.storeStopped u j stop
    let loads := fun w : State =>
      match stop with
      | .beforeErase =>
          w.sst.invalid.get j.block = old.any (fun x => x == .double)
            ∧ w.workingCopy j.block = if old.any (fun x => x == .double) then defaultBlock j.block
              else inRange (old.filterMap StoredWord.read)
      | .partway _ => w.sst.invalid.get j.block = true ∧ w.workingCopy j.block = defaultBlock j.block
      | .allProgrammed => w.sst.invalid.get j.block = false ∧ w.workingCopy j.block = inRange j.image
    (∃ t, exec (.rst stop) s = .next t ∧ lost t ∧ ∃ w, exec .settingsLoadComplete t = .next w ∧ loads w) ∧
    (∃ t, exec (.lossOfSupply stop) s = .next t ∧
      t.boot = .off ∧ s.storeStopped t j stop ∧ t.pins = s.pins ∧ t.clock = s.clock ∧
        ∃ v, exec (.powerOn again) t = .next v ∧ lost v ∧ ∃ w, exec .settingsLoadComplete v = .next w ∧ loads w)

/-- The load fills the working copies, marks and counts block by block, hands block 6 to the on-times and block 0
to the links, whose NOTICE schedule follows the new enable set, and touches nothing else. The model's choices: a settings
field whose range holds no negative value is read unsigned (log entry 15), and the REST speeds of the default patterns (log
entry 17). -/
def Obligations.SettingsLoad : Prop :=
  ∀ (s : State), s.boot = .loading → (∀ b : Fin 7, (s.sst.stored.get b.val).length = blockLength b.val) →
    ∃ t, exec .settingsLoadComplete s = .next t ∧
      (∀ b : Fin 7,
        let ws := s.sst.stored.get b.val
        t.sst.invalid.get b.val = ws.any (fun w => w == .double)
          ∧ t.sst.corrected.get b.val = min 255 (ws.filter StoredWord.isSingle).length
          ∧ t.workingCopy b.val = if ws.any (fun w => w == .double) then defaultBlock b.val
              else (ws.filterMap StoredWord.read).mapIdx fun i w => (wordForm b.val i).broughtIn w)
      ∧ (∀ l : Link,
        let i := match l with | .a => 0 | .s => 1
        (t.link l).enable = (t.word 0 i).extractLsb' 0 8 ∧ (t.link l).period = (t.word 0 (2 + i)).toNat
          ∧ (t.link l).periodicDue = (if (t.link l).period = 0 then none else some (s.clock + 1000 * (t.link l).period))
          ∧ (s.link l).reschedules (t.link l)
          ∧ t.link l = { s.link l with
              enable := (t.link l).enable, period := (t.link l).period, periodicDue := (t.link l).periodicDue
              statusDue := false, scheduled := (t.link l).scheduled })
      ∧ (∀ n : StageNo, t.stage n = { s.stage n with onTime := ((t.workingCopy 6).getD n.val 0).toNat })
      ∧ t = { s with
          boot := .startup
          sst := { t.sst with engine := s.sst.engine, wearPending := s.sst.wearPending, stored := s.sst.stored }
          hsc := { s.hsc with stages := t.hsc.stages }, linkA := t.linkA, linkS := t.linkS }

/-- The start-up round converts T_in, T_exh and T_hsg three times each and then I_heat, G and I_mot, each an ordinary
conversion with its reading, its freshness on both links, its record and, where a loop opened before has brought FAULT,
what follows at the heat stage controller; in IDLE nothing but the front end is touched. After the twelfth the part is
ready, a held RESET_LINK is taken with its OK reply, and a cutoff loop that is open in IDLE is a fault. The model's
choices: the record of a conversion comes before what follows (log entry 10), what a switch-on does to the stuck report
(log entry 12), stages under test come on in order of number (log entry 16), a loop found open outside IDLE raises nothing
at the end (log entry 18), and the drum at HEAT_STUCK in SERVICE (log entry 34). -/
def Obligations.StartupRound : Prop :=
  ∀ (code : Code) (s : State), s.boot = .startup →
    (∀ k : Fin 12, s.mfe.startupDone = k.val →
      let ch := [Channel.tIn, .tIn, .tIn, .tExh, .tExh, .tExh, .tHsg, .tHsg, .tHsg, .iHeat, .g, .iMot].getD k.val .tIn
      ∃ t, exec (.startupRoundConversion code) s = .next t ∧
        s.conversionMade t ch code ∧ t.mfe.startupDone = k.val + 1
        ∧ t.mfe.lastPositive = (if ch = .g then !s.mfe.lastPositive else s.mfe.lastPositive)
        ∧ (t.csq.phase = s.csq.phase →
            t.mfe.mode = s.mfe.mode ∧ t.mfe.rotation = s.mfe.rotation ∧ t.mfe.fastDue = s.mfe.fastDue
              ∧ t.mfe.slowDue = s.mfe.slowDue)
        ∧ (s.csq.phase = .idle → s.mfe.mode = .onRequest → s.mfe.round = none → s.unobserved → s.heatOff →
            (∀ n : StageNo, (s.stage n).test = none) → (k.val < 3 → s.mfe.tIn.diag = true) → t = { s with mfe := t.mfe })) ∧
    (s.mfe.startupDone = 12 → ∃ t, exec .startupRoundComplete s = .next t ∧
      let taken := fun l : Link =>
        let lk := s.link l
        { lk with
          resetHeld := false, resetting := lk.resetHeld || lk.resetting
          reply := if lk.resetHeld ∧ lk.resetting = false then some { kind := 0xDF, payload := [0] } else lk.reply }
      t.boot = .ready ∧ t.clock = s.clock ∧ t.pins = s.pins
        ∧ (if s.pins.cutOpen ∧ s.csq.phase = .idle then
            t.faulted .cutoffOpen .idle ∧ t.stopped
              ∧ ∀ l : Link, t.link l = { taken l with
                  seq := (t.link l).seq, ring := (t.link l).ring, posted := (t.link l).posted
                  pending := (t.link l).pending, scheduled := (t.link l).scheduled }
           else t = { s with boot := .ready, linkA := taken .a, linkS := taken .s }))

/-! ### Measurement front end -/

/-- A fast conversion makes one bar sample and one motor current sample: both readings, the bar polarity, the open
revolution's figures, the freshness, an open measurement round with its reply, and the next fast conversion one
millisecond on. Of a late conversion the next counts from now: the model's choice, log entry 2. -/
def Obligations.FastConversionReadings : Prop :=
  ∀ (bar motor : Code) (s : State) (due : Nat), s.boot ≠ .off → s.mfe.fastDue = some due →
    let u := s.moment due
    let i := (s.scaled 20 motor).toNat
    ∃ t, exec (.fastConversion bar motor) s = .next t ∧
      t.mfe.fastDue = some (u.clock + 1) ∧ t.mfe.lastPositive = !s.mfe.lastPositive
      ∧ (t.mfe.g.value = (bar.toNat : Int) ∧ t.mfe.g.code = bar ∧ t.mfe.g.time = u.refTime)
      ∧ (t.mfe.iMot.value = s.scaled 20 motor ∧ t.mfe.iMot.code = motor ∧ t.mfe.iMot.time = u.refTime)
      ∧ u.freshened t [.g, .iMot] bar ∧ u.roundGoesOn t [.g, .iMot] bar
      ∧ (∀ c ∈ [Channel.tIn, .tExh, .tHsg, .iHeat], (s.mfe.channel c).sameReading (t.mfe.channel c))
      ∧ t.dmc = { u.dmc with revolution := u.dmc.revolution.map fun o =>
          { o with count := o.count + 1, sum := o.sum + i
                   min := if o.count = 0 then i else min o.min i
                   max := if o.count = 0 then i else max o.max i } }
      ∧ t = { u with mfe := t.mfe, dry := t.dry, dmc := t.dmc, cap := t.cap, linkA := t.linkA, linkS := t.linkS }

/-- A bar sample against the contact threshold: it adds to the window, opens, extends or ends a contact, or latches
BAR_SHORT at the 20,001st sample of a contact that does not end. The reply of a measurement round that the conversion ends
is in FastConversionReadings. -/
def Obligations.ContactJudged : Prop :=
  ∀ (bar motor : Code) (s : State) (due : Nat), s.boot ≠ .off → s.mfe.fastDue = some due →
    let v := s.moment due
    let g := bar.toNat
    let above : Bool := (s.word 1 24).toNat ≤ g
    let ends : Bool := match s.dry.contact with | none => false | some c => !above && 3 ≤ c.below + 1
    ∃ t, exec (.fastConversion bar motor) s = .next t ∧
      let replied := fun l : Link => { v.link l with reply := (t.link l).reply, inProgress := (t.link l).inProgress }
      let u := { v with linkA := replied .a, linkS := replied .s }
      t.dry.window = s.dry.window.map (fun w =>
        { w with a := w.a + above.toNat, sumG := w.sumG + (if above then g else 0)
                 turn := w.turn + s.dmc.turning.toNat, n := w.n + ends.toNat })
      ∧ (s.dry.contact = none →
          let opened : Contact :=
            { start := u.clock, since := 0, lastAbove := 0, below := 0, peak := g, count := 1, sum := g }
          t.dry = { s.dry with window := t.dry.window, contact := if above then some opened else none }
          ∧ t = { u with mfe := t.mfe, dry := t.dry, dmc := t.dmc })
      ∧ (∀ c ∈ s.dry.contact,
          if ends then
            t.dry = { s.dry with window := t.dry.window, contact := none }
              ∧ t = { u.offerRecord (.contact (min 65535 (c.lastAbove + 1)) c.peak (c.sum / c.count)) with
                      mfe := t.mfe, dry := t.dry, dmc := t.dmc }
          else if 20000 ≤ c.since + 1 then
            t.dry.barShort = true ∧ t.dry.contact = none ∧ t.dry.method = .demand
              ∧ (t.dry.s = s.dry.s ∧ t.dry.m = s.dry.m ∧ t.dry.ds = s.dry.ds ∧ t.dry.lastN = s.dry.lastN)
              ∧ (s.dry.method = .bars → t.dry.streak = 0 ∧ t.dry.history = [] ∧ t.dry.remaining = 255
                  ∧ t.dry.estimate = if s.dry.estimate = .declared then .declared else .settling)
              ∧ t = { u with mfe := t.mfe, dry := t.dry, dmc := t.dmc }
          else
            let further : Contact :=
              if above then
                { c with since := c.since + 1, lastAbove := c.since + 1, below := 0, peak := max c.peak g
                         count := c.count + 1, sum := c.sum + g }
              else { c with since := c.since + 1, below := c.below + 1 }
            t.dry = { s.dry with window := t.dry.window, contact := some further }
              ∧ t = { u with mfe := t.mfe, dry := t.dry, dmc := t.dmc })

/-- Slow conversions of the running schedule and conversions of a measurement round: the reading by the rules of its
channel, the freshness on both links, the rotation, the bar polarity, the round with its reply, the TEMP record, and what
the conversion does to the heat stage controller and the sequencer. The model's choices: of a late conversion the next
counts from now (log entry 2), the record of a conversion comes before what follows at the other blocks (log entry 10),
what a switch-on does to the stuck report (log entry 12), stages under test come on in order of number (log entry 16), and
the drum at HEAT_STUCK in SERVICE (log entry 34). -/
def Obligations.SlowAndRoundConversions : Prop :=
  ∀ (code : Code) (s : State), s.boot ≠ .off →
    (∀ due ∈ s.mfe.slowDue, s.mfe.mode = .running →
      let u := s.moment due
      let ch := s.mfe.rotation
      ∃ t, exec (.slowConversion code) s = .next t ∧
        t.mfe.rotation = (match ch with | .tIn => .tExh | .tExh => .tHsg | .tHsg => .iHeat | _ => .tIn)
        ∧ (t.mfe.mode = .running → t.mfe.slowDue = some (u.clock + 250))
        ∧ (ch ∈ [Channel.tIn, .tExh, .tHsg, .iHeat] → t.mfe.lastPositive = s.mfe.lastPositive) ∧ u.conversionMade t ch code) ∧
    (∀ r ∈ s.mfe.round, ∀ ch ∈ r.outstanding.head?, s.mfe.mode = .onRequest →
      ∃ t, exec (.roundConversion code) s = .next t ∧
        (t.csq.phase = s.csq.phase → t.mfe.rotation = s.mfe.rotation ∧ t.mfe.slowDue = s.mfe.slowDue)
        ∧ t.mfe.lastPositive = (if ch = .g then !s.mfe.lastPositive else s.mfe.lastPositive) ∧ s.conversionMade t ch code)

/-- READ reports the named quantities in order with the freshness as it stood, marks each reported channel on the
requesting link alone, and changes nothing else; a bad list is refused. -/
def Obligations.ReadReply : Prop :=
  ∀ (l : Link) (qs : List Byte) (s : State), s.takesAtOnce l →
    ∃ t, exec (.read l qs) s = .next t ∧
      (if 1 ≤ qs.length ∧ qs.length ≤ 12 ∧ ∀ q ∈ qs, q.toNat < 12 then
        t.replyIs l 0x03 .ok (qs.flatMap fun q =>
          let c := s.mfe.channel (sixChannels.getD (q.toNat % 6) .tIn)
          [q, (c.freshness l).code] ++ (if q.toNat < 6 then int16 c.value else nat16 c.code.toNat) ++ wordBytes c.time)
        ∧ (∀ c ∈ sixChannels, t.mfe.channel c =
            if qs.any (fun q => q.toNat % 6 == c.code) ∧ (s.mfe.channel c).freshness l = .none
                ∨ qs.any (fun q => q.toNat % 6 == c.code) ∧ (s.mfe.channel c).freshness l = .fresh then
              (s.mfe.channel c).setFreshness l .stale
            else s.mfe.channel c)
        ∧ s.onlyReply t l
        ∧ t = { s with
            mfe := { s.mfe with tIn := t.mfe.tIn, tExh := t.mfe.tExh, tHsg := t.mfe.tHsg, iHeat := t.mfe.iHeat
                                g := t.mfe.g, iMot := t.mfe.iMot }
            csq := (s.reportFrame l).csq, linkA := t.linkA, linkS := t.linkS }
      else s.refused t l 0x03 .badArg)

/-- MEASURE: BUSY while a round is in progress, WRONG_PHASE while the front end runs, else a round of all six channels
begins for the link and its reply waits. -/
def Obligations.MeasureRequest : Prop :=
  ∀ (l : Link) (s : State), s.takesAtOnce l →
    ∃ t, exec (.measure l) s = .next t ∧
      (if s.mfe.round.isSome then s.refused t l 0x04 .busy
       else if s.mfe.mode = .running then s.refused t l 0x04 .wrongPhase
       else
        t.mfe = { s.mfe with round := some { link := l, outstanding := [.tIn, .tExh, .tHsg, .iHeat, .g, .iMot]
                                             wanted := true } }
          ∧ t.link l = { s.link l with inProgress := some .measure } ∧ t.link (otherLink l) = s.link (otherLink l)
          ∧ t = { s with mfe := t.mfe, csq := (s.reportFrame l).csq, linkA := t.linkA, linkS := t.linkS })

/-! ### Dryness estimator -/

/-- The end of a window: its index, M or Dw by its method; for a valid window the estimate, the streak and under BARS the
history and the remaining estimate; the last window contact count; and its WINDOW record with the causes that failed. That
a valid window updates no estimate in DECLARED is log entry 14, and that the record comes before a declaration's PHASE
record is log entry 10. -/
def Obligations.WindowEnd : Prop :=
  ∀ (s : State) (w : Window), s.boot ≠ .off → s.dry.window = some w → s.csq.phase = .drying → s.dry.history.length ≤ 8 →
    let u := s.moment (w.start + w.length)
    let valid : Bool := decide (u.windowValid w)
    let estimate := fun old new : Nat =>
      if valid then (match s.dry.estimate with
        | .settling => new
        | .tracking => (3 * old + new + 2) / 4
        | .declared => old) else old
    let streak := fun e limit : Nat =>
      if valid then (if e ≤ limit then min 255 (s.dry.streak + 1) else 0) else s.dry.streak
    ∃ t, exec .windowEnd s = .next t ∧
      (match w.method with
        | .bars =>
          t.dry.m = u.moisture w ∧ t.dry.dw = s.dry.dw ∧ t.dry.ds = s.dry.ds
            ∧ t.dry.s = estimate s.dry.s t.dry.m ∧ t.dry.streak = streak t.dry.s s.program.target
            ∧ t.dry.history = (if valid then lastEight s.dry.history t.dry.s else s.dry.history)
            ∧ t.dry.remaining = (if valid then remainingMinutes s.program.target w.length t.dry.s t.dry.history
                else s.dry.remaining)
        | .demand =>
          t.dry.dw = (if w.dCount = 0 then 0 else w.dSum / w.dCount) ∧ t.dry.m = s.dry.m ∧ t.dry.s = s.dry.s
            ∧ t.dry.ds = estimate s.dry.ds t.dry.dw ∧ t.dry.streak = streak t.dry.ds s.program.demandLimit
            ∧ t.dry.history = s.dry.history ∧ t.dry.remaining = s.dry.remaining)
      ∧ t.dry.lastN = w.n ∧ t.dry.method = s.dry.method ∧ t.dry.barShort = s.dry.barShort ∧ u.outerFrame t
      ∧ (valid = true ↔ u.failedCauses w = ⟨false, false, false, false, false, false⟩)
      ∧ (let record : Record := match w.method with
          | .bars => .window .bars valid (u.failedCauses w) t.dry.m t.dry.s t.dry.streak (min 255 w.n)
          | .demand => .window .demand valid (u.failedCauses w) t.dry.dw t.dry.ds t.dry.streak (min 255 w.n)
        u.producedFirst t record ∧ (s.noWatch → t.csq.phase = .drying → u.produced t record))

/-- Dryness is declared exactly at a valid window's end with the streak at K and the minimum drying time past:
notice DRY is pending on both links and drying ends for COOLING, whatever the watch units do with the window's values (log
entry 10). Otherwise a valid window takes SETTLING to TRACKING, and the next window starts. In DECLARED none does, which no
run reaches in DRYING (log entry 14). -/
def Obligations.WindowDeclares : Prop :=
  ∀ (s : State) (w : Window), s.boot ≠ .off → s.dry.window = some w → s.csq.phase = .drying →
    let u := s.moment (w.start + w.length)
    ∃ t, exec .windowEnd s = .next t ∧
      (if u.windowValid w ∧ (s.word 2 1).toNat ≤ t.dry.streak ∧ s.program.minDrying * 60 ≤ u.csq.dryingMs / 1000 then
        t.dry.estimate = .declared ∧ t.csq.record.endReason = some .dry ∧ t.dry.window = none ∧ t.heatOff
          ∧ (s.noHoldWatch → t.isCooling .dry)
          ∧ ∀ l : Link, Notice.dry (if t.dry.method = .bars then t.dry.s else t.dry.ds) t.dry.streak ∈ (t.link l).pending
       else
        t.dry.estimate = (if u.windowValid w ∧ s.dry.estimate = .settling then .tracking else s.dry.estimate)
          ∧ (s.noHoldWatch →
              t.csq = u.csq
                ∧ t.dry.window =
                    if s.dry.estimate = .declared then none
                    else some { method := t.dry.method, start := u.clock, length := (s.word 2 0).toNat
                                a := 0, sumG := 0, n := 0, turn := 0, dCount := 0, dSum := 0
                                burst := s.dmc.motion.inBurst }))

/-! ### Drum motion controller -/

/-- A revolution pulse in each motion state and phase: it starts the running, opens and closes revolutions with their REV
record, and in a rest that has stood 15 seconds it is the fault NOT_STOPPING. In SERVICE the stage tests are judged after
it, several in order of their number (log entry 16). A revolution that the tangle monitor scores is in TangleMonitor, a
pulse that completes PREP in PrepCompletes. -/
def Obligations.RevolutionPulse : Prop :=
  ∀ (s : State), s.boot ≠ .off → s.noWatch →
    let p : State := { s with dmc := { s.dmc with lastPulse := some s.clock, still := false } }
    let turns : Hsc := { s.hsc with turning := true, pauseDue := none, spent := false }
    ∃ t, exec .revolutionPulse s = .next t ∧
      t.dmc.lastPulse = some s.clock ∧ t.dmc.still = false ∧ s.outerFrame t
      ∧ (s.dmc.motion = .idle → p.testsJudged t)
      ∧ (∀ d : Dir, s.dmc.motion = .starting d → ¬(s.csq.phase = .prep ∧ s.hsc.airflow = .proven) →
          State.testsJudged { s with
            dmc := { s.pulseOpens with motion := .run d, turning := true }, hsc := turns
            csq := { s.csq with revSeen := s.csq.revSeen || s.csq.phase == .prep } } t)
      ∧ (∀ d : Dir, ∀ o ∈ s.dmc.revolution, s.dmc.history.length ≤ 8 →
          s.dmc.motion = .run d ∧ ¬(s.csq.phase = .drying ∧ s.program.tangleEnable = true)
            ∨ s.dmc.motion = .runOpp d ∧ s.dmc.turning = true →
          let r := s.closedRevolution o
          State.testsJudged { s.offerRecord (.rev r.time r.min r.max r.mean) with
            dmc := { s.pulseOpens with history := lastEight s.dmc.history r } } t)
      ∧ (∀ d : Dir, s.dmc.motion = .runOpp d → s.dmc.turning = false →
          State.testsJudged { s with dmc := { s.pulseOpens with turning := true }, hsc := turns } t)
      ∧ (s.dmc.motion = .rest ∨ s.dmc.motion = .restIn ∨ s.dmc.motion = .restOut →
          if s.dmc.restCheck = .awaitingPulse then
            (s.csq.phase ≠ .fault → t.faulted .notStopping s.csq.phase ∧ t.stopped)
              ∧ (∀ f ∈ s.csq.record.fault, s.csq.phase = .fault → t.faultedAgain f)
          else p.testsJudged t)

/-- The two events that can open the gate: the drum has been still for two seconds, and the rest minimum has passed.
Without a step, a burst or its end that waits for the gate, nothing of the drum changes; the heat stage controller changes
in neither event while the drum does not turn. The first also answers a waiting TAKE_CONTROL. -/
def Obligations.GateEvents : Prop :=
  ∀ (s : State), s.boot ≠ .off →
    (s.dmc.still = false →
      let u := s.moment (s.dmc.lastPulse.getD s.resetTime + 2000)
      let v := { u with dmc := { u.dmc with still := true } }
      ∃ t, exec .stillTimeout s = .next t ∧
        t.dmc.still = true ∧ v.gateJudged t
        ∧ (if s.csq.pendingTake then
            t.csq = { u.csq with pendingTake := false } ∧ t.linkA = s.linkA
              ∧ (s.linkS.resetting = false → t.replyIs .s 0x48 .ok [] ∧ t.linkS.inProgress = none)
           else t.csq = u.csq ∧ t.linkS = s.linkS)
        ∧ t = { u with dmc := t.dmc, tgm := t.tgm, hsc := t.hsc, csq := t.csq, linkS := t.linkS }) ∧
    (∀ due ∈ s.dmc.restMinDue,
      let u := s.moment due
      let v := { u with dmc := { u.dmc with restMinDue := none } }
      ∃ t, exec .restMinimumExpiry s = .next t ∧
        v.gateJudged t ∧ t = { u with dmc := t.dmc, tgm := t.tgm, hsc := t.hsc })

/-- A step's end begins the staged step and stages the one after it; the end of the burst time rests in REST_OUT. Where
the drum then rests, turning ends at the heat stage controller and the pause allowance begins. -/
def Obligations.StepsAndBurstTime : Prop :=
  ∀ (s : State), s.boot ≠ .off →
    (∀ n ∈ s.dmc.remaining, ∀ steps ∈ s.dmc.pattern, ∀ k ∈ s.dmc.staged, ∀ st ∈ steps[k]?,
      let u := s.elapse n
      let c : CurrentStep := { index := some k, step := st, waiting := false }
      ∃ t, exec .stepEnd s = .next t ∧
        t.dmc.staged = some (if k + 1 < steps.length then k + 1 else 0)
        ∧ t.dmc.pattern = some steps
        ∧ (st.action.dir = none →
            t.dmc.motion = .rest ∧ t.dmc.current = some c ∧ t.dmc.remaining = some (1000 * st.duration))
        ∧ (∀ d ∈ st.action.dir,
            if u.gateIsOpen d then
              t.dmc.current = some c ∧ t.dmc.remaining = some (1000 * st.duration)
                ∧ if s.dmc.motion = .starting d ∨ s.dmc.motion = .run d then
                    t.dmc = { u.dmc with current := some c, remaining := t.dmc.remaining, staged := t.dmc.staged
                                         speed := st.speed }
                  else t.startsDriving d st.speed
            else t.dmc.motion = .rest ∧ t.dmc.current = some { c with waiting := true } ∧ t.dmc.remaining = none)
        ∧ (t.dmc.motion = .rest → s.dmc.motion.driven.isSome = true → u.restsFromNow t ∧ t.dmc.history = [])
        ∧ (s.dmc.motion = .rest → t.dmc.motion = .rest →
            t.dmc = { u.dmc with current := t.dmc.current, remaining := t.dmc.remaining, staged := t.dmc.staged })
        ∧ u.turningFollowed t ∧ t = { u with dmc := t.dmc, hsc := t.hsc }) ∧
    (∀ due ∈ s.dmc.burstDue,
      let u := s.moment due
      ∃ t, exec .burstTimeExpiry s = .next t ∧
        t.dmc.motion = .restOut ∧ t.dmc.burstDue = none ∧ t.dmc.interrupted = s.dmc.interrupted
        ∧ t.dmc.history = s.dmc.history ∧ (s.dmc.motion.driven.isSome = true → u.restsFromNow t)
        ∧ u.turningFollowed t ∧ t = { u with dmc := t.dmc, hsc := t.hsc })

/-- The drum faults: STALL at its deadline, which is set again; NOT_STOPPING 15 seconds into a rest that is not still;
DRIVE at the inverter fault line's becoming active outside IDLE. A fault outside FAULT stops drum, fan and heat, and notice
FAULT tells both links; in FAULT it adds to the additional-fault count, and the notice is raised again. -/
def Obligations.DrumFaults : Prop :=
  ∀ (active : Bool) (s : State), s.boot ≠ .off →
    (∀ due ∈ s.dmc.stallDue,
      let u := s.moment due
      ∃ t, exec .stallDeadlineExpiry s = .next t ∧
        (s.csq.phase ≠ .fault → t.faulted .stall s.csq.phase ∧ t.stopped)
        ∧ (∀ f ∈ s.csq.record.fault, s.csq.phase = .fault →
            t.faultedAgain f ∧ t.dmc.stallDue = some (u.clock + s.dmc.stallLength)) ∧ u.outerFrame t) ∧
    (∀ due ∈ s.dmc.restCheck.due,
      let u := s.moment due
      ∃ t, exec .restCheckExpiry s = .next t ∧
        (if s.dmc.still = true then t = { u with dmc := { u.dmc with restCheck := .awaitingPulse } }
         else (s.csq.phase ≠ .fault → t.faulted .notStopping s.csq.phase ∧ t.stopped)
          ∧ (∀ f ∈ s.csq.record.fault, s.csq.phase = .fault → t.faultedAgain f)) ∧ u.outerFrame t) ∧
    (∃ t, exec (.ivfChange active) s = .next t ∧
      t.pins = { s.pins with ivf := active }
      ∧ (if active = true ∧ s.pins.ivf = false ∧ s.dmc.motion ≠ .idle then
          (s.csq.phase ≠ .fault → t.faulted .drive s.csq.phase ∧ t.stopped)
            ∧ (∀ f ∈ s.csq.record.fault, s.csq.phase = .fault → t.faultedAgain f)
         else t = { s with pins := t.pins }))

/-- No step of the machine drives the drum in another direction than the last one unless the outputs were off, the rest
minimum had passed and the drum was still. -/
def Obligations.ReversalNeedsStandstill : Prop :=
  ∀ (s t : State) (d : Dir), (∀ e ∈ s.dmc.motion.driven, s.dmc.lastDir = some e) → 0 < s.minRest →
    step s = .next t → t.dmc.motion.driven = some d → s.dmc.lastDir ≠ some d →
    s.dmc.motion.driven = none ∧ s.dmc.offTime + 1000 * s.dmc.restMin ≤ t.clock ∧ t.dmc.still = true

/-! ### Tangle monitor -/

/-- A revolution scored in DRYING: the counter moves by conditions A and B, and a suspected tangle brings a burst, or
past the maximum bursts the escalation to HOLD, each with its TANGLE record after the REV record; with no tangle suspected,
or with a request outstanding, the revolution enters the history and the next one opens. The re-check deadline ends the
chain and, outside a burst, lifts the tangle cap. That a request is taken within the scoring's own event, so that none is
outstanding after it, is the model's choice, log entry 38; that the TANGLE record comes before the PHASE record of HOLD is
log entry 10. -/
def Obligations.TangleMonitor : Prop :=
  ∀ (s : State) (d : Dir), s.boot ≠ .off → s.capFlagRight →
    (s.csq.phase = .drying → s.program.tangleEnable = true → s.dmc.motion = .run d → s.dmc.history.length ≤ 8 →
    s.noWatch → s.tgm.burst = false → ∀ o ∈ s.dmc.revolution, ∀ c ∈ s.dmc.current, ∀ k ∈ c.index, ∀ r ∈ s.dmc.remaining,
    let h := lastEight s.dmc.history (s.closedRevolution o)
    let ripple := (h.map fun x => x.max - x.min).sum / 8
    let a := h.length = 8 ∧ ripple < (s.word 2 2).toNat
    let b := s.dry.lastN < (s.word 2 3).toNat ∧ s.program.target + (s.word 2 4).toNat < s.dry.s ∧ s.dry.method = .bars
    let count := if a ∧ b then min 255 (s.tgm.c + 1) else s.tgm.c - 1
    let chain := if s.tgm.recheck.isSome then s.tgm.b + 1 else 1
    let rev := let r := s.closedRevolution o; Record.rev r.time r.min r.max r.mean
    let tangle := fun escalation : Bool => Record.tangle escalation chain ripple (min 255 s.dry.lastN) s.dry.s
    ∃ t, exec .revolutionPulse s = .next t ∧ s.outerFrame t ∧
      if count < (s.word 2 5).toNat ∨ s.tgm.outstanding = true then
        t = { s.offerRecord rev with dmc := { s.pulseOpens with history := h }, tgm := { s.tgm with c := count } }
      else if chain ≤ (s.word 2 7).toNat then
        t.tgm = { c := 0, b := chain, recheck := none, burst := true, outstanding := false, capFlag := true }
          ∧ t.dmc.motion = .restIn ∧ s.restsFromNow t ∧ t.dmc.history = [] ∧ t.dmc.current = none
          ∧ t.dmc.interrupted = some { index := k, step := c.step, dir := d, speed := s.dmc.speed, remaining := r }
          ∧ t.hsc.tangleCap = 1 ∧ s.turningFollowed t
          ∧ (s.withinCap → (s.dmc.turning = true → s.word 3 18 ≠ 0) → s.shedsTo t)
          ∧ t.dry.window = s.dry.window.map (fun w => { w with burst := true })
          ∧ t.csq = { s.csq with record := { s.csq.record with bursts := min 255 (s.csq.record.bursts + 1) } }
          ∧ (s.offerRecord rev).produced t (tangle false)
      else
        t.tgm = { c := 0, b := 0, recheck := none, burst := false, outstanding := false, capFlag := false }
          ∧ t.hsc.tangleCap = 4 ∧ t.holdsFor .tangle (some .drying) ∧ t.dry.window = none ∧ s.turningFollowed t
          ∧ t.csq.record.tangleHolds = min 255 (s.csq.record.tangleHolds + 1)
          ∧ (s.offerRecord rev).producedFirst t (tangle true)
          ∧ ∀ l : Link, Notice.tangle chain ∈ (t.link l).pending) ∧
    (∀ due ∈ s.tgm.recheck,
      let u := s.moment due
      ∃ t, exec .recheckDeadlineExpiry s = .next t ∧
        t.tgm = { s.tgm with recheck := none, b := 0, capFlag := s.tgm.burst }
        ∧ t.hsc.tangleCap = (if s.tgm.burst then 1 else 4) ∧ t = { u with tgm := t.tgm, hsc := t.hsc }
        ∧ (s.withinCap → s.csq.phase ≠ .service → t.hsc = { u.hsc with tangleCap := if s.tgm.burst then 1 else 4 }))

/-! ### Heat stage controller -/

/-- The demand of a control period, the stages it calls for, the D value of a DEMAND window, the inlet cap, and the HEAT
record; with T_exh in DIAG demand and stages called for stand. What a test that fails at the period brings first is in
OpenElementJudged. Of a late period the next counts from now: the model's choice, log entry 2. -/
def Obligations.ControlPeriodDemand : Prop :=
  ∀ (s : State), s.boot ≠ .off → s.csq.phase = .drying → s.noHoldWatch → s.nAvailable ≠ 0 → s.withinCap → s.testsPass →
    ∀ due ∈ s.hsc.periodDue,
    let u := s.moment due
    let e : Int := max (-500) (min 500 ((s.program.setpoint : Int) - s.mfe.tExh.value))
    let p : Int := Int.tdiv (((s.word 3 12).toNat : Int) * e) 16
    let step : Int := Int.tdiv (((s.word 3 13).toNat : Int) * e) 64
    let cand : Int := max 0 (min 1000 ((s.hsc.i : Int) + step))
    let limit : Int := (s.word 3 16).toNat
    ∃ t, exec .controlPeriod s = .next t ∧
      t.hsc.periodDue = some (u.clock + 2000)
      ∧ (if s.mfe.tExh.diag then
          t.hsc.i = s.hsc.i ∧ t.hsc.d = s.hsc.d ∧ t.hsc.nReq = s.hsc.nReq ∧ t.dry = s.dry
         else
          (t.hsc.i : Int) = (if 1000 < p + cand ∧ 0 < step ∨ p + cand < 0 ∧ step < 0 then (s.hsc.i : Int) else cand)
            ∧ (t.hsc.d : Int) = max 0 (min 1000 (p + t.hsc.i))
            ∧ t.hsc.nReq = (t.hsc.d * s.nAvailable + 500) / 1000
            ∧ t.dry.window = s.dry.window.map (fun w =>
                if w.method = .demand then { w with dCount := w.dCount + 1, dSum := w.dSum + t.hsc.d } else w))
      ∧ t.hsc.inletCap = (if s.mfe.tIn.diag then 2 else if limit ≤ s.mfe.tIn.value then s.stagesOn - 1
          else if s.mfe.tIn.value < limit - 100 then min 4 (s.hsc.inletCap + 1) else s.hsc.inletCap)
      ∧ (s.noWatch → u.produced t (.heat t.hsc.d t.onSet t.effectiveCap s.mfe.tExh.value))
      ∧ t = { u with hsc := t.hsc, dry := t.dry, cap := t.cap, linkA := t.linkA, linkS := t.linkS }

/-- The switching of a control period. Stages above the effective cap go off, the most worn ones, without regard to
min_on. Of those then on, stages above the target go off, most worn first, that have been on for min_on. Below the target
at most one stage comes on, the least worn one that may, with its open-element test armed, and none while a test waits for
its reading. -/
def Obligations.ControlPeriodSwitching : Prop :=
  ∀ (s : State), s.boot ≠ .off → s.csq.phase = .drying → s.noHoldWatch → s.nAvailable ≠ 0 → s.withinCap → s.testsPass →
    ∀ due ∈ s.hsc.periodDue,
    let u := s.moment due
    ∃ t, exec .controlPeriod s = .next t ∧
      let target := min t.hsc.nReq t.effectiveCap
      let above := s.stagesOn - t.effectiveCap
      let stays := fun n : StageNo => (s.stage n).on = true ∧ above ≤ s.wearRank n
      let mayGo := fun n : StageNo => 1000 * (s.word 3 14).toNat ≤ u.clock - (s.stage n).switchTime
      let goneBefore := fun n : StageNo =>
        ([0, 1, 2, 3] : List StageNo).countP fun m => decide (stays m ∧ mayGo m ∧ s.moreWorn m n)
      let mayCome := fun n : StageNo => s.available n = true ∧ (s.stage n).on = false ∧
        ((s.stage n).offWaived = true ∨ 1000 * (s.word 3 15).toNat ≤ u.clock - (s.stage n).switchTime)
      let unread := ∃ n : StageNo, ∃ x ∈ (s.stage n).test, x.after = none
      t.stagesOn ≤ t.effectiveCap
      ∧ (∀ n : StageNo, (s.stage n).on = true →
          ((t.stage n).on = false ↔
            s.wearRank n < above ∨ mayGo n ∧ goneBefore n < min s.stagesOn t.effectiveCap - target))
      ∧ (∀ n : StageNo, (s.stage n).on = false → (t.stage n).on = true →
          mayCome n ∧ s.stagesOn < target ∧ s.interlocked = false ∧ s.hsc.turning = true ∧ ¬unread
            ∧ t.stage n = { u.stage n with
                on := true, switchTime := u.clock, offWaived := false
                test := some { baseline := s.mfe.iHeat.value, after := none } }
            ∧ (∀ m : StageNo, mayCome m → m ≠ n →
                (s.stage n).onTime < (s.stage m).onTime ∨ (s.stage n).onTime = (s.stage m).onTime ∧ n < m)
            ∧ ∀ m : StageNo, m ≠ n → (t.stage m).on = (s.stage m).on)
      ∧ (s.stagesOn < target → s.interlocked = false → s.hsc.turning = true → ¬unread → (∃ n : StageNo, mayCome n) →
          ∃ n : StageNo, (s.stage n).on = false ∧ (t.stage n).on = true)

/-- A pending open-element test with its reading is judged first at the period. A passed test is removed, and the period
goes on as without it. A rise below half the expected current marks the stage OPEN and switches it off, and STAGE is
pending on both links: the period goes on as from there, also where a lack of stages ends drying (log entry 28).
The remainder of a stage that goes off stands (log entry 40). -/
def Obligations.OpenElementJudged : Prop :=
  ∀ (s : State) (n : StageNo), s.boot ≠ .off → s.csq.phase = .drying →
    (∀ m : StageNo, m ≠ n → (s.stage m).test = none) → s.withinCap →
    ∀ test ∈ (s.stage n).test, ∀ after ∈ test.after, ∀ due ∈ s.hsc.periodDue,
    let u := s.moment due
    ∃ t, exec .controlPeriod s = .next t ∧
      (if (((s.word 3 (8 + n.val)).toNat / 2 : Nat) : Int) ≤ after - test.baseline then
        (t.stage n).openMark = (s.stage n).openMark
          ∧ exec .controlPeriod (s.setStage n { s.stage n with test := none }) = .next t
       else
        (t.stage n).openMark = true ∧ (t.stage n).on = false ∧ (t.stage n).test = none
          ∧ (∀ l : Link, Notice.stage (n.val + 1) false 0 ∈ (t.link l).pending)
          ∧ (s.noHoldWatch → (∀ m : StageNo, m ≠ n → s.available m = false) → t.isCooling .noHeat)
          ∧ ((s.stage n).on = true →
              let off := u.goesOff n
              let marked := off.setStage n { off.stage n with openMark := true }
              exec .controlPeriod ((marked.notify .a (.stage (n.val + 1) false 0)).notify .s (.stage (n.val + 1) false 0))
                = .next t))

/-- A second of a stage's output counts in its on-time and, outside SERVICE, in the cycle energy; a whole second of
DRYING is numbered. -/
def Obligations.SecondsCounted : Prop :=
  ∀ (s : State) (n : StageNo), s.boot ≠ .off →
    ((s.stage n).on = true →
      let u := s.elapse (1000 - (s.stage n).rem)
      ∃ t, exec (.onTimeSecond n) s = .next t ∧
        t.stage n = { u.stage n with
          onTime := min 4294967295 ((s.stage n).onTime + 1)
          rem := (u.stage n).rem - 1000 }
        ∧ (∀ m : StageNo, m ≠ n → t.stage m = u.stage m)
        ∧ t.hsc.energy = (if s.csq.phase = .service then s.hsc.energy
            else min 4294967295 (s.hsc.energy + (s.word 3 (4 + n.val)).toNat))
        ∧ t = { u with hsc := { u.hsc with stages := t.hsc.stages, energy := t.hsc.energy } }) ∧
    (s.csq.phase = .drying → s.noWatch →
      let u := s.elapse ((s.csq.dryingSeconds + 1) * 1000 - s.csq.dryingMs)
      ∃ t, exec .dryingElapsedSecond s = .next t ∧
        t = { u with csq := { u.csq with dryingSeconds := u.csq.dryingMs / 1000 } })

/-- The heat controller's deadlines: the pause allowance sheds, the after-run stops the fan, the proof and grace
deadlines are the fault AIRFLOW while the air is not proven. That the airflow state stays OFF after that fault, whatever
the switch then does, is log entry 39. -/
def Obligations.HeatDeadlines : Prop :=
  ∀ (s : State), s.boot ≠ .off →
    (∀ due ∈ s.hsc.pauseDue,
      ∃ t, exec .pauseAllowanceExpiry s = .next t ∧
        t.hsc.pauseDue = none ∧ t.hsc.spent = true ∧ (s.hsc.turning = false → t.heatOff)
          ∧ t = { s.moment due with hsc := t.hsc }) ∧
    (∀ due ∈ s.hsc.afterRun,
      ∃ t, exec .afterRunExpiry s = .next t ∧
        t.hsc.fanOn = false ∧ t.hsc.fanDemand = false ∧ t.hsc.afterRun = none ∧ t.hsc.airflow = .off
          ∧ t.hsc.proofDue = none ∧ t.hsc.graceDue = none ∧ t.heatOff ∧ t = { s.moment due with hsc := t.hsc }) ∧
    (∀ due ∈ s.hsc.proofDue,
      let u := s.moment due
      ∃ t, exec .proofDeadlineExpiry s = .next t ∧
        if s.csq.phase = .prep ∧ s.hsc.airflow = .proving then t.faulted .airflow .prep ∧ t.stopped ∧ u.outerFrame t
        else t = { u with hsc := { u.hsc with proofDue := none } }) ∧
    (∀ due ∈ s.hsc.graceDue,
      let u := s.moment due
      ∃ t, exec .graceDeadlineExpiry s = .next t ∧
        if s.hsc.airflow = .lost then
          u.outerFrame t ∧ (s.csq.phase ≠ .fault → t.faulted .airflow s.csq.phase ∧ t.stopped)
            ∧ ∀ f ∈ s.csq.record.fault, s.csq.phase = .fault → t.faultedAgain f
        else t = { u with hsc := { u.hsc with graceDue := none } })

/-- The airflow switch against the airflow state in every phase, but for a closing that can complete PREP (PrepCompletes).
In SERVICE the stage tests are judged after it, several in order of their number (log entry 16). That a command acts as an
edge whatever level the pin had is the model's choice, log entry 19, and that OFF stays OFF also right after a fault
AIRFLOW is log entry 39. -/
def Obligations.AirflowSwitch : Prop :=
  ∀ (closed : Bool) (s : State), s.boot ≠ .off →
    ¬(s.csq.phase = .prep ∧ s.csq.revSeen = true ∧ closed = true ∧ s.hsc.airflow ≠ .off) →
    let p : State := { s with pins := { s.pins with afsClosed := closed } }
    ∃ t, exec (.airflowSwitchChange closed) s = .next t ∧
      match s.hsc.airflow, closed with
      | .proving, true =>
          State.testsJudged { p with hsc := { s.hsc with airflow := .proven, proofDue := none } } t
      | .lost, true =>
          State.testsJudged { p with hsc := { s.hsc with airflow := .proven, graceDue := none } } t
      | .proven, false =>
          t.hsc.airflow = .lost ∧ t.heatOff
            ∧ t.hsc.graceDue = (if s.csq.phase = .prep ∨ s.csq.phase = .drying ∨ s.csq.phase = .cooling ∨ s.csq.phase = .guard
                then some (s.clock + 30000) else s.hsc.graceDue)
            ∧ t = { p with hsc := { s.hsc with
                airflow := .lost, graceDue := t.hsc.graceDue, stages := t.hsc.stages, lastOn := t.hsc.lastOn } }
      | _, _ => p.testsJudged t

/-- A stage test waits for min_off, with the drum turning, before it comes on and for min_on before it goes off. Either
end judges the stage tests, several in order of their number (log entry 16); a stage that goes off drops the unread tests
of the others, and keeps its remainder, also at a full second not yet counted (log entry 40). -/
def Obligations.TestStageTimers : Prop :=
  ∀ (s : State) (n : StageNo), s.boot ≠ .off → s.csq.phase = .service →
    ((s.stage n).testDemand = true → (s.stage n).on = false →
      let u := s.moment ((s.stage n).switchTime + 1000 * (s.word 3 15).toNat)
      let may := s.available n = true ∧ s.hsc.turning = true ∧ s.interlocked = false ∧ (∀ m : StageNo, (s.stage m).test = none)
        ∧ s.stagesOn < s.effectiveCap
      ∃ t, exec (.testStageMinOffExpiry n) s = .next t ∧
        u.testsJudged t
        ∧ (may → (∀ m : StageNo, m ≠ n → (s.stage m).testDemand = false) →
          t.stage n = { u.stage n with on := true, switchTime := u.clock, offWaived := false
                                       test := some { baseline := s.mfe.iHeat.value, after := none } })
        ∧ (¬may → t.stage n = u.stage n) ∧ t = { u with hsc := t.hsc }) ∧
    ((s.stage n).testDemand = false → (s.stage n).on = true →
      let u := s.moment ((s.stage n).switchTime + 1000 * (s.word 3 14).toNat)
      ∃ t, exec (.testStageMinOnExpiry n) s = .next t ∧
        (u.goesOff n).testsJudged t
        ∧ t.stage n = { u.stage n with on := false, switchTime := u.clock, offWaived := false, test := none }
        ∧ t = { u with hsc := t.hsc })

/-! ### Cycle sequencer -/

/-- A phase change: the fan demand of the phase entered, with the after-run when a stage was on within 60,000 ms of its
end; the turning report of a drum that stops; the wear save of an entry into DONE; notice PHASE on both links; and the
PHASE record, after the CONTACT record of a contact that the front end's leaving of RUNNING ends, with the captures that
start before it and end after it. That a stage off for exactly 60,000 ms counts is the model's choice, log entry 23, and
that the blocks follow before the record is log entry 11. -/
def Obligations.PhaseChangeReported : Prop :=
  ∀ (s : State) (entered : Phase) (cause : Cause),
    let t := s.changePhase entered cause
    let leaves : Bool := entered == .idle || entered == .done
    let before := match leaves, s.dry.contact with
      | true, some c => s.offerRecord (.contact (min 65535 (c.lastAbove + 1)) c.peak (c.sum / c.count))
      | _, _ => s
    let o := before.offeredOn (.phaseEntry entered) (.phase s.csq.phase entered cause s.csq.reasons)
    t.hasEntered entered cause
      ∧ (match entered with
        | .prep | .drying | .cooling | .guard => t.fanRuns
        | .hold | .done | .idle => s.fanEnds t
        | .fault => if s.csq.record.fault.map (·.kind) = some .heatStuck then t.fanRuns else t.fanIsOff
        | .service => s.fanStands t)
      ∧ s.turningFollowed t
      ∧ (if entered = .done then s.savesWear t else t.sst = s.sst)
      ∧ before.endsAround o t (.phaseExit s.csq.phase) .phase
      ∧ (∀ l : Link, (s.link l).posted = [] →
          (t.link l).ring = (o.link l).ring ∧ (t.link l).seq = (o.link l).seq ∧ (t.link l).posted = [])

/-- PREP completes at the later of the airflow's proof, first or again after a loss, and the drum's first revolution, and
its target is entered (no burst is in progress in PREP: DrumAndTangleKept); a latched lockout or a lack of stages ends
drying at once. That the lockout is judged before the lack of stages is the model's choice, log entry 13. -/
def Obligations.PrepCompletes : Prop :=
  ∀ (s : State) (c : Instr), s.boot ≠ .off → s.csq.phase = .prep → s.mfe.mode = .running →
    s.dmc.motion.inBurst = false → ∀ p ∈ s.csq.prepTarget, p = .drying ∨ p = .cooling →
    (c = .airflowSwitchChange true ∧ (s.hsc.airflow = .proving ∨ s.hsc.airflow = .lost) ∧ s.csq.revSeen = true
      ∨ c = .revolutionPulse ∧ s.hsc.airflow = .proven ∧ (s.dmc.motion = .starting .fwd ∨ s.dmc.motion = .starting .rev)) →
    ∃ t, exec c s = .next t ∧
      t.csq.prepTarget = none ∧ t.csq.revSeen = false ∧ t.csq.record.held = none
      ∧ (p = .cooling → t.hasEntered .cooling .prepComplete ∧ t.dmc.pattern = s.dmc.pattern)
      ∧ (p = .drying →
          if s.hsc.lockout then t.isCooling .overheat
          else if s.nAvailable = 0 then t.isCooling .noHeat
          else
            t.hasEntered .drying .prepComplete ∧ t.hsc.periodDue = some (s.clock + 2000) ∧ t.dmc.pattern = s.dmc.pattern
              ∧ t.dry.window = some { method := s.dry.method, start := s.clock, length := (s.word 2 0).toNat
                                      a := 0, sumG := 0, n := 0, turn := 0, dCount := 0, dSum := 0
                                      burst := false })

/-- The door and the cutoff loop. The door's opening sheds the heat and acts by phase: HOLD with reason DOOR, which joins
in HOLD with its notice, the end of GUARD for DONE, DONE for IDLE, the end of a drum test; where the drum stops, turning
ends at the heat stage controller. The loop's opening sheds the heat and is the fault CUTOFF_OPEN in any phase. Their
closing clears their interlocks, and in SERVICE the stage tests are judged after it, several in order of their number (log
entry 16). That a pin command acts as an edge whatever level the pin had is the model's choice, log entry 19. -/
def Obligations.DoorAndCutoff : Prop :=
  ∀ (s : State), s.boot ≠ .off →
    (∃ t, exec .doorOpens s = .next t ∧
      t.pins = { s.pins with doorOpen := true } ∧ t.heatOff
      ∧ (match s.csq.phase with
        | .prep => t.holdsFor .door s.csq.prepTarget
        | .drying => t.holdsFor .door (some .drying) ∧ t.dry.window = none
        | .cooling => t.holdsFor .door (some .cooling)
        | .hold => s.joinsHold t .door ∧ t = { s with pins := t.pins, hsc := t.hsc, csq := t.csq, linkA := t.linkA, linkS := t.linkS }
        | .guard => s.isDone t (.held .door) ∧ t.csq.record.endReason = s.csq.record.endReason
        | .done => t.hasEntered .idle (.held .door) ∧ t.csq.record = s.csq.record ∧ t.csq.program = s.csq.program
        | .service => t.dmc.motion = .idle ∧ t.csq = { s.csq with drumTimer := none }
        | .idle | .fault => t = { s with pins := t.pins, hsc := t.hsc })
      ∧ s.turningFollowed t) ∧
    (∃ t, exec .cutoffOpens s = .next t ∧
      t.pins = { s.pins with cutOpen := true } ∧ t.heatOff
        ∧ (s.csq.phase ≠ .fault → t.faulted .cutoffOpen s.csq.phase ∧ t.stopped)
        ∧ (∀ f ∈ s.csq.record.fault, s.csq.phase = .fault → t.faultedAgain f)) ∧
    (∃ t, exec .cutoffCloses s = .next t ∧ State.testsJudged { s with pins := { s.pins with cutOpen := false } } t) ∧
    (∃ t, exec .doorCloses s = .next t ∧ State.testsJudged { s with pins := { s.pins with doorOpen := false } } t)

/-- The limits of the phases: maximum drying time, maximum cooling time, guard time and the HOLD limit. -/
def Obligations.PhaseLimits : Prop :=
  ∀ (s : State), s.boot ≠ .off →
    (s.csq.phase = .drying →
      ∃ t, exec .timeLimit s = .next t ∧
        t.isCooling .timeLimit ∧ (s.elapse (60000 * s.program.maxDrying - s.csq.dryingMs)).outerFrame t) ∧
    (s.csq.phase = .cooling →
      ∃ t, exec .coolTime s = .next t ∧
        (if 0 < s.program.guardTime then
          t.hasEntered .guard .coolTime ∧ t.csq.guardMs = 0 ∧ t.heatOff ∧ t.dmc.pattern = some (t.patternSteps s.program.guardPattern)
         else s.isDone t .coolTime)
        ∧ t.csq.record.endReason = s.csq.record.endReason
        ∧ (s.elapse (60000 * s.program.maxCooling - s.csq.coolingMs)).outerFrame t) ∧
    (s.csq.phase = .guard →
      ∃ t, exec .guardTime s = .next t ∧
        s.isDone t .guardTime ∧ t.csq.record.endReason = s.csq.record.endReason
        ∧ (s.elapse (60000 * s.program.guardTime - s.csq.guardMs)).outerFrame t) ∧
    (∀ due ∈ s.csq.holdDue, s.csq.phase = .hold →
      ∃ t, exec .holdLimitExpiry s = .next t ∧
        s.isDone t (.ended .holdExpired) ∧ t.csq.record.endReason = some .holdExpired ∧ (s.moment due).outerFrame t)

/-- The links' silences and the test timers: supervision holds the cycle or ends GUARD, silence on the S-link releases
manual control, and a test timer ends its actuator's demand. The model's choices: stages under test come on in order of
number (log entry 16), and a stage off for exactly 60,000 ms counts for the after-run (log entry 23).
The remainder of a stage that goes off stands (log entry 40). -/
def Obligations.LinkAndTestTimers : Prop :=
  ∀ (s : State) (a : Actuator), s.boot ≠ .off →
    (∀ due ∈ s.csq.supervisionDue,
      ∃ t, exec .supervisionExpiry s = .next t ∧
        (s.csq.phase = .prep → t.holdsFor .link s.csq.prepTarget) ∧ (s.csq.phase = .drying → t.holdsFor .link (some .drying))
          ∧ (s.csq.phase = .cooling → t.holdsFor .link (some .cooling))
          ∧ (s.csq.phase = .guard → s.isDone t (.held .link) ∧ t.csq.record.endReason = s.csq.record.endReason)
          ∧ (s.moment due).outerFrame t) ∧
    (∀ due ∈ s.csq.silenceDue, s.csq.phase = .service →
      ∃ t, exec .silenceExpiry s = .next t ∧
        t.released .silence ∧ (s.csq.pendingTake = true → s.linkS.resetting = false → t.replyIs .s 0x48 .wrongPhase [])
          ∧ (s.moment due).outerFrame t) ∧
    (∀ due ∈ s.csq.timer a, s.csq.phase = .service →
      let u := s.moment due
      ∃ t, exec (.testTimerExpiry a) s = .next t ∧
        t.csq = u.csq.setTimer a none
        ∧ (match a with
          | .stage n =>
              State.testsJudged { u.demandEnds n with csq := t.csq } t
                ∧ ((s.stage n).on = true → ((t.stage n).on = false ↔ 1000 * (s.word 3 14).toNat ≤ u.clock - (s.stage n).switchTime))
          | .fan => u.fanEnds t
          | .drum => t.dmc.motion = .idle ∧ t.dmc.current = none)
        ∧ u.turningFollowed t
        ∧ t = { u with csq := t.csq, hsc := t.hsc, dmc := t.dmc })

/-- START judged by the conditions of R103 in order; accepted, it copies the program, opens a new cycle record, brings
estimator, tangle monitor and heat to their starting values and enters PREP, where an open cutoff loop, a diagnosed
sensor or an active inverter fault line is a fault at once (the order of the last is log entry 13). -/
def Obligations.StartRequest : Prop :=
  ∀ (l : Link) (n : Byte) (s : State), s.takesAtOnce l →
    let p := s.programAt n.toNat
    let empty := fun q : Nat => s.patternSteps q = []
    ∃ t, exec (.start l n) s = .next t ∧
      if l = .s then s.refused t l 0x15 .notOwner
      else if s.csq.phase = .service then s.refused t l 0x15 .controlledElsewhere
      else if s.csq.phase ≠ .idle ∧ s.csq.phase ≠ .done then s.refused t l 0x15 .wrongPhase
      else if 7 < n.toNat then s.refused t l 0x15 .badArg
      else if ∃ b : Fin 5, s.sst.invalid.get (b.val + 1) = true then s.refused t l 0x15 .configInvalid
      else if empty p.dryingPattern ∨ empty p.coolingPattern ∨ 0 < p.guardTime ∧ empty p.guardPattern then
        s.refused t l 0x15 .badArg
      else if s.pins.doorOpen then s.refused t l 0x15 .interlock
      else
        t.replyIs l 0x15 .ok [] ∧ t.csq.program = some p
          ∧ (t.csq.record.program = some n.toNat ∧ t.csq.record.startLink = .a ∧ t.csq.record.startStamp = s.refTime
            ∧ t.csq.record.held = none ∧ t.csq.record.endReason = none ∧ t.csq.record.bursts = 0
            ∧ t.csq.record.tangleHolds = 0 ∧ t.csq.dryingMs = 0 ∧ t.csq.coolingMs = 0)
          ∧ t.dry = { method := .bars, barShort := false, estimate := .settling, m := 0, s := 0, dw := 0, ds := 0
                      streak := 0, history := [], remaining := 255, lastN := 0, contact := s.dry.contact
                      window := s.dry.window }
          ∧ t.tgm = { c := 0, b := 0, recheck := none, burst := false, outstanding := false, capFlag := false }
          ∧ (t.hsc.d = 0 ∧ t.hsc.i = 0 ∧ t.hsc.energy = 0 ∧ t.hsc.inletCap = 4 ∧ t.hsc.tangleCap = 4
            ∧ t.hsc.lockout = false ∧ ∀ m : StageNo, (t.stage m).on = false ∧ (t.stage m).openMark = false
              ∧ (t.stage m).test = none ∧ (t.stage m).offWaived = true)
          ∧ (let sensor : Bool := s.mfe.tExh.diag || s.mfe.tHsg.diag
             let drive : Bool := s.pins.ivf && s.dmc.motion == .idle
             if s.pins.cutOpen then t.faulted .cutoffOpen .prep (sensor.toNat + drive.toNat)
             else if sensor then t.faulted .sensor .prep drive.toNat
             else if drive then t.faulted .drive .prep
             else
              t.hasEntered .prep .start ∧ t.csq.prepTarget = some .drying ∧ t.csq.revSeen = false ∧ t.csq.record.fault = none
                ∧ t.csq.supervisionDue = some (s.clock + 1000 * s.supervisionTime) ∧ t.mfe.mode = .running
                ∧ t.hsc.fanOn = true ∧ t.hsc.afterRun = none
                ∧ t.hsc.airflow = (if s.hsc.airflow = .proven then .proven else .proving)
                ∧ t.hsc.proofDue = (if s.hsc.airflow = .proven then none else some (s.clock + 10000))
                ∧ t.dmc.pattern = some (s.patternSteps p.dryingPattern))

/-- PAUSE, RESUME, ABORT, ADVANCE and CLEAR by link and phase, with the cause that each phase change carries. -/
def Obligations.CycleMessages : Prop :=
  ∀ (l : Link) (s : State), s.takesAtOnce l →
    (∃ t, exec (.pause l) s = .next t ∧
      match s.csq.phase with
      | .prep => t.holdsFor .paused s.csq.prepTarget ∧ t.replyIs l 0x10 .ok []
      | .drying => t.holdsFor .paused (some .drying) ∧ t.dry.window = none ∧ t.replyIs l 0x10 .ok []
      | .cooling => t.holdsFor .paused (some .cooling) ∧ t.replyIs l 0x10 .ok []
      | .hold => s.joinsHold t .paused ∧ t.replyIs l 0x10 .ok []
      | _ => s.refused t l 0x10 .wrongPhase) ∧
    (∃ t, exec (.resume l) s = .next t ∧
        if s.csq.phase ≠ .hold then s.refused t l 0x11 .wrongPhase
        else if s.pins.doorOpen ∨ s.pins.cutOpen ∨ s.pins.ivf ∨ s.mfe.tExh.diag ∨ s.mfe.tHsg.diag then
          s.refused t l 0x11 .interlock
        else ∀ p ∈ s.csq.record.held, p = .drying ∨ p = .cooling →
          t.hasEntered .prep .resume ∧ t.csq.prepTarget = some p ∧ t.csq.reasons = .empty ∧ t.csq.holdDue = none
            ∧ t.csq.supervisionDue = some (s.clock + 1000 * s.supervisionTime) ∧ t.csq.dryingMs = s.csq.dryingMs
            ∧ t.dmc.pattern = some (s.patternSteps
                (if p = .cooling then s.program.coolingPattern else s.program.dryingPattern))
            ∧ t.hsc.i = s.hsc.i ∧ t.replyIs l 0x11 .ok []) ∧
    (∃ t, exec (.abort l) s = .next t ∧
      match s.csq.phase with
      | .drying => t.isCooling .aborted ∧ t.replyIs l 0x12 .ok []
      | .prep | .cooling | .guard | .hold =>
          s.isDone t (.ended .aborted) ∧ t.csq.record.endReason = some .aborted ∧ t.replyIs l 0x12 .ok []
      | _ => s.refused t l 0x12 .wrongPhase) ∧
    (∃ t, exec (.advance l) s = .next t ∧
      if l = .s then s.refused t l 0x13 .notOwner
      else if s.csq.phase = .drying then t.isCooling .advanced ∧ t.replyIs l 0x13 .ok []
      else s.refused t l 0x13 .wrongPhase) ∧
    (∃ t, exec (.clear l) s = .next t ∧
      if s.csq.phase = .done then t.hasEntered .idle .clear ∧ t.csq.record = s.csq.record ∧ t.replyIs l 0x14 .ok []
      else if s.csq.phase = .fault then
        ∀ f ∈ s.csq.record.fault,
          let gone : Bool := match f.kind with
            | .cutoffOpen => !s.pins.cutOpen
            | .sensor => !(s.mfe.tExh.diag || s.mfe.tHsg.diag)
            | .airflow | .stall => true
            | .notStopping => s.dmc.still
            | .drive => !s.pins.ivf
            | .heatStuck => s.hsc.stuckArmed
          if gone = true ∧ s.pins.cutOpen = false then
            t.hasEntered .idle .clear ∧ t.csq.record = s.csq.record ∧ t.dmc.motion = .idle ∧ t.replyIs l 0x14 .ok []
          else s.refused t l 0x14 .interlock
      else s.refused t l 0x14 .wrongPhase)

/-- TAKE_CONTROL enters SERVICE for the S-link from IDLE, its reply waiting for the drum; RELEASE_CONTROL ends it. -/
def Obligations.ServiceControl : Prop :=
  ∀ (l : Link) (s : State), s.takesAtOnce l →
    (∃ t, exec (.takeControl l) s = .next t ∧
      if l = .a then s.refused t l 0x48 .notOwner
      else if s.csq.phase ≠ .idle then s.refused t l 0x48 .wrongPhase
      else
        t.hasEntered .service .takeControl ∧ t.csq.owner = some .s ∧ t.csq.silenceDue = some (s.clock + 30000)
          ∧ t.mfe.mode = .running ∧ t.hsc.lockout = false ∧ t.hsc.inletCap = 4
          ∧ (∀ n : StageNo, (t.stage n).openMark = false)
          ∧ (if s.dmc.still then t.replyIs l 0x48 .ok [] ∧ t.csq.pendingTake = s.csq.pendingTake
             else (t.link l).reply = none ∧ (t.link l).inProgress = some .takeControl ∧ t.csq.pendingTake = true)) ∧
    (∃ t, exec (.releaseControl l) s = .next t ∧
      if l = .a then s.refused t l 0x4A .notOwner
      else if s.csq.phase ≠ .service then s.refused t l 0x4A .wrongPhase
      else t.released .release ∧ t.replyIs l 0x4A .ok [])

/-- TEST: its refusals in the order of log entry 29, and each actuator's demand with its timer set to 120 seconds. A stage
whose conditions hold comes on at the TEST itself, and one past min_on goes off at once, the stage tests being judged after
either (several in order of their number, log entry 16); a fan demand of 0 brings the after-run, for which a stage off for
exactly 60,000 ms counts (log entry 23); a drum test that leaves
IDLE under an active inverter fault line is the fault DRIVE.
The remainder of a stage that goes off stands (log entry 40). -/
def Obligations.TestRequest : Prop :=
  ∀ (l : Link) (code demand speed : Byte) (s : State), s.takesAtOnce l →
    let csq := (s.reportFrame l).csq
    let due := some (s.clock + 120000)
    let made := fun (t : State) (c : Csq) =>
      t.csq = c ∧ t.replyIs l 0x49 .ok [] ∧ s.onlyReply t l
        ∧ t = { s with csq := c, hsc := t.hsc, dmc := t.dmc, linkA := t.linkA, linkS := t.linkS }
    ∃ t, exec (.test l code demand speed) s = .next t ∧
      if l = .a then s.refused t l 0x49 .notOwner
      else if s.csq.phase ≠ .service then s.refused t l 0x49 .wrongPhase
      else if h : 1 ≤ code.toNat ∧ code.toNat ≤ 4 then
        let n : StageNo := ⟨code.toNat - 1, by omega⟩
        if 1 < demand.toNat then s.refused t l 0x49 .badArg
        else if demand = 1 ∧ s.available n = false then s.refused t l 0x49 .interlock
        else
          let c := { csq with stageTimers := csq.stageTimers.set n due }
          let demanded := if demand = 1 then s.setStage n { s.stage n with testDemand := true } else s.demandEnds n
          made t c ∧ (t.stage n).testDemand = (demand == 1) ∧ t.dmc = s.dmc
            ∧ State.testsJudged { demanded with csq := c } { t with linkA := s.linkA, linkS := s.linkS }
      else if code = 5 then
        if 1 < demand.toNat then s.refused t l 0x49 .badArg
        else
          made t { csq with fanTimer := due } ∧ t.dmc = s.dmc
            ∧ (if demand = 1 then t.fanRuns ∧ t.hsc.airflow = (if s.hsc.airflow = .off then .proving else s.hsc.airflow)
               else s.fanEnds t)
      else if code = 6 then
        if 2 < demand.toNat ∨ demand ≠ 0 ∧ (speed.toNat < 20 ∨ 55 < speed.toNat) then s.refused t l 0x49 .badArg
        else if demand ≠ 0 ∧ s.pins.doorOpen then s.refused t l 0x49 .interlock
        else if s.pins.ivf = true ∧ s.dmc.motion = .idle then
          t.replyIs l 0x49 .ok [] ∧ t.faulted .drive .service ∧ t.stopped
        else
          let d : Dir := if demand = 1 then .fwd else .rev
          made t { csq with drumTimer := due } ∧ t.dmc.pattern = none ∧ t.dmc.staged = none ∧ t.dmc.remaining = none
            ∧ s.turningFollowed t
            ∧ (demand = 0 → t.dmc.motion = .rest ∧ t.dmc.current = none)
            ∧ (demand ≠ 0 →
                if s.gateIsOpen d then
                  if s.dmc.motion = .starting d ∨ s.dmc.motion = .run d then
                    t.dmc.motion = s.dmc.motion ∧ t.dmc.speed = speed.toNat
                  else t.startsDriving d speed.toNat
                else t.dmc.motion = .rest ∧ (t.dmc.current.map (·.waiting)) = some true)
      else s.refused t l 0x49 .badArg

/-! ### Capture pool -/

/-- Claims take the lowest FREE unit; a release returns the unit to FREE; the release of a link's last ARMED or RUNNING
capture unit fills its waiting blocks with END; and a released watch unit leaves no condition naming it. The checks on the
unit's number and owner come first. -/
def Obligations.ClaimAndRelease : Prop :=
  ∀ (l : Link) (b : Byte) (s : State), s.takesAtOnce l →
    let free : CaptureUnit := { owner := none, state := .free, config := none, position := 0, taken := 0, skipped := 0
                                endReason := none }
    let freed : WatchUnit := { owner := none, state := .free, settings := none, previous := none, blocked := false
                               hits := 0 }
    (∃ t, exec (.claimCapture l) s = .next t ∧
      ((∀ u : Fin 3, (s.unit u).state ≠ .free) → s.refused t l 0x30 .noResource)
      ∧ ∀ u : Fin 3, (s.unit u).state = .free → (∀ v : Fin 3, v < u → (s.unit v).state ≠ .free) →
          t.replyIs l 0x30 .ok [byteOf u.val] ∧ s.onlyReply t l
            ∧ t = { s.setUnit u { free with owner := some l, state := .claimed } with
                csq := (s.reportFrame l).csq, linkA := t.linkA, linkS := t.linkS }) ∧
    (∃ t, exec (.claimWatch l) s = .next t ∧
      ((∀ w : Fin 4, (s.watch w).state ≠ .free) → s.refused t l 0x38 .noResource)
      ∧ ∀ w : Fin 4, (s.watch w).state = .free → (∀ v : Fin 4, v < w → (s.watch v).state ≠ .free) →
          t.replyIs l 0x38 .ok [byteOf w.val] ∧ s.onlyReply t l
            ∧ t = { s.setWatch w { freed with owner := some l, state := .claimed } with
                csq := (s.reportFrame l).csq, linkA := t.linkA, linkS := t.linkS }) ∧
    (∃ t, exec (.releaseCapture l b) s = .next t ∧
      if h : b.toNat < 3 then
        let u : Fin 3 := ⟨b.toNat, h⟩
        if (s.unit u).state = .free ∨ (s.unit u).owner ≠ some l then s.refused t l 0x34 .notOwner
        else
          t.replyIs l 0x34 .ok (nat32 (s.unit u).taken ++ nat16 (s.unit u).skipped)
            ∧ (if (s.unit u).state = .armed ∨ (s.unit u).state = .running then
                (s.link l).right → t.settles l (s.link l).ring (s.link l).posted
               else s.onlyReply t l)
            ∧ t.link l = { s.link l with reply := (t.link l).reply, inProgress := none, ring := (t.link l).ring
                                         posted := (t.link l).posted }
            ∧ t.link (otherLink l) = s.link (otherLink l)
            ∧ t = { s.setUnit u free with csq := (s.reportFrame l).csq, linkA := t.linkA, linkS := t.linkS }
      else s.refused t l 0x34 .badArg) ∧
    (∃ t, exec (.releaseWatch l b) s = .next t ∧
      if h : b.toNat < 4 then
        let w : Fin 4 := ⟨b.toNat, h⟩
        let names := fun u : Fin 3 => ∃ c ∈ (s.unit u).config, c.start = .onWatch w ∨ c.stop = .onWatch w
        if (s.watch w).state = .free ∨ (s.watch w).owner ≠ some l then s.refused t l 0x3A .notOwner
        else if ∃ u : Fin 3, ((s.unit u).state = .armed ∨ (s.unit u).state = .running) ∧ names u then
          s.refused t l 0x3A .busy
        else
          t.replyIs l 0x3A .ok (nat16 (s.watch w).hits) ∧ s.onlyReply t l
            ∧ (∀ u : Fin 3, t.unit u = if names u then { s.unit u with config := none } else s.unit u)
            ∧ t = { s.setWatch w freed with
                cap := { (s.setWatch w freed).cap with units := t.cap.units }
                csq := (s.reportFrame l).csq, linkA := t.linkA, linkS := t.linkS }
      else s.refused t l 0x3A .badArg)

/-- CONFIGURE: the unit's checks, BUSY while it is armed or runs, the judgement of each argument, and the configuration
in effect in the reply. The model's choices: BUSY is judged before the arguments, so that a unit armed or running answers
BUSY even to a bad argument (log entry 36), and the zeros returned for arguments that a form does not use (log entry
27). -/
def Obligations.ConfigureRequest : Prop :=
  ∀ (l : Link) (b : Byte) (sources : Half) (sf sa ef : Byte) (ea : Half) (dec policy : Byte) (s : State),
    s.takesAtOnce l →
    let own := fun n : Nat => if h : n < 4 then
      (if (s.watch ⟨n, h⟩).state ≠ .free ∧ (s.watch ⟨n, h⟩).owner = some l then some (⟨n, h⟩ : Fin 4) else none) else none
    let start : Option StartCond :=
      if sf = 0 then some .immediate else if sf = 1 then (phaseOfCode sa.toNat).map .phaseEntry
      else if sf = 2 then (own sa.toNat).map .onWatch else none
    let stop : Option EndCond :=
      if ef = 0 then some .never else if ef = 1 then some (.count (max 1 ea.toNat))
      else if ef = 2 then (own ea.toNat).map .onWatch
      else if ef = 3 then (phaseOfCode ea.toNat).map .phaseExit else none
    let pol : Option RingPolicy := if policy = 0 then some .pause else if policy = 1 then some .stop else none
    let d := max 1 (min 64 dec.toNat)
    ∃ t, exec (.configure l b sources sf sa ef ea dec policy) s = .next t ∧
      if h : b.toNat < 3 then
        let u : Fin 3 := ⟨b.toNat, h⟩
        if (s.unit u).state = .free ∨ (s.unit u).owner ≠ some l then s.refused t l 0x31 .notOwner
        else if (s.unit u).state = .armed ∨ (s.unit u).state = .running then s.refused t l 0x31 .busy
        else if sources = 0 ∨ 256 ≤ sources.toNat ∨ start = none ∨ stop = none ∨ pol = none then
          s.refused t l 0x31 .badArg
        else
          (∀ st ∈ start, ∀ en ∈ stop, ∀ po ∈ pol,
            let cfg : CaptureConfig :=
              { sources := sources.extractLsb' 0 8, start := st, stop := en, decimation := d, policy := po }
            t = { s.setUnit u { s.unit u with config := some cfg } with
                  csq := (s.reportFrame l).csq, linkA := t.linkA, linkS := t.linkS })
            ∧ t.replyIs l 0x31 (if d = dec.toNat ∧ ¬(ef = 1 ∧ ea = 0) then .ok else .adjusted)
                (halfBytes sources ++ [sf, if sf = 0 then 0 else sa, ef]
                  ++ nat16 (if ef = 0 then 0 else if ef = 1 then max 1 ea.toNat else ea.toNat) ++ [byteOf d, policy])
            ∧ s.onlyReply t l
      else s.refused t l 0x31 .badArg

/-- ARM starts or arms a configured unit with its counts at 0; STOP_CAPTURE ends an armed or running one with notice
CAPTURE on its link, and when it was the link's last one, the waiting blocks are filled with END. -/
def Obligations.ArmAndStop : Prop :=
  ∀ (l : Link) (b : Byte) (s : State), s.takesAtOnce l →
    (∃ t, exec (.arm l b) s = .next t ∧
      if h : b.toNat < 3 then
        let u : Fin 3 := ⟨b.toNat, h⟩
        let x := s.unit u
        if x.state = .free ∨ x.owner ≠ some l then s.refused t l 0x32 .notOwner
        else if x.state = .armed ∨ x.state = .running then s.refused t l 0x32 .busy
        else if x.config = none then s.refused t l 0x32 .badArg
        else
          (∀ c ∈ x.config,
            let holds : Bool := match c.start with
              | .immediate => true
              | .phaseEntry p => p == s.csq.phase
              | .onWatch w => (s.watch w).state == .hit
            t.replyIs l 0x32 .ok [if holds then 3 else 2]
              ∧ t = { s.setUnit u { x with state := if holds then .running else .armed, position := 0, taken := 0
                                           skipped := 0, endReason := none } with
                      csq := (s.reportFrame l).csq, linkA := t.linkA, linkS := t.linkS })
            ∧ s.onlyReply t l
      else s.refused t l 0x32 .badArg) ∧
    (∃ t, exec (.stopCapture l b) s = .next t ∧
      if h : b.toNat < 3 then
        let u : Fin 3 := ⟨b.toNat, h⟩
        let x := s.unit u
        if x.state = .free ∨ x.owner ≠ some l then s.refused t l 0x33 .notOwner
        else if x.state = .armed ∨ x.state = .running then
          t.unit u = { x with state := .ended, endReason := some .stopped }
            ∧ Notice.capture u .stopped x.taken x.skipped ∈ (t.link l).pending
            ∧ t.replyIs l 0x33 .ok ([4] ++ nat32 x.taken ++ nat16 x.skipped ++ [5])
            ∧ ((s.link l).right → t.settles l (s.link l).ring (s.link l).posted)
            ∧ t.link l = { s.link l with reply := (t.link l).reply, inProgress := none, ring := (t.link l).ring
                                         posted := (t.link l).posted, pending := (t.link l).pending
                                         scheduled := (t.link l).scheduled }
            ∧ t.link (otherLink l) = s.link (otherLink l)
            ∧ t = { s.setUnit u (t.unit u) with csq := (s.reportFrame l).csq, linkA := t.linkA, linkS := t.linkS }
        else
          t.replyIs l 0x33 .ok ([x.state.code] ++ nat32 x.taken ++ nat16 x.skipped ++ [(match x.endReason with
            | none => 0 | some .count => 1 | some .watch => 2 | some .phase => 3 | some .ringFull => 4
            | some .stopped => 5 : Byte)])
            ∧ s.onlyReply t l ∧ s.onlyLinks t l
      else s.refused t l 0x33 .badArg)

/-- SET_WATCH: the unit's checks, unknown codes and HOLD from the S-link refused, limit and hysteresis clamped, and the
unit armed with no previous value and no blocked mark. -/
def Obligations.SetWatchRequest : Prop :=
  ∀ (l : Link) (b q sn : Byte) (limit : Word) (hyst : Half) (mode action : Byte) (s : State), s.takesAtOnce l →
    let lim : Int := max (-1000) (min 65535 limit.toInt)
    let hy := min 1000 hyst.toNat
    ∃ t, exec (.setWatch l b q sn limit hyst mode action) s = .next t ∧
      if h : b.toNat < 4 then
        let w : Fin 4 := ⟨b.toNat, h⟩
        if (s.watch w).state = .free ∨ (s.watch w).owner ≠ some l then s.refused t l 0x39 .notOwner
        else if 9 < q.toNat ∨ 1 < sn.toNat ∨ 1 < mode.toNat ∨ 2 < action.toNat ∨ action = 2 ∧ l = .s then
          s.refused t l 0x39 .badArg
        else
          (∀ c ∈ (t.watch w).settings,
            byteOf c.quantity.code = q ∧ c.sense.code = sn ∧ c.mode.code = mode ∧ c.action.code = action
              ∧ c.limit = lim ∧ c.hysteresis = hy)
            ∧ (t.watch w).settings.isSome = true
            ∧ t.watch w = { s.watch w with state := .armed, settings := (t.watch w).settings, previous := none
                                           blocked := false }
            ∧ t.replyIs l 0x39 (if lim = limit.toInt ∧ hy = hyst.toNat then .ok else .adjusted)
                ([q, sn] ++ wordBytes (wordOfInt lim) ++ nat16 hy ++ [mode, action])
            ∧ s.onlyReply t l
            ∧ t = { s.setWatch w (t.watch w) with csq := (s.reportFrame l).csq, linkA := t.linkA, linkS := t.linkS }
      else s.refused t l 0x39 .badArg

/-- A produced record offered to the units: decimation, taken and skip counts, the link sequence, the ring, the posted
blocks that its entry fills, and the ends RING_FULL and COUNT, each with its notice CAPTURE and, for a link's last unit,
the END filling. That units ended by RING_FULL end before those ended by COUNT is log entry 37. -/
def Obligations.RecordTaken : Prop :=
  ∀ (r : Record) (s : State), s.linkA.right → s.linkS.right →
    let t := s.offerRecord r
    let offered := fun u : Fin 3 =>
      (s.unit u).state == .running && (s.unit u).config.any fun c => c.sources.getLsbD r.kind.code
    let takes := fun (l : Link) (u : Fin 3) => offered u && (s.unit u).position == 0 && (s.unit u).owner == some l
    let ended := fun (l : Link) (u : Fin 3) =>
      (s.unit u).state = .running ∧ (s.unit u).owner = some l ∧ (t.unit u).state = .ended
    let endsBefore := fun v u : Fin 3 =>
      (t.unit v).endReason = some .ringFull ∧ (t.unit u).endReason = some .count
        ∨ (t.unit v).endReason = (t.unit u).endReason ∧ v < u
    (∀ l : Link,
      let lk := s.link l
      if takes l 0 || takes l 1 || takes l 2 then
        let units := BitVec.ofNat 8 ((takes l 0).toNat + 2 * (takes l 1).toNat + 4 * (takes l 2).toNat)
        let entry : RingEntry := { seq := lk.seq + 1, stamp := s.refTime, units := units, record := r }
        t.settles l (if lk.ring.length < 128 then lk.ring ++ [entry] else lk.ring) lk.posted
          ∧ t.link l = { lk with seq := lk.seq + 1, ring := (t.link l).ring, posted := (t.link l).posted
                                 pending := (t.link l).pending, scheduled := (t.link l).scheduled }
          ∧ (lk.ringRises → (∀ e ∈ lk.ring, (lk.seq - e.seq).toNat < 4294967295) → (t.link l).ringRises)
          ∧ (∀ u : Fin 3, ended l u → (∀ v : Fin 3, ended l v → v ≠ u → endsBefore v u) → ∀ x ∈ (t.unit u).endReason,
              Notice.capture u x (t.unit u).taken (t.unit u).skipped ∈ (t.link l).pending)
          ∧ (t.link l).pending.filter (fun n => n.code != 7) = lk.pending.filter (fun n => n.code != 7)
          ∧ ((∀ u : Fin 3, ¬ended l u) → (t.link l).pending = lk.pending ∧ (t.link l).scheduled = lk.scheduled)
      else t.link l = lk)
    ∧ (∀ u : Fin 3, ∀ c ∈ (s.unit u).config,
        let took := takes .a u || takes .s u
        let full := takes .a u && decide (128 ≤ s.linkA.ring.length) || takes .s u && decide (128 ≤ s.linkS.ring.length)
        let taken := if took then min 4294967295 ((s.unit u).taken + 1) else (s.unit u).taken
        let reached : Bool := match c.stop with
          | .count n => decide (n ≤ taken)
          | _ => false
        (t.unit u).position = (if offered u then (if (s.unit u).position + 1 < c.decimation then (s.unit u).position + 1 else 0)
            else (s.unit u).position)
          ∧ (t.unit u).taken = taken
          ∧ (t.unit u).skipped = (if full = true ∧ c.policy = .pause then min 65535 ((s.unit u).skipped + 1)
              else (s.unit u).skipped)
          ∧ (t.unit u).config = (s.unit u).config ∧ (t.unit u).owner = (s.unit u).owner
          ∧ (if full = true ∧ c.policy = .stop then (t.unit u).state = .ended ∧ (t.unit u).endReason = some .ringFull
             else if took && reached then
              (t.unit u).state = .ended ∧ (t.unit u).endReason = some .count
             else (t.unit u).state = (s.unit u).state ∧ (t.unit u).endReason = (s.unit u).endReason))
    ∧ t = { s with cap := { s.cap with units := t.cap.units }, linkA := t.linkA, linkS := t.linkS }

/-- A value offered to a watch unit: what is a hit, what it does to the unit, its WATCH record with the captures that
start before and end after it, and the notice and the HOLD of its action in each phase. -/
def Obligations.WatchJudged : Prop :=
  ∀ (w : Fin 4) (v : Int) (s : State), (s.watch w).state = .armed → ∀ c ∈ (s.watch w).settings,
    let x := s.watch w
    let t := s.offerTo c.quantity v w
    let hit := s.setWatch w (x.seen c v)
    (∀ m : Fin 4, m ≠ w → t.watch m = s.watch m) ∧ t.watch w = x.seen c v
    ∧ if x.hitBy c v = true then
        let o := hit.offeredOn (.onWatch w) (.watch w c.quantity v c.limit (min 65535 (x.hits + 1)))
        (c.action ≠ .none → ∀ l ∈ x.owner, Notice.watch w v ∈ (t.link l).pending)
        ∧ (∀ l : Link, (s.link l).posted = [] → (o.link l).ring <+: (t.link l).ring)
        ∧ (if c.action = .hold ∧ (s.csq.phase = .prep ∨ s.csq.phase = .drying ∨ s.csq.phase = .cooling ∨ s.csq.phase = .guard)
          then
            (s.csq.phase = .prep → t.holdsFor .watch s.csq.prepTarget)
              ∧ (s.csq.phase = .drying ∨ s.csq.phase = .cooling → t.holdsFor .watch (some s.csq.phase))
              ∧ (s.csq.phase = .guard → s.isDone t (.held .watch) ∧ t.csq.record.endReason = s.csq.record.endReason)
          else
            hit.endsAround o t (.onWatch w) .watch
              ∧ (∀ l : Link, (s.link l).posted = [] →
                  (t.link l).ring = (o.link l).ring ∧ (t.link l).seq = (o.link l).seq)
              ∧ t = { s with cap := t.cap, linkA := t.linkA, linkS := t.linkS })
      else t = hit

/-- The commands that bring new values, and the values they offer: a temperature at each GOOD conversion of the running
schedule or of a measurement round; the contacts, M and S at a window's end; the time and the ripple at the closing of a
revolution; D at a control period unless T_exh is in DIAG; the number of a whole second of DRYING. Each ARMED unit judges
the value of its quantity, and the command's whole effect is its effect without armed units followed by the offers, but
where it reacts to its own value after them. The order of several values of one event is log entry 35, and that the
reaction comes after the values, but a declaration before them, is log entry 10. -/
def Obligations.ValuesOffered : Prop :=
  ∀ (code : Code) (s : State), s.boot ≠ .off →
    let temperature := fun (ch : Channel) (m : State) => match ch with
      | .tIn | .tExh | .tHsg =>
          if (m.mfe.channel ch).outcome ch code = .good then
            [((match ch with | .tIn => .tIn | .tExh => .tExh | _ => .tHsg : Quantity), (m.mfe.channel ch).value)]
          else []
      | .iHeat | .g | .iMot => []
    let stands := fun m : State => m.csq.phase = s.csq.phase ∧ m.hsc.lockout = s.hsc.lockout
    (s.mfe.slowDue.isSome = true → s.offers (.slowConversion code) (temperature s.mfe.rotation) stands) ∧
    (∀ r ∈ s.mfe.round, ∀ ch ∈ r.outstanding.head?, s.mfe.mode = .onRequest →
      s.offers (.roundConversion code) (temperature ch) stands) ∧
    (∀ w ∈ s.dry.window,
      s.offers .windowEnd (fun m =>
        let valid : Bool := decide ((s.moment (w.start + w.length)).windowValid w)
        (.contacts, (w.n : Int)) :: (match w.method with
          | .bars => (.m, (m.dry.m : Int)) :: if valid then [(.s, (m.dry.s : Int))] else []
          | .demand => [])) fun _ => True) ∧
    (∀ o ∈ s.dmc.revolution, s.dmc.motion.isRun = true ∨ s.dmc.turning = true ∧ s.dmc.motion.driven.isSome = true →
      (∀ d : Dir, s.dmc.motion ≠ .starting d) →
      let r := s.closedRevolution o
      s.offers .revolutionPulse (fun _ => [(.revTime, (r.time : Int)), (.ripple, ((r.max - r.min : Nat) : Int))])
        fun _ => ¬(s.csq.phase = .drying ∧ s.program.tangleEnable = true ∧ s.dmc.motion.isRun = true)) ∧
    (s.hsc.periodDue.isSome = true →
      s.offers .controlPeriod (fun m => if s.mfe.tExh.diag then [] else [(.d, (m.hsc.d : Int))]) fun _ => True) ∧
    (s.csq.phase = .drying →
      s.offers .dryingElapsedSecond (fun m => [(.dryingSeconds, ((m.csq.dryingMs / 1000 : Nat) : Int))]) fun _ => True)

/-! ### Delivery and settings -/

/-- POST, FLUSH and CANCEL: their refusals, and the queue that each leaves, its blocks then filled as far as the ring
allows, or with END when the link captures no more. FLUSH fills the named block and the WAITING ones before it with what
the ring holds up to their sizes. Every entry of ring and filled blocks stays in order. -/
def Obligations.BlockRequests : Prop :=
  ∀ (l : Link) (tag size : Byte) (s : State), s.takesAtOnce l → (s.link l).right →
    let lk := s.link l
    let entries := fun x : LinkState => (x.posted.flatMap fun p => (p.filled.map (·.entries)).getD []) ++ x.ring
    let leaves := fun (t : State) (ring : List RingEntry) (posted : List Posted) =>
      t.settles l ring posted ∧ entries (t.link l) = entries lk
        ∧ t.link (otherLink l) = s.link (otherLink l)
        ∧ t.link l = { lk with reply := (t.link l).reply, inProgress := none, ring := (t.link l).ring
                               posted := (t.link l).posted }
        ∧ s.onlyLinks t l
    (∃ t, exec (.post l tag size) s = .next t ∧
      if size = 0 ∨ 15 < size.toNat then s.refused t l 0x40 .badArg
      else if lk.posted.length = 2 then s.refused t l 0x40 .noResource
      else if ∃ p ∈ lk.posted, p.tag = tag then s.refused t l 0x40 .badArg
      else
        t.replyIs l 0x40 .ok [tag, byteOf lk.ring.length]
          ∧ leaves t lk.ring (lk.posted ++ [{ tag := tag, size := size.toNat, filled := none }])) ∧
    (∃ t, exec (.flush l tag) s = .next t ∧
      if ∀ p ∈ lk.posted, p.tag ≠ tag then s.refused t l 0x41 .badArg
      else
        t.replyIs l 0x41 .ok []
          ∧ if ∃ p ∈ lk.posted, p.tag = tag ∧ p.filled = none then
              leaves t (flushedBlocks tag lk.ring lk.posted).1 (flushedBlocks tag lk.ring lk.posted).2
            else s.onlyReply t l ∧ s.onlyLinks t l) ∧
    (∃ t, exec (.cancel l tag) s = .next t ∧
      if ∀ p ∈ lk.posted, p.tag ≠ tag then s.refused t l 0x42 .badArg
      else if ∃ p ∈ lk.posted, p.tag = tag ∧ p.filled ≠ none then s.refused t l 0x42 .busy
      else t.replyIs l 0x42 .ok [] ∧ leaves t lk.ring (lk.posted.filter fun p => p.tag != tag))

/-- SET and GET: the checks in order, the words written each brought into the range of 9.1 and 6.2, OK or ADJUSTED with the
values in effect, and GET's marks and words. A SET of block 6 replaces the on-times and keeps each remainder; a SET that
clears the enable of a stage that is on switches it off; and in SERVICE the stage tests are judged after it. The model's
choices: a field whose range holds no negative value is read unsigned (log entry 15), and stages under test come on in
order of number (log entry 16).
The remainder of a stage that goes off stands (log entry 40). -/
def Obligations.SetAndGet : Prop :=
  ∀ (l : Link) (b first count : Byte) (vs : List Word) (s : State), s.takesAtOnce l →
    (s.workingCopy b.toNat).length = blockLength b.toNat →
    let n := b.toNat
    let f := first.toNat
    let fixed := vs.mapIdx fun i v => (wordForm n (f + i)).broughtIn v
    let storing : Bool := (s.sst.engine.map (·.block)) == some n
    (∃ t, exec (.set l b first vs) s = .next t ∧
      if 6 < n ∨ vs.length = 0 ∨ 32 < vs.length ∨ blockLength n < f + vs.length then s.refused t l 0x20 .badArg
      else if n = 5 ∧ ∃ i ∈ List.range vs.length, (f + i) % 13 ≠ 0 ∧ 2 < (vs.getD i 0).toNat % 256 then
        s.refused t l 0x20 .badArg
      else if 1 ≤ n ∧ n ≤ 5 ∧ (s.csq.phase = .prep ∨ s.csq.phase = .drying ∨ s.csq.phase = .cooling
          ∨ s.csq.phase = .guard ∨ s.csq.phase = .hold) then s.refused t l 0x20 .wrongPhase
      else if storing then s.refused t l 0x20 .busy
      else
        let written := (s.workingCopy n).take f ++ fixed ++ (s.workingCopy n).drop (f + vs.length)
        t.workingCopy n = written
          ∧ (s.withinCap →
              let w := { s with sst := t.sst, csq := t.csq }
              let timed := fun m : StageNo => { s.stage m with onTime := (written.getD m.val 0).toNat }
              let v :=
                if n = 6 then { w with hsc := { s.hsc with stages := ⟨timed 0, timed 1, timed 2, timed 3⟩ } }
                else ([0, 1, 2, 3] : List StageNo).foldl
                  (fun u m => if (s.stage m).on = true ∧ w.available m = false then u.goesOff m else u) w
              State.testsJudged v { t with linkA := s.linkA, linkS := s.linkS })
          ∧ (∀ m : Fin 7, m.val ≠ n → t.workingCopy m.val = s.workingCopy m.val)
          ∧ (if fixed = vs then t.replyIs l 0x20 .ok [] else t.replyIs l 0x20 .adjusted (fixed.flatMap wordBytes))
          ∧ s.onlyReply t l
          ∧ t = { s with sst := { s.sst with blocks := t.sst.blocks }, hsc := t.hsc, csq := (s.reportFrame l).csq
                         linkA := t.linkA, linkS := t.linkS }) ∧
    (∃ t, exec (.get l b first count) s = .next t ∧
      if 6 < n ∨ count = 0 ∨ 32 < count.toNat ∨ blockLength n < f + count.toNat then s.refused t l 0x21 .badArg
      else
        t.replyIs l 0x21 .ok ([if s.sst.invalid.get n then 1 else 0, byteOf (s.sst.corrected.get n)
            , if storing ∨ n = 6 ∧ s.sst.wearPending = true then 1 else 0]
            ++ (((s.workingCopy n).drop f).take count.toNat).flatMap wordBytes)
          ∧ s.onlyReply t l ∧ s.onlyLinks t l)

/-- STORE takes a copy of the working copy and waits; at completion the block's stored words are that copy, its marks
are clear, the waiting link is answered, and a pending wear save begins. -/
def Obligations.StoreAndCompletion : Prop :=
  ∀ (l : Link) (b : Byte) (s : State),
    (s.takesAtOnce l → ∃ t, exec (.store l b) s = .next t ∧
      if 6 < b.toNat then s.refused t l 0x22 .badArg
      else if s.sst.engine.isSome then s.refused t l 0x22 .busy
      else
        t.sst = { s.sst with engine := some { block := b.toNat, source := .link l, image := s.workingCopy b.toNat
                                              wanted := true } }
          ∧ t.link l = { s.link l with inProgress := some .store } ∧ t.link (otherLink l) = s.link (otherLink l)
          ∧ t = { s with sst := t.sst, csq := (s.reportFrame l).csq, linkA := t.linkA, linkS := t.linkS }) ∧
    (s.boot ≠ .off → ∀ j ∈ s.sst.engine, j.block < 7 → ∃ t, exec .storeComplete s = .next t ∧
      t.sst.stored.get j.block = j.image.map .clean ∧ t.sst.invalid.get j.block = false
        ∧ t.sst.corrected.get j.block = 0
        ∧ (∀ m : Fin 7, m.val ≠ j.block → t.sst.stored.get m.val = s.sst.stored.get m.val
            ∧ t.sst.invalid.get m.val = s.sst.invalid.get m.val ∧ t.sst.corrected.get m.val = s.sst.corrected.get m.val)
        ∧ t.sst.engine = (if s.sst.wearPending then
            some { block := 6, source := .wear, image := s.workingCopy 6, wanted := true } else none)
        ∧ t.sst.wearPending = false ∧ t.sst.blocks = s.sst.blocks
        ∧ (∀ k : Link, if j.source = .link k ∧ j.wanted = true then
              (t.link k).inProgress = none ∧ ((s.link k).resetting = false → t.replyIs k 0x22 .ok [byteOf j.block])
                ∧ t.link k = { s.link k with inProgress := none, reply := (t.link k).reply }
            else t.link k = s.link k)
        ∧ t = { s with sst := t.sst, linkA := t.linkA, linkS := t.linkS })

/-! ### Links -/

/-- A received character in each assembler state, with its byte error, and the gap that abandons a frame. That a byte
error on the CHECK character does not discard the frame is log entry 30. -/
def Obligations.AssemblerAndGap : Prop :=
  ∀ (l : Link) (b : Byte) (parity stop : Bool) (s : State), s.boot ≠ .off →
    let lk := s.link l
    let ones := (List.range 8).countP (fun i => b.getLsbD i) + parity.toNat
    let bad : Bool := ones % 2 == 1 || !stop
    let only := fun (u t : State) (x : LinkState) =>
      t.link l = x ∧ t.link (otherLink l) = s.link (otherLink l) ∧ t = { u with linkA := t.linkA, linkS := t.linkS }
    let waits := fun (t : State) (a : Assembler) =>
      only s t { lk with assembler := a, gapDue := some (s.clock + match l with | .a => 5 | .s => 10) }
    let hunts := fun (u t : State) (e : ErrorCounts) => only u t { lk with assembler := .hunt, gapDue := none, errors := e }
    let more := fun n : Nat => if n < 65535 then n + 1 else 65535
    (∃ t, exec (.characterReceived l b parity stop) s = .next t ∧
      match lk.assembler with
      | .hunt => if b = 0xC5 ∧ bad = false then waits t .length else t = s
      | .length =>
          if 1 ≤ b.toNat ∧ b.toNat ≤ 250 then waits t (.body b.toNat [] bad)
          else hunts s t { lk.errors with badLength := more lk.errors.badLength }
      | .body len bytes mark =>
          if bytes.length + 1 < len then waits t (.body len (bytes ++ [b]) (mark || bad))
          else waits t (.check len (bytes ++ [b]) (mark || bad))
      | .check len bytes mark =>
          if mark then hunts s t { lk.errors with byteError := more lk.errors.byteError }
          else if b ≠ crc (byteOf len :: bytes) then hunts s t { lk.errors with checkError := more lk.errors.checkError }
          else (t.link l).assembler = .hunt ∧ (t.link l).gapDue = none
            ∧ (bytes ≠ [] → t.csq = (s.reportFrame l).csq)) ∧
    (∀ due ∈ lk.gapDue, ∃ t, exec (.gapExpiry l) s = .next t ∧
      hunts (s.moment due) t { lk.errors with gap := more lk.errors.gap })

/-- The characters of any frame, taken from HUNT one after the other, make that frame: it is reported to the sequencer
and queued, or counted as overflow when both places are taken; a RESET_LINK with an empty payload is taken apart. -/
def Obligations.CharactersMakeFrame : Prop :=
  ∀ (l : Link) (f : Frame) (s : State), s.boot ≠ .off → (s.link l).assembler = .hunt → f.payload.length ≤ 249 →
    let t := s.hear l f.wire
    let lk : LinkState := { s.link l with gapDue := none }
    t.link (otherLink l) = s.link (otherLink l) ∧ s.onlyLinks t l
      ∧ t.link l =
        (if f.kind = 0x5F ∧ f.payload = [] then
          if s.boot ≠ .ready then { lk with resetHeld := true }
          else if lk.resetting then lk else { lk with resetting := true, reply := some { kind := 0xDF, payload := [0] } }
         else if lk.queue.length < 2 then { lk with queue := lk.queue ++ [f] }
         else
          let n := lk.errors.overflow
          { lk with errors := { lk.errors with overflow := if n < 65535 then n + 1 else 65535 } })

/-- A request goes to its owner when the controller may take it, else into the queue. REQUEST_TAKE takes the oldest one
and judges its kind, then its length, then hands it to its owner. That a request's row stands for its whole frame is
log entry 4. -/
def Obligations.RequestsReachOwners : Prop :=
  ∀ (l : Link) (c : Instr) (s : State), s.boot ≠ .off →
    let lk := s.link l
    let may := s.boot = .ready ∧ lk.inProgress = none ∧ lk.reply = none ∧ lk.resetting = false
    (∀ x ∈ requestOf c, x.1 = l → ∃ t, exec c s = .next t ∧
      if may ∧ lk.queue = [] then t = (s.reportFrame l).serve l x.2
      else
        t.link (otherLink l) = s.link (otherLink l) ∧ s.onlyLinks t l
          ∧ t.link l =
            (if lk.queue.length < 2 then { lk with queue := lk.queue ++ [x.2.frame] }
             else
              let n := lk.errors.overflow
              { lk with errors := { lk.errors with overflow := if n < 65535 then n + 1 else 65535 } })) ∧
    (∃ t, exec (.requestTake l) s = .next t ∧
      (lk.queue = [] → t = s)
      ∧ ∀ f ∈ lk.queue.head?,
        let u := s.setLink l { lk with queue := lk.queue.drop 1 }
        let replied := fun code : Byte => t = s.setLink l
          { lk with queue := lk.queue.drop 1, inProgress := none, reply := some { kind := f.kind + 0x80, payload := [code] } }
        if ¬may then t = s
        else if (requestLengths f.kind).isNone then replied 5
        else if f.payload.length ∉ (requestLengths f.kind).getD [] then replied 4
        else match f.parse with
          | .request r => t = u.serve l r
          | _ => False)

/-- RESET_LINK is taken, or held until the part is ready; when its OK reply has been sent the link, its units, its
freshness and its requests in progress are as after a reset, and the sequencer reacts last, with notice PHASE left pending on
the reset link too. Without such a reaction the other link, its units and every other block stand. That the frame assembler and its gap timer are left as they are is the model's clause, log entry 21. -/
def Obligations.ResetLinkEffects : Prop :=
  ∀ (l : Link) (s : State), s.boot ≠ .off →
    let lk := s.link l
    (∃ t, exec (.resetLink l) s = .next t ∧
      t.link (otherLink l) = s.link (otherLink l) ∧ s.onlyLinks t l
        ∧ t.link l =
          (if s.boot ≠ .ready then { lk with resetHeld := true }
           else if lk.resetting then lk else { lk with resetting := true, reply := some { kind := 0xDF, payload := [0] } })) ∧
    (∀ x ∈ lk.sending, ∃ t, exec (.transmitComplete l) s = .next t ∧
      (x.reset = false → t = s.setLink l { lk with sending := none })
      ∧ (x.reset = true →
          let i := match l with | .a => 0 | .s => 1
          let period := (s.word 0 (2 + i)).toNat
          t.link l =
            { lk with
              sending := none, queue := [], inProgress := none, reply := none, resetting := false
              errors := { badLength := 0, gap := 0, byteError := 0, checkError := 0, overflow := 0 }
              seq := 0, ring := [], posted := [], statusDue := false
              enable := (s.word 0 i).extractLsb' 0 8, period := period
              periodicDue := if period = 0 then none else some (s.clock + 1000 * period)
              pending := (t.link l).pending, scheduled := (t.link l).scheduled }
          ∧ (∀ n ∈ (t.link l).pending, n = .phase t.csq.phase (.ended .linkReset))
          ∧ (t.link l).scheduled = (pendingMask (t.link l).pending &&& (t.link l).enable != 0)
          ∧ (∀ u : Fin 3, (s.unit u).owner = some l → t.unit u =
              { owner := none, state := .free, config := none, position := 0, taken := 0, skipped := 0, endReason := none })
          ∧ (∀ w : Fin 4, t.watch w = if (s.watch w).owner = some l then
              { owner := none, state := .free, settings := none, previous := none, blocked := false, hits := 0 }
              else s.watch w)
          ∧ (∀ c ∈ sixChannels, t.mfe.channel c = (s.mfe.channel c).setFreshness l
              (if (s.mfe.channel c).freshness l = .diag then .diag else .none))
          ∧ (∀ r ∈ s.mfe.round, r.link = l → t.mfe.round = some { r with wanted := false })
          ∧ (∀ j ∈ s.sst.engine, j.source = .link l → t.sst.engine = some { j with wanted := false })
          ∧ s.outerFrame t
          ∧ (let other := otherLink l
             t.link other = { s.link other with
               seq := (t.link other).seq, ring := (t.link other).ring, posted := (t.link other).posted
               pending := (t.link other).pending, scheduled := (t.link other).scheduled })
          ∧ (let alone := (t.link l).pending = [] ∧ t.link (otherLink l) = s.link (otherLink l)
               ∧ (∀ u : Fin 3, (s.unit u).owner ≠ some l → t.unit u = s.unit u)
               ∧ t = { s with mfe := t.mfe, cap := t.cap, sst := t.sst, csq := t.csq, linkA := t.linkA, linkS := t.linkS }
             match l, s.csq.phase with
             | .a, .drying => t.isCooling .linkReset
             | .a, .prep | .a, .cooling | .a, .guard | .a, .hold =>
                 s.isDone t (.ended .linkReset) ∧ t.csq.record.endReason = some .linkReset
             | .a, _ => t.csq = s.csq ∧ alone
             | .s, .service => t.released (.ended .linkReset)
             | .s, _ => t.csq = { s.csq with pendingTake := false } ∧ alone)))

/-- The free transmitter begins the first frame that exists, in the order reply, BLOCK, NOTICE, PERIODIC_STATUS, built
from the state at that moment, with the bytes of each notice's detail (R177) and of each record (R179). A block that
departs leaves the queue, and the blocks that remain are filled as far as the ring allows, or with END when the link
captures no more. -/
def Obligations.TransmitBegin : Prop :=
  ∀ (l : Link) (s : State), s.boot ≠ .off → (s.link l).right →
    let lk := s.link l
    let frame := fun (kind : Byte) (payload : List Byte) =>
      let body := byteOf (payload.length + 1) :: kind :: payload
      (0xC5 : Byte) :: (body ++ [crc body])
    let entries := fun x : LinkState => (x.posted.flatMap fun p => (p.filled.map (·.entries)).getD []) ++ x.ring
    let block := lk.posted.find? (fun p => p.filled.isSome)
    ∃ t, exec (.transmitBegin l) s = .next t ∧
      t.link (otherLink l) = s.link (otherLink l) ∧ t = { s with linkA := t.linkA, linkS := t.linkS }
      ∧ (lk.sending.isSome = true → t = s)
      ∧ (lk.sending = none →
          (∀ f ∈ lk.reply,
              t.link l = { lk with reply := none, sending := some { bytes := frame f.kind f.payload, reset := lk.resetting } })
          ∧ (lk.reply = none →
              (∀ p ∈ block, ∀ f ∈ p.filled,
                let flags := f.ended.toNat + 2 * f.flushed.toNat
                t.link l = { lk with
                    sending := some { bytes := frame 0x61 ([p.tag, byteOf f.entries.length, byteOf flags]
                                        ++ f.entries.flatMap RingEntry.onWire), reset := false }
                    ring := (t.link l).ring, posted := (t.link l).posted }
                  ∧ t.settles l lk.ring (lk.posted.filter fun q => q.tag != p.tag)
                  ∧ f.entries ++ entries (t.link l) = entries lk)
              ∧ (block = none →
                  t.link l =
                    if lk.scheduled then
                      { lk with
                        scheduled := false
                        sending := some { bytes := frame 0x60 ([pendingMask lk.pending, 0] ++ lk.pending.flatMap Notice.onWire),
                                          reset := false } }
                    else if lk.statusDue then
                      { lk with
                        statusDue := false
                        sending := some { bytes := frame 0x62 ([byteOf s.csq.phase.code, s.csq.reasons.mask]
                                            ++ nat16 (if s.dry.method = .bars then s.dry.s else s.dry.ds)
                                            ++ [byteOf s.dry.remaining] ++ int16 s.mfe.tExh.value ++ int16 s.mfe.tIn.value
                                            ++ [s.onSet.mask, s.dmc.motion.code]), reset := false } }
                    else lk)))

/-- Notices: a raise, ACK_NOTICE and NOTICE_CFG on the pending set, the enable set and the NOTICE schedule, with ATTN;
and the periodic period with its timer. Of a late period the next counts from now: the model's choice, log entry 2. -/
def Obligations.NoticesAndPeriod : Prop :=
  ∀ (l : Link) (n : Notice) (kinds : Half) (period : Byte) (s : State), s.boot ≠ .off →
    let lk := s.link l
    let announced := fun x : LinkState => pendingMask x.pending &&& x.enable
    let scheduleRight := fun t : State => lk.reschedules (t.link l)
    let p := min 60 period.toNat
    let raised := s.notify l n
    let others := fun ms : List Notice => ms.filter (fun m => m.code != n.code)
    (n ∈ (raised.link l).pending ∧ others (raised.link l).pending = others lk.pending ∧ scheduleRight raised
      ∧ (lk.pending.Pairwise (fun a b => a.code < b.code) → ∀ m ∈ (raised.link l).pending, m.code = n.code → m = n)
      ∧ raised = s.setLink l
          { lk with pending := (raised.link l).pending, scheduled := (raised.link l).scheduled }
      ∧ raised.attn = (announced raised.linkA != 0)) ∧
    (s.takesAtOnce l → ∃ t, exec (.ackNotice l kinds) s = .next t ∧
      if 256 ≤ kinds.toNat then s.refused t l 0x29 .badArg
      else
        t.link l = { lk with pending := (t.link l).pending, scheduled := (t.link l).scheduled, reply := (t.link l).reply }
          ∧ (t.link l).pending = lk.pending.filter (fun m => kinds.getLsbD m.code == false) ∧ scheduleRight t
          ∧ t.replyIs l 0x29 .ok [pendingMask (t.link l).pending, 0]
          ∧ t.link (otherLink l) = s.link (otherLink l) ∧ s.onlyLinks t l) ∧
    (s.takesAtOnce l → ∃ t, exec (.noticeCfg l kinds period) s = .next t ∧
      if 256 ≤ kinds.toNat then s.refused t l 0x28 .badArg
      else
        t.link l = { lk with
            enable := kinds.extractLsb' 0 8, period := p
            periodicDue := if p = 0 then none else some (s.clock + 1000 * p)
            statusDue := if p = 0 then false else lk.statusDue
            scheduled := (t.link l).scheduled, reply := (t.link l).reply }
          ∧ scheduleRight t
          ∧ t.replyIs l 0x28 (if period.toNat ≤ 60 then .ok else .adjusted) (halfBytes kinds ++ [byteOf p])
          ∧ t.link (otherLink l) = s.link (otherLink l) ∧ s.onlyLinks t l) ∧
    (∀ due ∈ lk.periodicDue, ∃ t, exec (.periodicPeriodExpiry l) s = .next t ∧
      let u := s.moment due
      t = u.setLink l { lk with statusDue := true, periodicDue := some (u.clock + 1000 * lk.period) })

/-- IDENTIFY, STATUS with the layout of R176, and LINK_STATS, which clears the counts and reports the frames queued. -/
def Obligations.StatisticsAndStatus : Prop :=
  ∀ (l : Link) (f : Frame) (s : State), s.takesAtOnce l →
    let zero : ErrorCounts := { badLength := 0, gap := 0, byteError := 0, checkError := 0, overflow := 0 }
    let e := (s.link l).errors
    let counts := nat16 e.badLength ++ nat16 e.gap ++ nat16 e.byteError ++ nat16 e.checkError ++ nat16 e.overflow
    let r := s.csq.record
    let absent : Byte := 0
    let stages := fun f : Stage → Bool =>
      byteOf ((f (s.stage 0)).toNat + 2 * (f (s.stage 1)).toNat + 4 * (f (s.stage 2)).toNat + 8 * (f (s.stage 3)).toNat)
    (∃ t, exec (.linkStats l) s = .next t ∧
      t.link l = { s.link l with errors := zero, reply := some { kind := 0xD0, payload := 0 :: (counts ++ [0]) } }
        ∧ t.link (otherLink l) = s.link (otherLink l) ∧ s.onlyLinks t l) ∧
    (∃ t, exec (.requestTake l) (s.setLink l { s.link l with queue := [{ kind := 0x50, payload := [] }, f] })
        = .next t ∧
      t = s.setLink l { s.link l with
        queue := [f], errors := zero, reply := some { kind := 0xD0, payload := 0 :: (counts ++ [1]) } }) ∧
    (∃ t, exec (.identify l) s = .next t ∧
      t.replyIs l 0x01 .ok ([84, 1, 1] ++ wordBytes s.refTime) ∧ s.onlyReply t l ∧ s.onlyLinks t l) ∧
    (∃ t, exec (.status l) s = .next t ∧
      t.replyIs l 0x02 .ok (
        [byteOf s.csq.phase.code, s.csq.reasons.mask, (match r.held with | none => 0xFF | some p => byteOf p.code)
        , (match r.program with | none => 0xFF | some p => byteOf p), (match r.startLink with | .a => 0 | .s => 1)]
        ++ wordBytes r.startStamp
        ++ [(match r.endReason with | none => absent | some x => byteOf x.code)]
        ++ (match r.fault with
          | none => List.replicate 7 absent
          | some x => [byteOf x.kind.code, byteOf x.phase.code] ++ wordBytes x.time ++ [byteOf x.extra])
        ++ nat32 (s.csq.dryingMs / 1000) ++ nat32 (s.csq.coolingMs / 1000) ++ nat32 s.energyWh
        ++ [s.dry.method.code, s.dry.estimate.code] ++ nat16 (if s.dry.method = .bars then s.dry.s else s.dry.ds)
        ++ [byteOf s.dry.remaining, byteOf r.bursts, byteOf r.tangleHolds] ++ nat16 s.hsc.d
        ++ [stages (·.on), stages (·.openMark), byteOf s.effectiveCap, (if s.hsc.lockout then 1 else 0)
        , s.hsc.airflow.code, byteOf (s.hsc.fanOn.toNat + 2 * s.hsc.afterRun.isSome.toNat), s.dmc.motion.code])
        ∧ s.onlyReply t l ∧ s.onlyLinks t l)

/-! ### Encoding -/

/-- Decode and encode agree on requests: the frame of every request whose list arguments have an admitted length is read
back as that request, with every argument at every value, and fits a frame. -/
def Obligations.RequestFrameRoundTrip : Prop :=
  ∀ (r : Request), r.admitted = true →
    r.frame.parse = .request r ∧ r.frame.payload.length ≤ 249 ∧ r.frame.kind.toNat < 0x60
      ∧ r.frame.payload.length ∈ (requestLengths r.frame.kind).getD []

/-! ### Invariants -/

/-- Every step keeps the sequencer's marks and deadlines with its phase, and the schedules of front end, estimator and
heat controller with it; once dryness is declared, DRYING is not entered again. -/
def Obligations.SequencerKept : Prop :=
  ∀ (s t : State), s.csq.consistent → s.schedulesRight → step s = .next t → t.csq.consistent ∧ t.schedulesRight

/-- Every step keeps, in a consistent sequencer, the heater's interlocks, its effective cap, and the idleness of a part
that is not ready. -/
def Obligations.HeaterKept : Prop :=
  ∀ (s t : State), s.csq.consistent → s.heaterInterlocked → s.withinCap → s.bootIdle → step s = .next t →
    t.csq.consistent ∧ t.heaterInterlocked ∧ t.withinCap ∧ t.bootIdle

/-- Every step keeps the drum's outputs and marks with its motion state, bursts within DRYING, and the tangle cap with its flag. -/
def Obligations.DrumAndTangleKept : Prop :=
  ∀ (s t : State), s.csq.consistent → s.drumRight → s.capFlagRight → step s = .next t →
    t.csq.consistent ∧ t.drumRight ∧ t.capFlagRight

/-- Every step keeps the settings in the ranges of 9.1 and 6.2 and the figures in theirs, and 32767 and DIAG freshness with
a diagnosed channel. That a field whose range holds no negative value is read unsigned is log entry 15. -/
def Obligations.RangesKept : Prop :=
  ∀ (s t : State), s.settingsInRange → s.figuresInRange → s.diagnosisRight → step s = .next t →
    t.settingsInRange ∧ t.figuresInRange ∧ t.diagnosisRight

/-- Every step keeps the capacities of queue, ring and posted blocks, the blocks' order, the pending notices in order of
kind, and the NOTICE schedule; and no block is left waiting that the ring could fill, or whose link captures no more. -/
def Obligations.LinksKept : Prop :=
  ∀ (s t : State), s.linksRight → s.noticesRight → step s = .next t → t.linksRight ∧ t.noticesRight

/-- Every step keeps each unit's owner with its state, the watch units of a condition with the unit's owner, and the
counts of the capture pool at or below their tops. -/
def Obligations.OwnersKept : Prop :=
  ∀ (s t : State), s.ownersRight → s.countsRight → step s = .next t → t.ownersRight ∧ t.countsRight

/-- The part right after power-on meets every invariant. That the working copies hold the defaults before the load (log
entry 7), that a part never stored holds them in its non-volatile words (log entry 6), and the REST speeds among them (log
entry 17) are the model's choices. -/
def Obligations.ResetMeetsInvariants : Prop :=
  let s := State.reset
  s.csq.consistent ∧ s.schedulesRight ∧ s.heaterInterlocked ∧ s.withinCap ∧ s.bootIdle ∧ s.drumRight ∧ s.capFlagRight
    ∧ s.settingsInRange ∧ s.figuresInRange ∧ s.diagnosisRight ∧ s.linksRight ∧ s.noticesRight ∧ s.ownersRight ∧ s.countsRight
end

