-- ==== Sys2Proof/Laws/Bytes.lean ====
section
/-! SUPPORT. The frames' byte layouts of the model against the tables of Safety.lean: the figures of a payload, the
notice details (R177) and the capture record (R179). -/

namespace Sys2Proof.Machine

/-- A signed figure in two bytes. -/
theorem int16_eq (v : Int) : int16 v = inBytes 2 v := by
  have e0 : (BitVec.ofInt 16 v).extractLsb' 0 8 = BitVec.ofInt 8 v := by
    apply BitVec.eq_of_toNat_eq; simp [BitVec.extractLsb'_toNat, BitVec.toNat_ofInt]; omega
  have e1 : (BitVec.ofInt 16 v).extractLsb' 8 8 = BitVec.ofInt 8 (v / 256) := by
    apply BitVec.eq_of_toNat_eq
    simp [BitVec.extractLsb'_toNat, BitVec.toNat_ofInt, Nat.shiftRight_eq_div_pow]; omega
  simp [int16, halfBytes, inBytes, List.range_succ, e0, e1]

/-- A figure in one byte. -/
theorem byteOf_eq (x : Nat) : [byteOf x] = inBytes 1 x := by
  simp only [inBytes, byteOf, List.range_succ, List.range_zero, List.map_cons, List.map_nil, List.nil_append]
  congr 1
  apply BitVec.eq_of_toNat_eq; simp

/-- A figure in two bytes. -/
theorem nat16_eq (x : Nat) : nat16 x = inBytes 2 x := by rw [← int16_eq]; unfold nat16 int16; congr 1

/-- A word in four bytes. -/
theorem wordBytes_eq (w : Word) : wordBytes w = inBytes 4 w.toNat := by
  have e : ∀ k : Nat, k < 4 → w.extractLsb' (8 * k) 8 = BitVec.ofInt 8 ((w.toNat : Int) / 256 ^ k) := by
    intro k hk
    apply BitVec.eq_of_toNat_eq
    interval_cases k <;> simp [BitVec.extractLsb'_toNat, BitVec.toNat_ofInt, Nat.shiftRight_eq_div_pow] <;> omega
  simp only [wordBytes, inBytes, List.range_succ, List.range_zero, List.nil_append, List.cons_append, List.map_cons,
    List.map_nil, ← e 0 (by decide), ← e 1 (by decide), ← e 2 (by decide), ← e 3 (by decide)]

/-- A figure in four bytes. -/
theorem nat32_eq (x : Nat) : nat32 x = inBytes 4 x := by
  rw [nat32, wordBytes_eq]
  refine List.map_congr_left fun k hk => ?_
  apply BitVec.eq_of_toNat_eq
  have : k < 4 := List.mem_range.mp hk
  interval_cases k <;> simp [BitVec.toNat_ofInt] <;> omega

/-- A byte is the figure it holds. -/
theorem byte_eq (b : Byte) : [b] = inBytes 1 b.toNat := by rw [← byteOf_eq]; simp [byteOf]

/-- One byte of a figure, the figure given by its value modulo 256. -/
theorem byteOf_of_emod {x : Nat} {v : Int} (h : v % 256 = (x % 256 : Nat)) : [byteOf x] = inBytes 1 v := by
  rw [byteOf_eq]
  simp only [inBytes, List.range_succ, List.range_zero, List.map_cons, List.map_nil, List.nil_append]
  congr 1
  apply BitVec.eq_of_toNat_eq; simp [BitVec.toNat_ofInt]; omega

/-- The model's notice details are those of the table. -/
theorem Notice.detail_eq (n : Notice) : n.detail = n.onWire := by
  have cons (b : Byte) (bs : List Byte) : b :: bs = inBytes 1 b.toNat ++ bs := by rw [← byte_eq]; rfl
  have ofByte (x : Nat) : inBytes 1 ((byteOf x).toNat : Int) = inBytes 1 x := by rw [← byte_eq, byteOf_eq]
  cases n <;> simp only [Notice.detail, Notice.onWire, Notice.fields, nat16_eq, int16_eq, nat32_eq, List.flatMap_cons,
    List.flatMap_nil, List.append_nil, cons, ofByte, List.append_assoc]
  case stage number lockout housing => cases lockout <;> rfl

/-- Two 12-bit figures in three bytes. -/
theorem twoTwelve_eq (low high : Nat) : twoTwelve low high = inBytes 3 (packed [⟨0, 12, low⟩, ⟨12, 12, high⟩]) := by
  simp only [twoTwelve, inBytes, packed, byteOf, List.range_succ, List.range_zero, List.nil_append, List.cons_append,
    List.map_cons, List.map_nil, List.sum_cons, List.sum_nil, List.cons.injEq, and_true]
  refine ⟨?_, ?_, ?_⟩ <;> apply BitVec.eq_of_toNat_eq <;> simp [BitVec.toNat_ofInt] <;> omega

/-- The mask of four outputs fills four bits. -/
theorem mask_lt (q : Quad Bool) : q.mask.toNat < 16 := by
  obtain ⟨a, b, c, d⟩ := q
  cases a <;> cases b <;> cases c <;> cases d <;> decide

/-- The model's capture record is that of the table. -/
theorem RingEntry.bytes_eq (e : RingEntry) : e.bytes = e.onWire := by
  obtain ⟨seq, stamp, units, record⟩ := e
  have cons (b : Byte) (bs : List Byte) : b :: bs = [b] ++ bs := rfl
  have head : ∀ x : Nat, record.byte8 % 256 = (x % 256 : Nat) → record.kindByte = byteOf x →
      record.payload = record.figures.flatMap (fun f => inBytes f.1 f.2) →
      RingEntry.bytes ⟨seq, stamp, units, record⟩ = RingEntry.onWire ⟨seq, stamp, units, record⟩ := by
    intro x hx hb hp
    simp only [RingEntry.bytes, RingEntry.onWire, List.flatMap_cons, hp, hb, wordBytes_eq, ← byteOf_of_emod hx,
      ← byte_eq, List.append_assoc, List.cons_append, List.nil_append]
  cases record with
  | contact duration peak mean =>
    refine head 0 (by simp [Record.byte8]) rfl ?_
    simp [Record.payload, Record.figures, nat16_eq]
  | window method valid c index estimate streak contacts =>
    refine head 1 (by simp [Record.byte8]) rfl ?_
    have first : [windowByte method valid c] =
        inBytes 1 (packed [⟨0, 1, if method = .demand then 1 else 0⟩, ⟨1, 1, valid.toNat⟩, ⟨2, 1, c.lowTurning.toNat⟩
          , ⟨3, 1, c.burst.toNat⟩, ⟨4, 1, c.tangle.toNat⟩, ⟨5, 1, c.barShort.toNat⟩, ⟨6, 1, c.sensor.toNat⟩
          , ⟨7, 1, c.noDemand.toNat⟩]) := by
      obtain ⟨a, b, c, d, e, f⟩ := c
      cases method <;> cases valid <;> cases a <;> cases b <;> cases c <;> cases d <;> cases e <;> cases f <;> decide
    rw [Record.payload, cons, first]
    have counts : [byteOf streak, byteOf contacts] = inBytes 1 streak ++ inBytes 1 contacts := by
      rw [← byteOf_eq, ← byteOf_eq]; rfl
    simp only [Record.figures, twoTwelve_eq, counts, List.flatMap_cons, List.flatMap_nil,
      List.append_nil, List.append_assoc]
  | rev time min max mean =>
    refine head (2 + 16 * (mean / 256 % 16)) ?_ rfl ?_
    · simp [Record.byte8, packed]; omega
    · simp [Record.payload, Record.figures, nat16_eq, twoTwelve_eq, byteOf_eq]
  | heat demand stages cap exhaust =>
    refine head 3 (by simp [Record.byte8]) rfl ?_
    have m := mask_lt stages
    have third : [stages.mask ||| byteOf (16 * (cap % 8))] =
        inBytes 1 (packed [⟨0, 4, stages.mask.toNat⟩, ⟨4, 3, cap⟩]) := by
      have e : packed [⟨0, 4, stages.mask.toNat⟩, ⟨4, 3, cap⟩] = stages.mask.toNat + 16 * (cap % 8 : Nat) := by
        simp [packed]; omega
      have c := Nat.mod_lt cap (show 0 < 8 by decide)
      rw [e]
      generalize cap % 8 = k at c
      obtain ⟨a, b, c', d⟩ := stages
      interval_cases k <;> cases a <;> cases b <;> cases c' <;> cases d <;> decide
    simp only [Record.payload, Record.figures, nat16_eq, int16_eq, third, List.flatMap_cons,
      List.flatMap_nil, List.append_nil, List.append_assoc]
    rfl
  | temp channel status value raw =>
    refine head 4 (by simp [Record.byte8]) rfl ?_
    have first : [byteOf (channel.code % 4 + 16 * status.code)] =
        inBytes 1 (packed [⟨0, 2, channel.code⟩, ⟨4, 2, status.code⟩]) := by
      cases channel <;> cases status <;> decide
    rw [Record.payload, cons, first]
    simp only [Record.figures, nat16_eq, int16_eq, List.flatMap_cons,
      List.flatMap_nil, List.append_nil, List.append_assoc]
    rfl
  | phase left entered cause reasons =>
    refine head 5 (by simp [Record.byte8]) rfl ?_
    have first : [byteOf (left.code + 16 * entered.code)] =
        inBytes 1 (packed [⟨0, 4, left.code⟩, ⟨4, 4, entered.code⟩]) := by
      cases left <;> cases entered <;> decide
    rw [Record.payload, cons, first, cons (byteOf cause.code), byteOf_eq, cons reasons.mask, byte_eq reasons.mask]
    simp only [Record.figures, List.flatMap_cons, List.flatMap_nil, List.append_nil]
    rfl
  | tangle escalation chain ripple contacts estimate =>
    refine head 6 (by simp [Record.byte8]) rfl ?_
    have first : [byteOf (chain % 8 + 128 * escalation.toNat)] =
        inBytes 1 (packed [⟨0, 3, chain⟩, ⟨7, 1, escalation.toNat⟩]) := by
      apply byteOf_of_emod
      cases escalation <;> simp [packed]
    rw [Record.payload, cons, first]
    simp only [Record.figures, nat16_eq, byteOf_eq, List.flatMap_cons,
      List.flatMap_nil, List.append_nil, List.append_assoc]
  | watch unit quantity value limit hits =>
    refine head 7 (by simp [Record.byte8]) rfl ?_
    have first : [byteOf (unit.val + 16 * quantity.code)] =
        inBytes 1 (packed [⟨0, 2, unit.val⟩, ⟨4, 4, quantity.code⟩]) := by
      fin_cases unit <;> cases quantity <;> decide
    rw [Record.payload, cons, first]
    simp only [Record.figures, int16_eq, byteOf_eq, List.flatMap_cons,
      List.flatMap_nil, List.append_nil, List.append_assoc]
end Sys2Proof.Machine
end

