-- ==== Sys2Proof/Laws/Frames.lean ====
section
/-! SUPPORT. What each operation leaves alone: one lemma per operation, a conjunction over the fields of the state
that it does not touch. Each is a simp lemma, so that a proof about one block skips what the others do. -/

namespace Sys2Proof.Machine

/-- A left fold keeps what each of its steps keeps. -/
theorem foldl_keep {α β γ : Type} (f : α → β → α) (g : α → γ) (h : ∀ a b, g (f a b) = g a) (l : List β) (a : α) :
    g (l.foldl f a) = g a := by
  induction l generalizing a with
  | nil => rfl
  | cons x xs ih => rw [List.foldl_cons, ih, h]

/-! ### Links, notices, replies -/

@[simp] theorem State.setLink_frame (s : State) (l : Link) (x : LinkState) :
    (s.setLink l x).pending = s.pending ∧ (s.setLink l x).boot = s.boot ∧ (s.setLink l x).clock = s.clock ∧
    (s.setLink l x).resetTime = s.resetTime ∧ (s.setLink l x).pins = s.pins ∧ (s.setLink l x).mfe = s.mfe ∧
    (s.setLink l x).dry = s.dry ∧ (s.setLink l x).dmc = s.dmc ∧ (s.setLink l x).tgm = s.tgm ∧
    (s.setLink l x).hsc = s.hsc ∧ (s.setLink l x).csq = s.csq ∧ (s.setLink l x).cap = s.cap ∧
    (s.setLink l x).sst = s.sst := by
  cases l <;> simp [State.setLink]

@[simp] theorem State.modLink_frame (s : State) (l : Link) (f : LinkState → LinkState) :
    (s.modLink l f).pending = s.pending ∧ (s.modLink l f).boot = s.boot ∧ (s.modLink l f).clock = s.clock ∧
    (s.modLink l f).resetTime = s.resetTime ∧ (s.modLink l f).pins = s.pins ∧ (s.modLink l f).mfe = s.mfe ∧
    (s.modLink l f).dry = s.dry ∧ (s.modLink l f).dmc = s.dmc ∧ (s.modLink l f).tgm = s.tgm ∧
    (s.modLink l f).hsc = s.hsc ∧ (s.modLink l f).csq = s.csq ∧ (s.modLink l f).cap = s.cap ∧
    (s.modLink l f).sst = s.sst := by
  unfold State.modLink
  try dsimp only
  simp

@[simp] theorem State.notify_frame (s : State) (l : Link) (n : Notice) :
    (s.notify l n).pending = s.pending ∧ (s.notify l n).boot = s.boot ∧ (s.notify l n).clock = s.clock ∧
    (s.notify l n).resetTime = s.resetTime ∧ (s.notify l n).pins = s.pins ∧ (s.notify l n).mfe = s.mfe ∧
    (s.notify l n).dry = s.dry ∧ (s.notify l n).dmc = s.dmc ∧ (s.notify l n).tgm = s.tgm ∧
    (s.notify l n).hsc = s.hsc ∧ (s.notify l n).csq = s.csq ∧ (s.notify l n).cap = s.cap ∧
    (s.notify l n).sst = s.sst := by
  unfold State.notify
  try dsimp only
  simp

@[simp] theorem State.notifyBoth_frame (s : State) (n : Notice) :
    (s.notifyBoth n).pending = s.pending ∧ (s.notifyBoth n).boot = s.boot ∧ (s.notifyBoth n).clock = s.clock ∧
    (s.notifyBoth n).resetTime = s.resetTime ∧ (s.notifyBoth n).pins = s.pins ∧ (s.notifyBoth n).mfe = s.mfe ∧
    (s.notifyBoth n).dry = s.dry ∧ (s.notifyBoth n).dmc = s.dmc ∧ (s.notifyBoth n).tgm = s.tgm ∧
    (s.notifyBoth n).hsc = s.hsc ∧ (s.notifyBoth n).csq = s.csq ∧ (s.notifyBoth n).cap = s.cap ∧
    (s.notifyBoth n).sst = s.sst := by
  unfold State.notifyBoth
  try dsimp only
  simp

@[simp] theorem State.answer_frame (s : State) (l : Link) (k : Byte) (st : Status) (c : List Byte) :
    (s.answer l k st c).pending = s.pending ∧ (s.answer l k st c).boot = s.boot ∧
    (s.answer l k st c).clock = s.clock ∧ (s.answer l k st c).resetTime = s.resetTime ∧
    (s.answer l k st c).pins = s.pins ∧ (s.answer l k st c).mfe = s.mfe ∧ (s.answer l k st c).dry = s.dry ∧
    (s.answer l k st c).dmc = s.dmc ∧ (s.answer l k st c).tgm = s.tgm ∧ (s.answer l k st c).hsc = s.hsc ∧
    (s.answer l k st c).csq = s.csq ∧ (s.answer l k st c).cap = s.cap ∧ (s.answer l k st c).sst = s.sst := by
  unfold State.answer
  try dsimp only
  simp

@[simp] theorem State.answerStatus_frame (s : State) (l : Link) (k : Byte) (st : Status) :
    (s.answerStatus l k st).pending = s.pending ∧ (s.answerStatus l k st).boot = s.boot ∧
    (s.answerStatus l k st).clock = s.clock ∧ (s.answerStatus l k st).resetTime = s.resetTime ∧
    (s.answerStatus l k st).pins = s.pins ∧ (s.answerStatus l k st).mfe = s.mfe ∧
    (s.answerStatus l k st).dry = s.dry ∧ (s.answerStatus l k st).dmc = s.dmc ∧
    (s.answerStatus l k st).tgm = s.tgm ∧ (s.answerStatus l k st).hsc = s.hsc ∧
    (s.answerStatus l k st).csq = s.csq ∧ (s.answerStatus l k st).cap = s.cap ∧ (s.answerStatus l k st).sst = s.sst := by
  unfold State.answerStatus
  try dsimp only
  simp

@[simp] theorem State.deliver_frame (s : State) (l : Link) :
    (s.deliver l).pending = s.pending ∧ (s.deliver l).boot = s.boot ∧ (s.deliver l).clock = s.clock ∧
    (s.deliver l).resetTime = s.resetTime ∧ (s.deliver l).pins = s.pins ∧ (s.deliver l).mfe = s.mfe ∧
    (s.deliver l).dry = s.dry ∧ (s.deliver l).dmc = s.dmc ∧ (s.deliver l).tgm = s.tgm ∧ (s.deliver l).hsc = s.hsc ∧
    (s.deliver l).csq = s.csq ∧ (s.deliver l).cap = s.cap ∧ (s.deliver l).sst = s.sst := by
  unfold State.deliver
  try dsimp only
  repeat' split
  all_goals simp

@[simp] theorem State.postBlock_frame (s : State) (l : Link) (tag size : Byte) :
    (s.postBlock l tag size).pending = s.pending ∧ (s.postBlock l tag size).boot = s.boot ∧
    (s.postBlock l tag size).clock = s.clock ∧ (s.postBlock l tag size).resetTime = s.resetTime ∧
    (s.postBlock l tag size).pins = s.pins ∧ (s.postBlock l tag size).mfe = s.mfe ∧
    (s.postBlock l tag size).dry = s.dry ∧ (s.postBlock l tag size).dmc = s.dmc ∧
    (s.postBlock l tag size).tgm = s.tgm ∧ (s.postBlock l tag size).hsc = s.hsc ∧
    (s.postBlock l tag size).csq = s.csq ∧ (s.postBlock l tag size).cap = s.cap ∧
    (s.postBlock l tag size).sst = s.sst := by
  unfold State.postBlock
  try dsimp only
  repeat' split
  all_goals simp

@[simp] theorem State.flushBlock_frame (s : State) (l : Link) (tag : Byte) :
    (s.flushBlock l tag).pending = s.pending ∧ (s.flushBlock l tag).boot = s.boot ∧
    (s.flushBlock l tag).clock = s.clock ∧ (s.flushBlock l tag).resetTime = s.resetTime ∧
    (s.flushBlock l tag).pins = s.pins ∧ (s.flushBlock l tag).mfe = s.mfe ∧ (s.flushBlock l tag).dry = s.dry ∧
    (s.flushBlock l tag).dmc = s.dmc ∧ (s.flushBlock l tag).tgm = s.tgm ∧ (s.flushBlock l tag).hsc = s.hsc ∧
    (s.flushBlock l tag).csq = s.csq ∧ (s.flushBlock l tag).cap = s.cap ∧ (s.flushBlock l tag).sst = s.sst := by
  unfold State.flushBlock
  try dsimp only
  repeat' split
  all_goals simp

@[simp] theorem State.cancelBlock_frame (s : State) (l : Link) (tag : Byte) :
    (s.cancelBlock l tag).pending = s.pending ∧ (s.cancelBlock l tag).boot = s.boot ∧
    (s.cancelBlock l tag).clock = s.clock ∧ (s.cancelBlock l tag).resetTime = s.resetTime ∧
    (s.cancelBlock l tag).pins = s.pins ∧ (s.cancelBlock l tag).mfe = s.mfe ∧ (s.cancelBlock l tag).dry = s.dry ∧
    (s.cancelBlock l tag).dmc = s.dmc ∧ (s.cancelBlock l tag).tgm = s.tgm ∧ (s.cancelBlock l tag).hsc = s.hsc ∧
    (s.cancelBlock l tag).csq = s.csq ∧ (s.cancelBlock l tag).cap = s.cap ∧ (s.cancelBlock l tag).sst = s.sst := by
  unfold State.cancelBlock
  try dsimp only
  repeat' split
  all_goals simp

/-! ### Units in place -/

@[simp] theorem State.setUnit_frame (s : State) (u : Fin 3) (x : CaptureUnit) :
    (s.setUnit u x).pending = s.pending ∧ (s.setUnit u x).boot = s.boot ∧ (s.setUnit u x).clock = s.clock ∧
    (s.setUnit u x).resetTime = s.resetTime ∧ (s.setUnit u x).pins = s.pins ∧ (s.setUnit u x).mfe = s.mfe ∧
    (s.setUnit u x).dry = s.dry ∧ (s.setUnit u x).dmc = s.dmc ∧ (s.setUnit u x).tgm = s.tgm ∧
    (s.setUnit u x).hsc = s.hsc ∧ (s.setUnit u x).csq = s.csq ∧ (s.setUnit u x).sst = s.sst ∧
    (s.setUnit u x).linkA = s.linkA ∧ (s.setUnit u x).linkS = s.linkS := by
  unfold State.setUnit
  try dsimp only
  simp

@[simp] theorem State.setWatch_frame (s : State) (w : Fin 4) (x : WatchUnit) :
    (s.setWatch w x).pending = s.pending ∧ (s.setWatch w x).boot = s.boot ∧ (s.setWatch w x).clock = s.clock ∧
    (s.setWatch w x).resetTime = s.resetTime ∧ (s.setWatch w x).pins = s.pins ∧ (s.setWatch w x).mfe = s.mfe ∧
    (s.setWatch w x).dry = s.dry ∧ (s.setWatch w x).dmc = s.dmc ∧ (s.setWatch w x).tgm = s.tgm ∧
    (s.setWatch w x).hsc = s.hsc ∧ (s.setWatch w x).csq = s.csq ∧ (s.setWatch w x).sst = s.sst ∧
    (s.setWatch w x).linkA = s.linkA ∧ (s.setWatch w x).linkS = s.linkS := by
  unfold State.setWatch
  try dsimp only
  simp

@[simp] theorem State.setStage_frame (s : State) (n : StageNo) (x : Stage) :
    (s.setStage n x).pending = s.pending ∧ (s.setStage n x).boot = s.boot ∧ (s.setStage n x).clock = s.clock ∧
    (s.setStage n x).resetTime = s.resetTime ∧ (s.setStage n x).pins = s.pins ∧ (s.setStage n x).mfe = s.mfe ∧
    (s.setStage n x).dry = s.dry ∧ (s.setStage n x).dmc = s.dmc ∧ (s.setStage n x).tgm = s.tgm ∧
    (s.setStage n x).csq = s.csq ∧ (s.setStage n x).cap = s.cap ∧ (s.setStage n x).sst = s.sst ∧
    (s.setStage n x).linkA = s.linkA ∧ (s.setStage n x).linkS = s.linkS := by
  unfold State.setStage
  try dsimp only
  simp

@[simp] theorem State.setChannel_frame (s : State) (ch : Channel) (x : ChannelState) :
    (s.setChannel ch x).pending = s.pending ∧ (s.setChannel ch x).boot = s.boot ∧
    (s.setChannel ch x).clock = s.clock ∧ (s.setChannel ch x).resetTime = s.resetTime ∧
    (s.setChannel ch x).pins = s.pins ∧ (s.setChannel ch x).dry = s.dry ∧ (s.setChannel ch x).dmc = s.dmc ∧
    (s.setChannel ch x).tgm = s.tgm ∧ (s.setChannel ch x).hsc = s.hsc ∧ (s.setChannel ch x).csq = s.csq ∧
    (s.setChannel ch x).cap = s.cap ∧ (s.setChannel ch x).sst = s.sst ∧ (s.setChannel ch x).linkA = s.linkA ∧
    (s.setChannel ch x).linkS = s.linkS := by
  unfold State.setChannel
  try dsimp only
  simp

/-! ### Capture pool -/

@[simp] theorem State.endCapture_frame (s : State) (u : Fin 3) (r : CaptureEnd) :
    (s.endCapture u r).pending = s.pending ∧ (s.endCapture u r).boot = s.boot ∧ (s.endCapture u r).clock = s.clock ∧
    (s.endCapture u r).resetTime = s.resetTime ∧ (s.endCapture u r).pins = s.pins ∧ (s.endCapture u r).mfe = s.mfe ∧
    (s.endCapture u r).dry = s.dry ∧ (s.endCapture u r).dmc = s.dmc ∧ (s.endCapture u r).tgm = s.tgm ∧
    (s.endCapture u r).hsc = s.hsc ∧ (s.endCapture u r).csq = s.csq ∧ (s.endCapture u r).sst = s.sst := by
  unfold State.endCapture
  try dsimp only
  repeat' split
  all_goals simp

@[simp] theorem State.endCaptures_frame (s : State) (p : Fin 3 → CaptureUnit → Bool) (r : CaptureEnd) :
    (s.endCaptures p r).pending = s.pending ∧ (s.endCaptures p r).boot = s.boot ∧
    (s.endCaptures p r).clock = s.clock ∧ (s.endCaptures p r).resetTime = s.resetTime ∧
    (s.endCaptures p r).pins = s.pins ∧ (s.endCaptures p r).mfe = s.mfe ∧ (s.endCaptures p r).dry = s.dry ∧
    (s.endCaptures p r).dmc = s.dmc ∧ (s.endCaptures p r).tgm = s.tgm ∧ (s.endCaptures p r).hsc = s.hsc ∧
    (s.endCaptures p r).csq = s.csq ∧ (s.endCaptures p r).sst = s.sst := by
  unfold State.endCaptures
  refine ⟨?_, ?_, ?_, ?_, ?_, ?_, ?_, ?_, ?_, ?_, ?_, ?_⟩ <;> (refine foldl_keep _ _ ?_ _ _; intro a b; split <;> simp)

@[simp] theorem State.modTakers_frame (s : State) (mine : Triple Bool) (f : CaptureUnit → CaptureUnit) :
    (s.modTakers mine f).pending = s.pending ∧ (s.modTakers mine f).boot = s.boot ∧
    (s.modTakers mine f).clock = s.clock ∧ (s.modTakers mine f).resetTime = s.resetTime ∧
    (s.modTakers mine f).pins = s.pins ∧ (s.modTakers mine f).mfe = s.mfe ∧ (s.modTakers mine f).dry = s.dry ∧
    (s.modTakers mine f).dmc = s.dmc ∧ (s.modTakers mine f).tgm = s.tgm ∧ (s.modTakers mine f).hsc = s.hsc ∧
    (s.modTakers mine f).csq = s.csq ∧ (s.modTakers mine f).sst = s.sst ∧ (s.modTakers mine f).linkA = s.linkA ∧
    (s.modTakers mine f).linkS = s.linkS := by
  unfold State.modTakers
  refine ⟨?_, ?_, ?_, ?_, ?_, ?_, ?_, ?_, ?_, ?_, ?_, ?_, ?_, ?_⟩ <;> (refine foldl_keep _ _ ?_ _ _; intro a b; split <;> simp)

@[simp] theorem State.takeFor_frame (s : State) (l : Link) (mine : Triple Bool) (r : Record) :
    (s.takeFor l mine r).pending = s.pending ∧ (s.takeFor l mine r).boot = s.boot ∧
    (s.takeFor l mine r).clock = s.clock ∧ (s.takeFor l mine r).resetTime = s.resetTime ∧
    (s.takeFor l mine r).pins = s.pins ∧ (s.takeFor l mine r).mfe = s.mfe ∧ (s.takeFor l mine r).dry = s.dry ∧
    (s.takeFor l mine r).dmc = s.dmc ∧ (s.takeFor l mine r).tgm = s.tgm ∧ (s.takeFor l mine r).hsc = s.hsc ∧
    (s.takeFor l mine r).csq = s.csq ∧ (s.takeFor l mine r).sst = s.sst := by
  unfold State.takeFor
  try dsimp only
  repeat' split
  all_goals simp

@[simp] theorem State.offerRecord_frame (s : State) (r : Record) :
    (s.offerRecord r).pending = s.pending ∧ (s.offerRecord r).boot = s.boot ∧ (s.offerRecord r).clock = s.clock ∧
    (s.offerRecord r).resetTime = s.resetTime ∧ (s.offerRecord r).pins = s.pins ∧ (s.offerRecord r).mfe = s.mfe ∧
    (s.offerRecord r).dry = s.dry ∧ (s.offerRecord r).dmc = s.dmc ∧ (s.offerRecord r).tgm = s.tgm ∧
    (s.offerRecord r).hsc = s.hsc ∧ (s.offerRecord r).csq = s.csq ∧ (s.offerRecord r).sst = s.sst := by
  unfold State.offerRecord
  try dsimp only
  repeat' split
  all_goals simp

@[simp] theorem State.startCaptures_frame (s : State) (p : StartCond → Bool) :
    (s.startCaptures p).pending = s.pending ∧ (s.startCaptures p).boot = s.boot ∧
    (s.startCaptures p).clock = s.clock ∧ (s.startCaptures p).resetTime = s.resetTime ∧
    (s.startCaptures p).pins = s.pins ∧ (s.startCaptures p).mfe = s.mfe ∧ (s.startCaptures p).dry = s.dry ∧
    (s.startCaptures p).dmc = s.dmc ∧ (s.startCaptures p).tgm = s.tgm ∧ (s.startCaptures p).hsc = s.hsc ∧
    (s.startCaptures p).csq = s.csq ∧ (s.startCaptures p).sst = s.sst ∧ (s.startCaptures p).linkA = s.linkA ∧
    (s.startCaptures p).linkS = s.linkS := by
  unfold State.startCaptures
  try dsimp only
  simp

@[simp] theorem State.offerAround_frame (s : State) (st : StartCond → Bool) (en : EndCond → Bool) (why : CaptureEnd) (r : Record) :
    (s.offerAround st en why r).pending = s.pending ∧ (s.offerAround st en why r).boot = s.boot ∧
    (s.offerAround st en why r).clock = s.clock ∧ (s.offerAround st en why r).resetTime = s.resetTime ∧
    (s.offerAround st en why r).pins = s.pins ∧ (s.offerAround st en why r).mfe = s.mfe ∧
    (s.offerAround st en why r).dry = s.dry ∧ (s.offerAround st en why r).dmc = s.dmc ∧
    (s.offerAround st en why r).tgm = s.tgm ∧ (s.offerAround st en why r).hsc = s.hsc ∧
    (s.offerAround st en why r).csq = s.csq ∧ (s.offerAround st en why r).sst = s.sst := by
  unfold State.offerAround
  try dsimp only
  simp

@[simp] theorem State.offerPhase_frame (s : State) (left entered : Phase) (cause : Cause) :
    (s.offerPhase left entered cause).pending = s.pending ∧ (s.offerPhase left entered cause).boot = s.boot ∧
    (s.offerPhase left entered cause).clock = s.clock ∧ (s.offerPhase left entered cause).resetTime = s.resetTime ∧
    (s.offerPhase left entered cause).pins = s.pins ∧ (s.offerPhase left entered cause).mfe = s.mfe ∧
    (s.offerPhase left entered cause).dry = s.dry ∧ (s.offerPhase left entered cause).dmc = s.dmc ∧
    (s.offerPhase left entered cause).tgm = s.tgm ∧ (s.offerPhase left entered cause).hsc = s.hsc ∧
    (s.offerPhase left entered cause).csq = s.csq ∧ (s.offerPhase left entered cause).sst = s.sst := by
  unfold State.offerPhase
  try dsimp only
  simp

@[simp] theorem State.claimCapture_frame (s : State) (l : Link) :
    (s.claimCapture l).pending = s.pending ∧ (s.claimCapture l).boot = s.boot ∧ (s.claimCapture l).clock = s.clock ∧
    (s.claimCapture l).resetTime = s.resetTime ∧ (s.claimCapture l).pins = s.pins ∧ (s.claimCapture l).mfe = s.mfe ∧
    (s.claimCapture l).dry = s.dry ∧ (s.claimCapture l).dmc = s.dmc ∧ (s.claimCapture l).tgm = s.tgm ∧
    (s.claimCapture l).hsc = s.hsc ∧ (s.claimCapture l).csq = s.csq ∧ (s.claimCapture l).sst = s.sst := by
  unfold State.claimCapture
  try dsimp only
  repeat' split
  all_goals simp

@[simp] theorem State.configureUnit_frame (s : State) (l : Link) (unit : Byte) (sources : Half) (sf sa ef : Byte) (ea : Half) (d p : Byte) :
    (s.configureUnit l unit sources sf sa ef ea d p).pending = s.pending ∧
    (s.configureUnit l unit sources sf sa ef ea d p).boot = s.boot ∧
    (s.configureUnit l unit sources sf sa ef ea d p).clock = s.clock ∧
    (s.configureUnit l unit sources sf sa ef ea d p).resetTime = s.resetTime ∧
    (s.configureUnit l unit sources sf sa ef ea d p).pins = s.pins ∧
    (s.configureUnit l unit sources sf sa ef ea d p).mfe = s.mfe ∧
    (s.configureUnit l unit sources sf sa ef ea d p).dry = s.dry ∧
    (s.configureUnit l unit sources sf sa ef ea d p).dmc = s.dmc ∧
    (s.configureUnit l unit sources sf sa ef ea d p).tgm = s.tgm ∧
    (s.configureUnit l unit sources sf sa ef ea d p).hsc = s.hsc ∧
    (s.configureUnit l unit sources sf sa ef ea d p).csq = s.csq ∧
    (s.configureUnit l unit sources sf sa ef ea d p).sst = s.sst := by
  unfold State.configureUnit State.withUnit
  try dsimp only
  repeat' split
  all_goals simp

@[simp] theorem State.armUnit_frame (s : State) (l : Link) (unit : Byte) :
    (s.armUnit l unit).pending = s.pending ∧ (s.armUnit l unit).boot = s.boot ∧ (s.armUnit l unit).clock = s.clock ∧
    (s.armUnit l unit).resetTime = s.resetTime ∧ (s.armUnit l unit).pins = s.pins ∧ (s.armUnit l unit).mfe = s.mfe ∧
    (s.armUnit l unit).dry = s.dry ∧ (s.armUnit l unit).dmc = s.dmc ∧ (s.armUnit l unit).tgm = s.tgm ∧
    (s.armUnit l unit).hsc = s.hsc ∧ (s.armUnit l unit).csq = s.csq ∧ (s.armUnit l unit).sst = s.sst := by
  unfold State.armUnit State.withUnit
  try dsimp only
  repeat' split
  all_goals simp

@[simp] theorem State.stopUnit_frame (s : State) (l : Link) (unit : Byte) :
    (s.stopUnit l unit).pending = s.pending ∧ (s.stopUnit l unit).boot = s.boot ∧
    (s.stopUnit l unit).clock = s.clock ∧ (s.stopUnit l unit).resetTime = s.resetTime ∧
    (s.stopUnit l unit).pins = s.pins ∧ (s.stopUnit l unit).mfe = s.mfe ∧ (s.stopUnit l unit).dry = s.dry ∧
    (s.stopUnit l unit).dmc = s.dmc ∧ (s.stopUnit l unit).tgm = s.tgm ∧ (s.stopUnit l unit).hsc = s.hsc ∧
    (s.stopUnit l unit).csq = s.csq ∧ (s.stopUnit l unit).sst = s.sst := by
  unfold State.stopUnit State.withUnit
  try dsimp only
  repeat' split
  all_goals simp

@[simp] theorem State.releaseUnit_frame (s : State) (l : Link) (unit : Byte) :
    (s.releaseUnit l unit).pending = s.pending ∧ (s.releaseUnit l unit).boot = s.boot ∧
    (s.releaseUnit l unit).clock = s.clock ∧ (s.releaseUnit l unit).resetTime = s.resetTime ∧
    (s.releaseUnit l unit).pins = s.pins ∧ (s.releaseUnit l unit).mfe = s.mfe ∧ (s.releaseUnit l unit).dry = s.dry ∧
    (s.releaseUnit l unit).dmc = s.dmc ∧ (s.releaseUnit l unit).tgm = s.tgm ∧ (s.releaseUnit l unit).hsc = s.hsc ∧
    (s.releaseUnit l unit).csq = s.csq ∧ (s.releaseUnit l unit).sst = s.sst := by
  unfold State.releaseUnit State.withUnit
  try dsimp only
  repeat' split
  all_goals simp

/-! ### Measurement front end -/

@[simp] theorem State.convertPlain_frame (s : State) (ch : Channel) (c : Code) :
    (s.convertPlain ch c).pending = s.pending ∧ (s.convertPlain ch c).boot = s.boot ∧
    (s.convertPlain ch c).clock = s.clock ∧ (s.convertPlain ch c).resetTime = s.resetTime ∧
    (s.convertPlain ch c).pins = s.pins ∧ (s.convertPlain ch c).dry = s.dry ∧ (s.convertPlain ch c).dmc = s.dmc ∧
    (s.convertPlain ch c).tgm = s.tgm ∧ (s.convertPlain ch c).hsc = s.hsc ∧ (s.convertPlain ch c).csq = s.csq ∧
    (s.convertPlain ch c).cap = s.cap ∧ (s.convertPlain ch c).sst = s.sst ∧ (s.convertPlain ch c).linkA = s.linkA ∧
    (s.convertPlain ch c).linkS = s.linkS := by
  unfold State.convertPlain
  try dsimp only
  simp

@[simp] theorem State.reverseBars_frame (s : State) :
    (s.reverseBars).pending = s.pending ∧ (s.reverseBars).boot = s.boot ∧ (s.reverseBars).clock = s.clock ∧
    (s.reverseBars).resetTime = s.resetTime ∧ (s.reverseBars).pins = s.pins ∧ (s.reverseBars).dry = s.dry ∧
    (s.reverseBars).dmc = s.dmc ∧ (s.reverseBars).tgm = s.tgm ∧ (s.reverseBars).hsc = s.hsc ∧
    (s.reverseBars).csq = s.csq ∧ (s.reverseBars).cap = s.cap ∧ (s.reverseBars).sst = s.sst ∧
    (s.reverseBars).linkA = s.linkA ∧ (s.reverseBars).linkS = s.linkS := by
  unfold State.reverseBars
  try dsimp only
  simp

@[simp] theorem State.endRound_frame (s : State) :
    (s.endRound).pending = s.pending ∧ (s.endRound).boot = s.boot ∧ (s.endRound).clock = s.clock ∧
    (s.endRound).resetTime = s.resetTime ∧ (s.endRound).pins = s.pins ∧ (s.endRound).dry = s.dry ∧
    (s.endRound).dmc = s.dmc ∧ (s.endRound).tgm = s.tgm ∧ (s.endRound).hsc = s.hsc ∧ (s.endRound).csq = s.csq ∧
    (s.endRound).cap = s.cap ∧ (s.endRound).sst = s.sst := by
  unfold State.endRound
  try dsimp only
  repeat' split
  all_goals simp

@[simp] theorem State.roundDone_frame (s : State) (ch : Channel) :
    (s.roundDone ch).pending = s.pending ∧ (s.roundDone ch).boot = s.boot ∧ (s.roundDone ch).clock = s.clock ∧
    (s.roundDone ch).resetTime = s.resetTime ∧ (s.roundDone ch).pins = s.pins ∧ (s.roundDone ch).dry = s.dry ∧
    (s.roundDone ch).dmc = s.dmc ∧ (s.roundDone ch).tgm = s.tgm ∧ (s.roundDone ch).hsc = s.hsc ∧
    (s.roundDone ch).csq = s.csq ∧ (s.roundDone ch).cap = s.cap ∧ (s.roundDone ch).sst = s.sst ∧
    (s.roundDone ch).linkA = s.linkA ∧ (s.roundDone ch).linkS = s.linkS := by
  unfold State.roundDone
  try dsimp only
  repeat' split
  all_goals simp

@[simp] theorem State.measureRequest_frame (s : State) (l : Link) :
    (s.measureRequest l).pending = s.pending ∧ (s.measureRequest l).boot = s.boot ∧
    (s.measureRequest l).clock = s.clock ∧ (s.measureRequest l).resetTime = s.resetTime ∧
    (s.measureRequest l).pins = s.pins ∧ (s.measureRequest l).dry = s.dry ∧ (s.measureRequest l).dmc = s.dmc ∧
    (s.measureRequest l).tgm = s.tgm ∧ (s.measureRequest l).hsc = s.hsc ∧ (s.measureRequest l).csq = s.csq ∧
    (s.measureRequest l).cap = s.cap ∧ (s.measureRequest l).sst = s.sst := by
  unfold State.measureRequest
  try dsimp only
  repeat' split
  all_goals simp

@[simp] theorem State.readRequest_frame (s : State) (l : Link) (qs : List Byte) :
    (s.readRequest l qs).pending = s.pending ∧ (s.readRequest l qs).boot = s.boot ∧
    (s.readRequest l qs).clock = s.clock ∧ (s.readRequest l qs).resetTime = s.resetTime ∧
    (s.readRequest l qs).pins = s.pins ∧ (s.readRequest l qs).dry = s.dry ∧ (s.readRequest l qs).dmc = s.dmc ∧
    (s.readRequest l qs).tgm = s.tgm ∧ (s.readRequest l qs).hsc = s.hsc ∧ (s.readRequest l qs).csq = s.csq ∧
    (s.readRequest l qs).cap = s.cap ∧ (s.readRequest l qs).sst = s.sst := by
  unfold State.readRequest
  try dsimp only
  repeat' split
  all_goals simp

@[simp] theorem State.followFront_frame (s : State) (entered : Phase) :
    (s.followFront entered).pending = s.pending ∧ (s.followFront entered).boot = s.boot ∧
    (s.followFront entered).clock = s.clock ∧ (s.followFront entered).resetTime = s.resetTime ∧
    (s.followFront entered).pins = s.pins ∧ (s.followFront entered).dry = s.dry ∧
    (s.followFront entered).dmc = s.dmc ∧ (s.followFront entered).tgm = s.tgm ∧
    (s.followFront entered).hsc = s.hsc ∧ (s.followFront entered).csq = s.csq ∧
    (s.followFront entered).cap = s.cap ∧ (s.followFront entered).sst = s.sst ∧
    (s.followFront entered).linkA = s.linkA ∧ (s.followFront entered).linkS = s.linkS := by
  unfold State.followFront
  try dsimp only
  repeat' split
  all_goals simp

@[simp] theorem State.resetFront_frame (s : State) (l : Link) :
    (s.resetFront l).pending = s.pending ∧ (s.resetFront l).boot = s.boot ∧ (s.resetFront l).clock = s.clock ∧
    (s.resetFront l).resetTime = s.resetTime ∧ (s.resetFront l).pins = s.pins ∧ (s.resetFront l).dry = s.dry ∧
    (s.resetFront l).dmc = s.dmc ∧ (s.resetFront l).tgm = s.tgm ∧ (s.resetFront l).hsc = s.hsc ∧
    (s.resetFront l).csq = s.csq ∧ (s.resetFront l).cap = s.cap ∧ (s.resetFront l).sst = s.sst ∧
    (s.resetFront l).linkA = s.linkA ∧ (s.resetFront l).linkS = s.linkS := by
  unfold State.resetFront
  try dsimp only
  simp

/-! ### Dryness estimator -/

@[simp] theorem State.startWindow_frame (s : State) :
    (s.startWindow).pending = s.pending ∧ (s.startWindow).boot = s.boot ∧ (s.startWindow).clock = s.clock ∧
    (s.startWindow).resetTime = s.resetTime ∧ (s.startWindow).pins = s.pins ∧ (s.startWindow).mfe = s.mfe ∧
    (s.startWindow).dmc = s.dmc ∧ (s.startWindow).tgm = s.tgm ∧ (s.startWindow).hsc = s.hsc ∧
    (s.startWindow).csq = s.csq ∧ (s.startWindow).cap = s.cap ∧ (s.startWindow).sst = s.sst ∧
    (s.startWindow).linkA = s.linkA ∧ (s.startWindow).linkS = s.linkS := by
  unfold State.startWindow
  try dsimp only
  simp

@[simp] theorem State.discardWindow_frame (s : State) :
    (s.discardWindow).pending = s.pending ∧ (s.discardWindow).boot = s.boot ∧ (s.discardWindow).clock = s.clock ∧
    (s.discardWindow).resetTime = s.resetTime ∧ (s.discardWindow).pins = s.pins ∧ (s.discardWindow).mfe = s.mfe ∧
    (s.discardWindow).dmc = s.dmc ∧ (s.discardWindow).tgm = s.tgm ∧ (s.discardWindow).hsc = s.hsc ∧
    (s.discardWindow).csq = s.csq ∧ (s.discardWindow).cap = s.cap ∧ (s.discardWindow).sst = s.sst ∧
    (s.discardWindow).linkA = s.linkA ∧ (s.discardWindow).linkS = s.linkS := by
  unfold State.discardWindow
  try dsimp only
  simp

@[simp] theorem State.modWindow_frame (s : State) (f : Window → Window) :
    (s.modWindow f).pending = s.pending ∧ (s.modWindow f).boot = s.boot ∧ (s.modWindow f).clock = s.clock ∧
    (s.modWindow f).resetTime = s.resetTime ∧ (s.modWindow f).pins = s.pins ∧ (s.modWindow f).mfe = s.mfe ∧
    (s.modWindow f).dmc = s.dmc ∧ (s.modWindow f).tgm = s.tgm ∧ (s.modWindow f).hsc = s.hsc ∧
    (s.modWindow f).csq = s.csq ∧ (s.modWindow f).cap = s.cap ∧ (s.modWindow f).sst = s.sst ∧
    (s.modWindow f).linkA = s.linkA ∧ (s.modWindow f).linkS = s.linkS := by
  unfold State.modWindow
  try dsimp only
  simp

@[simp] theorem State.markBurst_frame (s : State) :
    (s.markBurst).pending = s.pending ∧ (s.markBurst).boot = s.boot ∧ (s.markBurst).clock = s.clock ∧
    (s.markBurst).resetTime = s.resetTime ∧ (s.markBurst).pins = s.pins ∧ (s.markBurst).mfe = s.mfe ∧
    (s.markBurst).dmc = s.dmc ∧ (s.markBurst).tgm = s.tgm ∧ (s.markBurst).hsc = s.hsc ∧ (s.markBurst).csq = s.csq ∧
    (s.markBurst).cap = s.cap ∧ (s.markBurst).sst = s.sst ∧ (s.markBurst).linkA = s.linkA ∧
    (s.markBurst).linkS = s.linkS := by
  unfold State.markBurst
  try dsimp only
  simp

@[simp] theorem State.endContact_frame (s : State) (c : Contact) :
    (s.endContact c).pending = s.pending ∧ (s.endContact c).boot = s.boot ∧ (s.endContact c).clock = s.clock ∧
    (s.endContact c).resetTime = s.resetTime ∧ (s.endContact c).pins = s.pins ∧ (s.endContact c).mfe = s.mfe ∧
    (s.endContact c).dmc = s.dmc ∧ (s.endContact c).tgm = s.tgm ∧ (s.endContact c).hsc = s.hsc ∧
    (s.endContact c).csq = s.csq ∧ (s.endContact c).sst = s.sst := by
  unfold State.endContact
  try dsimp only
  simp

@[simp] theorem State.keepContact_frame (s : State) (c : Contact) :
    (s.keepContact c).pending = s.pending ∧ (s.keepContact c).boot = s.boot ∧ (s.keepContact c).clock = s.clock ∧
    (s.keepContact c).resetTime = s.resetTime ∧ (s.keepContact c).pins = s.pins ∧ (s.keepContact c).mfe = s.mfe ∧
    (s.keepContact c).dmc = s.dmc ∧ (s.keepContact c).tgm = s.tgm ∧ (s.keepContact c).hsc = s.hsc ∧
    (s.keepContact c).csq = s.csq ∧ (s.keepContact c).cap = s.cap ∧ (s.keepContact c).sst = s.sst ∧
    (s.keepContact c).linkA = s.linkA ∧ (s.keepContact c).linkS = s.linkS := by
  unfold State.keepContact
  try dsimp only
  repeat' split
  all_goals simp

@[simp] theorem State.barSample_frame (s : State) (g : Nat) :
    (s.barSample g).pending = s.pending ∧ (s.barSample g).boot = s.boot ∧ (s.barSample g).clock = s.clock ∧
    (s.barSample g).resetTime = s.resetTime ∧ (s.barSample g).pins = s.pins ∧ (s.barSample g).mfe = s.mfe ∧
    (s.barSample g).dmc = s.dmc ∧ (s.barSample g).tgm = s.tgm ∧ (s.barSample g).hsc = s.hsc ∧
    (s.barSample g).csq = s.csq ∧ (s.barSample g).sst = s.sst := by
  unfold State.barSample
  try dsimp only
  repeat' split
  all_goals simp

@[simp] theorem State.endContactOnLeaving_frame (s : State) :
    (s.endContactOnLeaving).pending = s.pending ∧ (s.endContactOnLeaving).boot = s.boot ∧
    (s.endContactOnLeaving).clock = s.clock ∧ (s.endContactOnLeaving).resetTime = s.resetTime ∧
    (s.endContactOnLeaving).pins = s.pins ∧ (s.endContactOnLeaving).mfe = s.mfe ∧
    (s.endContactOnLeaving).dmc = s.dmc ∧ (s.endContactOnLeaving).tgm = s.tgm ∧
    (s.endContactOnLeaving).hsc = s.hsc ∧ (s.endContactOnLeaving).csq = s.csq ∧ (s.endContactOnLeaving).sst = s.sst := by
  unfold State.endContactOnLeaving
  try dsimp only
  repeat' split
  all_goals simp

/-! ### Heat stage controller -/

@[simp] theorem State.stageOff_frame (s : State) (n : StageNo) :
    (s.stageOff n).pending = s.pending ∧ (s.stageOff n).boot = s.boot ∧ (s.stageOff n).clock = s.clock ∧
    (s.stageOff n).resetTime = s.resetTime ∧ (s.stageOff n).pins = s.pins ∧ (s.stageOff n).mfe = s.mfe ∧
    (s.stageOff n).dry = s.dry ∧ (s.stageOff n).dmc = s.dmc ∧ (s.stageOff n).tgm = s.tgm ∧
    (s.stageOff n).csq = s.csq ∧ (s.stageOff n).cap = s.cap ∧ (s.stageOff n).sst = s.sst ∧
    (s.stageOff n).linkA = s.linkA ∧ (s.stageOff n).linkS = s.linkS := by
  unfold State.stageOff
  try dsimp only
  repeat' split
  all_goals simp

@[simp] theorem State.stageOn_frame (s : State) (n : StageNo) :
    (s.stageOn n).pending = s.pending ∧ (s.stageOn n).boot = s.boot ∧ (s.stageOn n).clock = s.clock ∧
    (s.stageOn n).resetTime = s.resetTime ∧ (s.stageOn n).pins = s.pins ∧ (s.stageOn n).mfe = s.mfe ∧
    (s.stageOn n).dry = s.dry ∧ (s.stageOn n).dmc = s.dmc ∧ (s.stageOn n).tgm = s.tgm ∧ (s.stageOn n).csq = s.csq ∧
    (s.stageOn n).cap = s.cap ∧ (s.stageOn n).sst = s.sst ∧ (s.stageOn n).linkA = s.linkA ∧
    (s.stageOn n).linkS = s.linkS := by
  unfold State.stageOn
  try dsimp only
  simp

@[simp] theorem State.stagesOff_frame (s : State) (ns : List StageNo) :
    (s.stagesOff ns).pending = s.pending ∧ (s.stagesOff ns).boot = s.boot ∧ (s.stagesOff ns).clock = s.clock ∧
    (s.stagesOff ns).resetTime = s.resetTime ∧ (s.stagesOff ns).pins = s.pins ∧ (s.stagesOff ns).mfe = s.mfe ∧
    (s.stagesOff ns).dry = s.dry ∧ (s.stagesOff ns).dmc = s.dmc ∧ (s.stagesOff ns).tgm = s.tgm ∧
    (s.stagesOff ns).csq = s.csq ∧ (s.stagesOff ns).cap = s.cap ∧ (s.stagesOff ns).sst = s.sst ∧
    (s.stagesOff ns).linkA = s.linkA ∧ (s.stagesOff ns).linkS = s.linkS := by
  unfold State.stagesOff
  refine ⟨?_, ?_, ?_, ?_, ?_, ?_, ?_, ?_, ?_, ?_, ?_, ?_, ?_, ?_⟩ <;> (refine foldl_keep _ _ ?_ _ _; intro a b; simp)

@[simp] theorem State.shedAll_frame (s : State) :
    (s.shedAll).pending = s.pending ∧ (s.shedAll).boot = s.boot ∧ (s.shedAll).clock = s.clock ∧
    (s.shedAll).resetTime = s.resetTime ∧ (s.shedAll).pins = s.pins ∧ (s.shedAll).mfe = s.mfe ∧
    (s.shedAll).dry = s.dry ∧ (s.shedAll).dmc = s.dmc ∧ (s.shedAll).tgm = s.tgm ∧ (s.shedAll).csq = s.csq ∧
    (s.shedAll).cap = s.cap ∧ (s.shedAll).sst = s.sst ∧ (s.shedAll).linkA = s.linkA ∧ (s.shedAll).linkS = s.linkS := by
  unfold State.shedAll
  try dsimp only
  simp

@[simp] theorem State.shedToCap_frame (s : State) :
    (s.shedToCap).pending = s.pending ∧ (s.shedToCap).boot = s.boot ∧ (s.shedToCap).clock = s.clock ∧
    (s.shedToCap).resetTime = s.resetTime ∧ (s.shedToCap).pins = s.pins ∧ (s.shedToCap).mfe = s.mfe ∧
    (s.shedToCap).dry = s.dry ∧ (s.shedToCap).dmc = s.dmc ∧ (s.shedToCap).tgm = s.tgm ∧ (s.shedToCap).csq = s.csq ∧
    (s.shedToCap).cap = s.cap ∧ (s.shedToCap).sst = s.sst ∧ (s.shedToCap).linkA = s.linkA ∧
    (s.shedToCap).linkS = s.linkS := by
  unfold State.shedToCap
  try dsimp only
  simp

@[simp] theorem State.setInletCap_frame (s : State) (c : Nat) :
    (s.setInletCap c).pending = s.pending ∧ (s.setInletCap c).boot = s.boot ∧ (s.setInletCap c).clock = s.clock ∧
    (s.setInletCap c).resetTime = s.resetTime ∧ (s.setInletCap c).pins = s.pins ∧ (s.setInletCap c).mfe = s.mfe ∧
    (s.setInletCap c).dry = s.dry ∧ (s.setInletCap c).dmc = s.dmc ∧ (s.setInletCap c).tgm = s.tgm ∧
    (s.setInletCap c).csq = s.csq ∧ (s.setInletCap c).cap = s.cap ∧ (s.setInletCap c).sst = s.sst ∧
    (s.setInletCap c).linkA = s.linkA ∧ (s.setInletCap c).linkS = s.linkS := by
  unfold State.setInletCap
  try dsimp only
  simp

@[simp] theorem State.updateInletCap_frame (s : State) :
    (s.updateInletCap).pending = s.pending ∧ (s.updateInletCap).boot = s.boot ∧ (s.updateInletCap).clock = s.clock ∧
    (s.updateInletCap).resetTime = s.resetTime ∧ (s.updateInletCap).pins = s.pins ∧ (s.updateInletCap).mfe = s.mfe ∧
    (s.updateInletCap).dry = s.dry ∧ (s.updateInletCap).dmc = s.dmc ∧ (s.updateInletCap).tgm = s.tgm ∧
    (s.updateInletCap).csq = s.csq ∧ (s.updateInletCap).cap = s.cap ∧ (s.updateInletCap).sst = s.sst ∧
    (s.updateInletCap).linkA = s.linkA ∧ (s.updateInletCap).linkS = s.linkS := by
  unfold State.updateInletCap
  try dsimp only
  simp

@[simp] theorem State.setTangleCap_frame (s : State) (flag : Bool) :
    (s.setTangleCap flag).pending = s.pending ∧ (s.setTangleCap flag).boot = s.boot ∧
    (s.setTangleCap flag).clock = s.clock ∧ (s.setTangleCap flag).resetTime = s.resetTime ∧
    (s.setTangleCap flag).pins = s.pins ∧ (s.setTangleCap flag).mfe = s.mfe ∧ (s.setTangleCap flag).dry = s.dry ∧
    (s.setTangleCap flag).dmc = s.dmc ∧ (s.setTangleCap flag).tgm = s.tgm ∧ (s.setTangleCap flag).csq = s.csq ∧
    (s.setTangleCap flag).cap = s.cap ∧ (s.setTangleCap flag).sst = s.sst ∧ (s.setTangleCap flag).linkA = s.linkA ∧
    (s.setTangleCap flag).linkS = s.linkS := by
  unfold State.setTangleCap
  try dsimp only
  repeat' split
  all_goals simp

@[simp] theorem State.dropUnavailable_frame (s : State) :
    (s.dropUnavailable).pending = s.pending ∧ (s.dropUnavailable).boot = s.boot ∧
    (s.dropUnavailable).clock = s.clock ∧ (s.dropUnavailable).resetTime = s.resetTime ∧
    (s.dropUnavailable).pins = s.pins ∧ (s.dropUnavailable).mfe = s.mfe ∧ (s.dropUnavailable).dry = s.dry ∧
    (s.dropUnavailable).dmc = s.dmc ∧ (s.dropUnavailable).tgm = s.tgm ∧ (s.dropUnavailable).csq = s.csq ∧
    (s.dropUnavailable).cap = s.cap ∧ (s.dropUnavailable).sst = s.sst ∧ (s.dropUnavailable).linkA = s.linkA ∧
    (s.dropUnavailable).linkS = s.linkS := by
  unfold State.dropUnavailable
  try dsimp only
  simp

@[simp] theorem State.enforce_frame (s : State) :
    (s.enforce).pending = s.pending ∧ (s.enforce).boot = s.boot ∧ (s.enforce).clock = s.clock ∧
    (s.enforce).resetTime = s.resetTime ∧ (s.enforce).pins = s.pins ∧ (s.enforce).mfe = s.mfe ∧
    (s.enforce).dry = s.dry ∧ (s.enforce).dmc = s.dmc ∧ (s.enforce).tgm = s.tgm ∧ (s.enforce).csq = s.csq ∧
    (s.enforce).cap = s.cap ∧ (s.enforce).sst = s.sst ∧ (s.enforce).linkA = s.linkA ∧ (s.enforce).linkS = s.linkS := by
  unfold State.enforce
  try dsimp only
  repeat' split
  all_goals simp

@[simp] theorem State.heatTurningBegins_frame (s : State) :
    (s.heatTurningBegins).pending = s.pending ∧ (s.heatTurningBegins).boot = s.boot ∧
    (s.heatTurningBegins).clock = s.clock ∧ (s.heatTurningBegins).resetTime = s.resetTime ∧
    (s.heatTurningBegins).pins = s.pins ∧ (s.heatTurningBegins).mfe = s.mfe ∧ (s.heatTurningBegins).dry = s.dry ∧
    (s.heatTurningBegins).dmc = s.dmc ∧ (s.heatTurningBegins).tgm = s.tgm ∧ (s.heatTurningBegins).csq = s.csq ∧
    (s.heatTurningBegins).cap = s.cap ∧ (s.heatTurningBegins).sst = s.sst ∧ (s.heatTurningBegins).linkA = s.linkA ∧
    (s.heatTurningBegins).linkS = s.linkS := by
  unfold State.heatTurningBegins
  try dsimp only
  simp

@[simp] theorem State.heatTurningEnds_frame (s : State) :
    (s.heatTurningEnds).pending = s.pending ∧ (s.heatTurningEnds).boot = s.boot ∧
    (s.heatTurningEnds).clock = s.clock ∧ (s.heatTurningEnds).resetTime = s.resetTime ∧
    (s.heatTurningEnds).pins = s.pins ∧ (s.heatTurningEnds).mfe = s.mfe ∧ (s.heatTurningEnds).dry = s.dry ∧
    (s.heatTurningEnds).dmc = s.dmc ∧ (s.heatTurningEnds).tgm = s.tgm ∧ (s.heatTurningEnds).csq = s.csq ∧
    (s.heatTurningEnds).cap = s.cap ∧ (s.heatTurningEnds).sst = s.sst ∧ (s.heatTurningEnds).linkA = s.linkA ∧
    (s.heatTurningEnds).linkS = s.linkS := by
  unfold State.heatTurningEnds
  try dsimp only
  repeat' split
  all_goals simp

@[simp] theorem State.computeDemand_frame (s : State) :
    (s.computeDemand).pending = s.pending ∧ (s.computeDemand).boot = s.boot ∧ (s.computeDemand).clock = s.clock ∧
    (s.computeDemand).resetTime = s.resetTime ∧ (s.computeDemand).pins = s.pins ∧ (s.computeDemand).mfe = s.mfe ∧
    (s.computeDemand).dmc = s.dmc ∧ (s.computeDemand).tgm = s.tgm ∧ (s.computeDemand).csq = s.csq ∧
    (s.computeDemand).cap = s.cap ∧ (s.computeDemand).sst = s.sst ∧ (s.computeDemand).linkA = s.linkA ∧
    (s.computeDemand).linkS = s.linkS := by
  unfold State.computeDemand
  try dsimp only
  repeat' split
  all_goals simp

@[simp] theorem State.switchStages_frame (s : State) :
    (s.switchStages).pending = s.pending ∧ (s.switchStages).boot = s.boot ∧ (s.switchStages).clock = s.clock ∧
    (s.switchStages).resetTime = s.resetTime ∧ (s.switchStages).pins = s.pins ∧ (s.switchStages).mfe = s.mfe ∧
    (s.switchStages).dry = s.dry ∧ (s.switchStages).dmc = s.dmc ∧ (s.switchStages).tgm = s.tgm ∧
    (s.switchStages).csq = s.csq ∧ (s.switchStages).cap = s.cap ∧ (s.switchStages).sst = s.sst ∧
    (s.switchStages).linkA = s.linkA ∧ (s.switchStages).linkS = s.linkS := by
  unfold State.switchStages
  try dsimp only
  repeat' split
  all_goals simp

@[simp] theorem State.recordAfter_frame (s : State) (v : Int) :
    (s.recordAfter v).pending = s.pending ∧ (s.recordAfter v).boot = s.boot ∧ (s.recordAfter v).clock = s.clock ∧
    (s.recordAfter v).resetTime = s.resetTime ∧ (s.recordAfter v).pins = s.pins ∧ (s.recordAfter v).mfe = s.mfe ∧
    (s.recordAfter v).dry = s.dry ∧ (s.recordAfter v).dmc = s.dmc ∧ (s.recordAfter v).tgm = s.tgm ∧
    (s.recordAfter v).csq = s.csq ∧ (s.recordAfter v).cap = s.cap ∧ (s.recordAfter v).sst = s.sst ∧
    (s.recordAfter v).linkA = s.linkA ∧ (s.recordAfter v).linkS = s.linkS := by
  unfold State.recordAfter
  try dsimp only
  simp

@[simp] theorem State.judgeTest_frame (s : State) (n : StageNo) :
    (s.judgeTest n).pending = s.pending ∧ (s.judgeTest n).boot = s.boot ∧ (s.judgeTest n).clock = s.clock ∧
    (s.judgeTest n).resetTime = s.resetTime ∧ (s.judgeTest n).pins = s.pins ∧ (s.judgeTest n).mfe = s.mfe ∧
    (s.judgeTest n).dry = s.dry ∧ (s.judgeTest n).dmc = s.dmc ∧ (s.judgeTest n).tgm = s.tgm ∧
    (s.judgeTest n).csq = s.csq ∧ (s.judgeTest n).cap = s.cap ∧ (s.judgeTest n).sst = s.sst := by
  unfold State.judgeTest
  try dsimp only
  repeat' split
  all_goals simp

@[simp] theorem State.judgeTests_frame (s : State) :
    (s.judgeTests).pending = s.pending ∧ (s.judgeTests).boot = s.boot ∧ (s.judgeTests).clock = s.clock ∧
    (s.judgeTests).resetTime = s.resetTime ∧ (s.judgeTests).pins = s.pins ∧ (s.judgeTests).mfe = s.mfe ∧
    (s.judgeTests).dry = s.dry ∧ (s.judgeTests).dmc = s.dmc ∧ (s.judgeTests).tgm = s.tgm ∧
    (s.judgeTests).csq = s.csq ∧ (s.judgeTests).cap = s.cap ∧ (s.judgeTests).sst = s.sst := by
  unfold State.judgeTests
  simp only [State.shedToCap_frame]
  refine ⟨?_, ?_, ?_, ?_, ?_, ?_, ?_, ?_, ?_, ?_, ?_, ?_⟩ <;> (refine foldl_keep _ _ ?_ _ _; intro a b; simp)

@[simp] theorem State.afterStuckCheck_frame (s : State) (v : Int) :
    (s.afterStuckCheck v).pending = s.pending ∧ (s.afterStuckCheck v).boot = s.boot ∧
    (s.afterStuckCheck v).clock = s.clock ∧ (s.afterStuckCheck v).resetTime = s.resetTime ∧
    (s.afterStuckCheck v).pins = s.pins ∧ (s.afterStuckCheck v).mfe = s.mfe ∧ (s.afterStuckCheck v).dry = s.dry ∧
    (s.afterStuckCheck v).dmc = s.dmc ∧ (s.afterStuckCheck v).tgm = s.tgm ∧ (s.afterStuckCheck v).csq = s.csq ∧
    (s.afterStuckCheck v).cap = s.cap ∧ (s.afterStuckCheck v).sst = s.sst ∧ (s.afterStuckCheck v).linkA = s.linkA ∧
    (s.afterStuckCheck v).linkS = s.linkS := by
  unfold State.afterStuckCheck
  try dsimp only
  repeat' split
  all_goals simp

@[simp] theorem State.fanOn_frame (s : State) :
    (s.fanOn).pending = s.pending ∧ (s.fanOn).boot = s.boot ∧ (s.fanOn).clock = s.clock ∧
    (s.fanOn).resetTime = s.resetTime ∧ (s.fanOn).pins = s.pins ∧ (s.fanOn).mfe = s.mfe ∧ (s.fanOn).dry = s.dry ∧
    (s.fanOn).dmc = s.dmc ∧ (s.fanOn).tgm = s.tgm ∧ (s.fanOn).csq = s.csq ∧ (s.fanOn).cap = s.cap ∧
    (s.fanOn).sst = s.sst ∧ (s.fanOn).linkA = s.linkA ∧ (s.fanOn).linkS = s.linkS := by
  unfold State.fanOn
  try dsimp only
  simp

@[simp] theorem State.fanOff_frame (s : State) :
    (s.fanOff).pending = s.pending ∧ (s.fanOff).boot = s.boot ∧ (s.fanOff).clock = s.clock ∧
    (s.fanOff).resetTime = s.resetTime ∧ (s.fanOff).pins = s.pins ∧ (s.fanOff).mfe = s.mfe ∧
    (s.fanOff).dry = s.dry ∧ (s.fanOff).dmc = s.dmc ∧ (s.fanOff).tgm = s.tgm ∧ (s.fanOff).csq = s.csq ∧
    (s.fanOff).cap = s.cap ∧ (s.fanOff).sst = s.sst ∧ (s.fanOff).linkA = s.linkA ∧ (s.fanOff).linkS = s.linkS := by
  unfold State.fanOff
  try dsimp only
  simp

@[simp] theorem State.fanDemandEnds_frame (s : State) :
    (s.fanDemandEnds).pending = s.pending ∧ (s.fanDemandEnds).boot = s.boot ∧ (s.fanDemandEnds).clock = s.clock ∧
    (s.fanDemandEnds).resetTime = s.resetTime ∧ (s.fanDemandEnds).pins = s.pins ∧ (s.fanDemandEnds).mfe = s.mfe ∧
    (s.fanDemandEnds).dry = s.dry ∧ (s.fanDemandEnds).dmc = s.dmc ∧ (s.fanDemandEnds).tgm = s.tgm ∧
    (s.fanDemandEnds).csq = s.csq ∧ (s.fanDemandEnds).cap = s.cap ∧ (s.fanDemandEnds).sst = s.sst ∧
    (s.fanDemandEnds).linkA = s.linkA ∧ (s.fanDemandEnds).linkS = s.linkS := by
  unfold State.fanDemandEnds
  try dsimp only
  repeat' split
  all_goals simp

@[simp] theorem State.followFan_frame (s : State) (entered : Phase) :
    (s.followFan entered).pending = s.pending ∧ (s.followFan entered).boot = s.boot ∧
    (s.followFan entered).clock = s.clock ∧ (s.followFan entered).resetTime = s.resetTime ∧
    (s.followFan entered).pins = s.pins ∧ (s.followFan entered).mfe = s.mfe ∧ (s.followFan entered).dry = s.dry ∧
    (s.followFan entered).dmc = s.dmc ∧ (s.followFan entered).tgm = s.tgm ∧ (s.followFan entered).csq = s.csq ∧
    (s.followFan entered).cap = s.cap ∧ (s.followFan entered).sst = s.sst ∧ (s.followFan entered).linkA = s.linkA ∧
    (s.followFan entered).linkS = s.linkS := by
  unfold State.followFan
  try dsimp only
  cases entered <;> (try dsimp only) <;> (repeat' split) <;> simp

@[simp] theorem State.followAirflow_frame (s : State) (left entered : Phase) :
    (s.followAirflow left entered).pending = s.pending ∧ (s.followAirflow left entered).boot = s.boot ∧
    (s.followAirflow left entered).clock = s.clock ∧ (s.followAirflow left entered).resetTime = s.resetTime ∧
    (s.followAirflow left entered).pins = s.pins ∧ (s.followAirflow left entered).mfe = s.mfe ∧
    (s.followAirflow left entered).dry = s.dry ∧ (s.followAirflow left entered).dmc = s.dmc ∧
    (s.followAirflow left entered).tgm = s.tgm ∧ (s.followAirflow left entered).csq = s.csq ∧
    (s.followAirflow left entered).cap = s.cap ∧ (s.followAirflow left entered).sst = s.sst ∧
    (s.followAirflow left entered).linkA = s.linkA ∧ (s.followAirflow left entered).linkS = s.linkS := by
  unfold State.followAirflow
  try dsimp only
  simp

@[simp] theorem State.followHeat_frame (s : State) (left entered : Phase) :
    (s.followHeat left entered).pending = s.pending ∧ (s.followHeat left entered).boot = s.boot ∧
    (s.followHeat left entered).clock = s.clock ∧ (s.followHeat left entered).resetTime = s.resetTime ∧
    (s.followHeat left entered).pins = s.pins ∧ (s.followHeat left entered).mfe = s.mfe ∧
    (s.followHeat left entered).dry = s.dry ∧ (s.followHeat left entered).dmc = s.dmc ∧
    (s.followHeat left entered).tgm = s.tgm ∧ (s.followHeat left entered).csq = s.csq ∧
    (s.followHeat left entered).cap = s.cap ∧ (s.followHeat left entered).sst = s.sst ∧
    (s.followHeat left entered).linkA = s.linkA ∧ (s.followHeat left entered).linkS = s.linkS := by
  unfold State.followHeat
  try dsimp only
  repeat' split
  all_goals simp

@[simp] theorem State.airflowSwitch_frame (s : State) (closed : Bool) :
    (s.airflowSwitch closed).pending = s.pending ∧ (s.airflowSwitch closed).boot = s.boot ∧
    (s.airflowSwitch closed).clock = s.clock ∧ (s.airflowSwitch closed).resetTime = s.resetTime ∧
    (s.airflowSwitch closed).pins = s.pins ∧ (s.airflowSwitch closed).mfe = s.mfe ∧
    (s.airflowSwitch closed).dry = s.dry ∧ (s.airflowSwitch closed).dmc = s.dmc ∧
    (s.airflowSwitch closed).tgm = s.tgm ∧ (s.airflowSwitch closed).csq = s.csq ∧
    (s.airflowSwitch closed).cap = s.cap ∧ (s.airflowSwitch closed).sst = s.sst ∧
    (s.airflowSwitch closed).linkA = s.linkA ∧ (s.airflowSwitch closed).linkS = s.linkS := by
  unfold State.airflowSwitch
  try dsimp only
  repeat' split
  all_goals simp

@[simp] theorem State.heatAtStart_frame (s : State) :
    (s.heatAtStart).pending = s.pending ∧ (s.heatAtStart).boot = s.boot ∧ (s.heatAtStart).clock = s.clock ∧
    (s.heatAtStart).resetTime = s.resetTime ∧ (s.heatAtStart).pins = s.pins ∧ (s.heatAtStart).mfe = s.mfe ∧
    (s.heatAtStart).dry = s.dry ∧ (s.heatAtStart).dmc = s.dmc ∧ (s.heatAtStart).tgm = s.tgm ∧
    (s.heatAtStart).csq = s.csq ∧ (s.heatAtStart).cap = s.cap ∧ (s.heatAtStart).sst = s.sst ∧
    (s.heatAtStart).linkA = s.linkA ∧ (s.heatAtStart).linkS = s.linkS := by
  unfold State.heatAtStart
  try dsimp only
  simp

@[simp] theorem State.settleTests_frame (s : State) :
    (s.settleTests).pending = s.pending ∧ (s.settleTests).boot = s.boot ∧ (s.settleTests).clock = s.clock ∧
    (s.settleTests).resetTime = s.resetTime ∧ (s.settleTests).pins = s.pins ∧ (s.settleTests).mfe = s.mfe ∧
    (s.settleTests).dry = s.dry ∧ (s.settleTests).dmc = s.dmc ∧ (s.settleTests).tgm = s.tgm ∧
    (s.settleTests).csq = s.csq ∧ (s.settleTests).cap = s.cap ∧ (s.settleTests).sst = s.sst ∧
    (s.settleTests).linkA = s.linkA ∧ (s.settleTests).linkS = s.linkS := by
  unfold State.settleTests
  split
  · refine ⟨?_, ?_, ?_, ?_, ?_, ?_, ?_, ?_, ?_, ?_, ?_, ?_, ?_, ?_⟩ <;> (refine foldl_keep _ _ ?_ _ _; intro a b; split <;> simp)
  · simp

@[simp] theorem State.stageTestOff_frame (s : State) (n : StageNo) :
    (s.stageTestOff n).pending = s.pending ∧ (s.stageTestOff n).boot = s.boot ∧ (s.stageTestOff n).clock = s.clock ∧
    (s.stageTestOff n).resetTime = s.resetTime ∧ (s.stageTestOff n).pins = s.pins ∧ (s.stageTestOff n).mfe = s.mfe ∧
    (s.stageTestOff n).dry = s.dry ∧ (s.stageTestOff n).dmc = s.dmc ∧ (s.stageTestOff n).tgm = s.tgm ∧
    (s.stageTestOff n).csq = s.csq ∧ (s.stageTestOff n).cap = s.cap ∧ (s.stageTestOff n).sst = s.sst ∧
    (s.stageTestOff n).linkA = s.linkA ∧ (s.stageTestOff n).linkS = s.linkS := by
  unfold State.stageTestOff
  try dsimp only
  repeat' split
  all_goals simp

@[simp] theorem State.dropTestDemands_frame (s : State) :
    (s.dropTestDemands).pending = s.pending ∧ (s.dropTestDemands).boot = s.boot ∧
    (s.dropTestDemands).clock = s.clock ∧ (s.dropTestDemands).resetTime = s.resetTime ∧
    (s.dropTestDemands).pins = s.pins ∧ (s.dropTestDemands).mfe = s.mfe ∧ (s.dropTestDemands).dry = s.dry ∧
    (s.dropTestDemands).dmc = s.dmc ∧ (s.dropTestDemands).tgm = s.tgm ∧ (s.dropTestDemands).csq = s.csq ∧
    (s.dropTestDemands).cap = s.cap ∧ (s.dropTestDemands).sst = s.sst ∧ (s.dropTestDemands).linkA = s.linkA ∧
    (s.dropTestDemands).linkS = s.linkS := by
  unfold State.dropTestDemands
  try dsimp only
  simp

@[simp] theorem State.countSecond_frame (s : State) (n : StageNo) :
    (s.countSecond n).pending = s.pending ∧ (s.countSecond n).boot = s.boot ∧ (s.countSecond n).clock = s.clock ∧
    (s.countSecond n).resetTime = s.resetTime ∧ (s.countSecond n).pins = s.pins ∧ (s.countSecond n).mfe = s.mfe ∧
    (s.countSecond n).dry = s.dry ∧ (s.countSecond n).dmc = s.dmc ∧ (s.countSecond n).tgm = s.tgm ∧
    (s.countSecond n).csq = s.csq ∧ (s.countSecond n).cap = s.cap ∧ (s.countSecond n).sst = s.sst ∧
    (s.countSecond n).linkA = s.linkA ∧ (s.countSecond n).linkS = s.linkS := by
  unfold State.countSecond
  try dsimp only
  repeat' split
  all_goals simp

/-! ### Tangle monitor and drum -/

@[simp] theorem State.refreshCapFlag_frame (s : State) :
    (s.refreshCapFlag).pending = s.pending ∧ (s.refreshCapFlag).boot = s.boot ∧ (s.refreshCapFlag).clock = s.clock ∧
    (s.refreshCapFlag).resetTime = s.resetTime ∧ (s.refreshCapFlag).pins = s.pins ∧ (s.refreshCapFlag).mfe = s.mfe ∧
    (s.refreshCapFlag).dry = s.dry ∧ (s.refreshCapFlag).dmc = s.dmc ∧ (s.refreshCapFlag).csq = s.csq ∧
    (s.refreshCapFlag).cap = s.cap ∧ (s.refreshCapFlag).sst = s.sst ∧ (s.refreshCapFlag).linkA = s.linkA ∧
    (s.refreshCapFlag).linkS = s.linkS := by
  unfold State.refreshCapFlag
  try dsimp only
  repeat' split
  all_goals simp

@[simp] theorem State.burstEnded_frame (s : State) :
    (s.burstEnded).pending = s.pending ∧ (s.burstEnded).boot = s.boot ∧ (s.burstEnded).clock = s.clock ∧
    (s.burstEnded).resetTime = s.resetTime ∧ (s.burstEnded).pins = s.pins ∧ (s.burstEnded).mfe = s.mfe ∧
    (s.burstEnded).dry = s.dry ∧ (s.burstEnded).dmc = s.dmc ∧ (s.burstEnded).csq = s.csq ∧
    (s.burstEnded).cap = s.cap ∧ (s.burstEnded).sst = s.sst ∧ (s.burstEnded).linkA = s.linkA ∧
    (s.burstEnded).linkS = s.linkS := by
  unfold State.burstEnded
  try dsimp only
  repeat' split
  all_goals simp

@[simp] theorem State.followTangle_frame (s : State) (left entered : Phase) :
    (s.followTangle left entered).pending = s.pending ∧ (s.followTangle left entered).boot = s.boot ∧
    (s.followTangle left entered).clock = s.clock ∧ (s.followTangle left entered).resetTime = s.resetTime ∧
    (s.followTangle left entered).pins = s.pins ∧ (s.followTangle left entered).mfe = s.mfe ∧
    (s.followTangle left entered).dry = s.dry ∧ (s.followTangle left entered).dmc = s.dmc ∧
    (s.followTangle left entered).csq = s.csq ∧ (s.followTangle left entered).cap = s.cap ∧
    (s.followTangle left entered).sst = s.sst ∧ (s.followTangle left entered).linkA = s.linkA ∧
    (s.followTangle left entered).linkS = s.linkS := by
  unfold State.followTangle
  try dsimp only
  repeat' split
  all_goals simp

@[simp] theorem State.tangleAtStart_frame (s : State) :
    (s.tangleAtStart).pending = s.pending ∧ (s.tangleAtStart).boot = s.boot ∧ (s.tangleAtStart).clock = s.clock ∧
    (s.tangleAtStart).resetTime = s.resetTime ∧ (s.tangleAtStart).pins = s.pins ∧ (s.tangleAtStart).mfe = s.mfe ∧
    (s.tangleAtStart).dry = s.dry ∧ (s.tangleAtStart).dmc = s.dmc ∧ (s.tangleAtStart).csq = s.csq ∧
    (s.tangleAtStart).cap = s.cap ∧ (s.tangleAtStart).sst = s.sst ∧ (s.tangleAtStart).linkA = s.linkA ∧
    (s.tangleAtStart).linkS = s.linkS := by
  unfold State.tangleAtStart
  try dsimp only
  simp

@[simp] theorem State.drumOff_frame (s : State) :
    (s.drumOff).pending = s.pending ∧ (s.drumOff).boot = s.boot ∧ (s.drumOff).clock = s.clock ∧
    (s.drumOff).resetTime = s.resetTime ∧ (s.drumOff).pins = s.pins ∧ (s.drumOff).mfe = s.mfe ∧
    (s.drumOff).dry = s.dry ∧ (s.drumOff).tgm = s.tgm ∧ (s.drumOff).hsc = s.hsc ∧ (s.drumOff).csq = s.csq ∧
    (s.drumOff).cap = s.cap ∧ (s.drumOff).sst = s.sst ∧ (s.drumOff).linkA = s.linkA ∧ (s.drumOff).linkS = s.linkS := by
  unfold State.drumOff
  try dsimp only
  repeat' split
  all_goals simp

@[simp] theorem State.clearTurning_frame (s : State) :
    (s.clearTurning).pending = s.pending ∧ (s.clearTurning).boot = s.boot ∧ (s.clearTurning).clock = s.clock ∧
    (s.clearTurning).resetTime = s.resetTime ∧ (s.clearTurning).pins = s.pins ∧ (s.clearTurning).mfe = s.mfe ∧
    (s.clearTurning).dry = s.dry ∧ (s.clearTurning).tgm = s.tgm ∧ (s.clearTurning).csq = s.csq ∧
    (s.clearTurning).cap = s.cap ∧ (s.clearTurning).sst = s.sst ∧ (s.clearTurning).linkA = s.linkA ∧
    (s.clearTurning).linkS = s.linkS := by
  unfold State.clearTurning
  try dsimp only
  repeat' split
  all_goals simp

@[simp] theorem State.setTurning_frame (s : State) :
    (s.setTurning).pending = s.pending ∧ (s.setTurning).boot = s.boot ∧ (s.setTurning).clock = s.clock ∧
    (s.setTurning).resetTime = s.resetTime ∧ (s.setTurning).pins = s.pins ∧ (s.setTurning).mfe = s.mfe ∧
    (s.setTurning).dry = s.dry ∧ (s.setTurning).tgm = s.tgm ∧ (s.setTurning).csq = s.csq ∧
    (s.setTurning).cap = s.cap ∧ (s.setTurning).sst = s.sst ∧ (s.setTurning).linkA = s.linkA ∧
    (s.setTurning).linkS = s.linkS := by
  unfold State.setTurning
  try dsimp only
  simp

@[simp] theorem State.enterRest_frame (s : State) (m : Motion) (e : Bool) :
    (s.enterRest m e).pending = s.pending ∧ (s.enterRest m e).boot = s.boot ∧ (s.enterRest m e).clock = s.clock ∧
    (s.enterRest m e).resetTime = s.resetTime ∧ (s.enterRest m e).pins = s.pins ∧ (s.enterRest m e).mfe = s.mfe ∧
    (s.enterRest m e).dry = s.dry ∧ (s.enterRest m e).tgm = s.tgm ∧ (s.enterRest m e).csq = s.csq ∧
    (s.enterRest m e).cap = s.cap ∧ (s.enterRest m e).sst = s.sst ∧ (s.enterRest m e).linkA = s.linkA ∧
    (s.enterRest m e).linkS = s.linkS := by
  unfold State.enterRest
  try dsimp only
  repeat' split
  all_goals simp

@[simp] theorem State.restDrum_frame (s : State) :
    (s.restDrum).pending = s.pending ∧ (s.restDrum).boot = s.boot ∧ (s.restDrum).clock = s.clock ∧
    (s.restDrum).resetTime = s.resetTime ∧ (s.restDrum).pins = s.pins ∧ (s.restDrum).mfe = s.mfe ∧
    (s.restDrum).dry = s.dry ∧ (s.restDrum).tgm = s.tgm ∧ (s.restDrum).csq = s.csq ∧ (s.restDrum).cap = s.cap ∧
    (s.restDrum).sst = s.sst ∧ (s.restDrum).linkA = s.linkA ∧ (s.restDrum).linkS = s.linkS := by
  unfold State.restDrum
  try dsimp only
  repeat' split
  all_goals simp

@[simp] theorem State.enterStarting_frame (s : State) (d : Dir) (v : Nat) :
    (s.enterStarting d v).pending = s.pending ∧ (s.enterStarting d v).boot = s.boot ∧
    (s.enterStarting d v).clock = s.clock ∧ (s.enterStarting d v).resetTime = s.resetTime ∧
    (s.enterStarting d v).pins = s.pins ∧ (s.enterStarting d v).mfe = s.mfe ∧ (s.enterStarting d v).dry = s.dry ∧
    (s.enterStarting d v).tgm = s.tgm ∧ (s.enterStarting d v).csq = s.csq ∧ (s.enterStarting d v).cap = s.cap ∧
    (s.enterStarting d v).sst = s.sst ∧ (s.enterStarting d v).linkA = s.linkA ∧
    (s.enterStarting d v).linkS = s.linkS := by
  unfold State.enterStarting
  try dsimp only
  simp

@[simp] theorem State.idleDrum_frame (s : State) :
    (s.idleDrum).pending = s.pending ∧ (s.idleDrum).boot = s.boot ∧ (s.idleDrum).clock = s.clock ∧
    (s.idleDrum).resetTime = s.resetTime ∧ (s.idleDrum).pins = s.pins ∧ (s.idleDrum).mfe = s.mfe ∧
    (s.idleDrum).dry = s.dry ∧ (s.idleDrum).tgm = s.tgm ∧ (s.idleDrum).csq = s.csq ∧ (s.idleDrum).cap = s.cap ∧
    (s.idleDrum).sst = s.sst ∧ (s.idleDrum).linkA = s.linkA ∧ (s.idleDrum).linkS = s.linkS := by
  unfold State.idleDrum
  try dsimp only
  simp

@[simp] theorem State.setStep_frame (s : State) (c : CurrentStep) (r : Option Nat) :
    (s.setStep c r).pending = s.pending ∧ (s.setStep c r).boot = s.boot ∧ (s.setStep c r).clock = s.clock ∧
    (s.setStep c r).resetTime = s.resetTime ∧ (s.setStep c r).pins = s.pins ∧ (s.setStep c r).mfe = s.mfe ∧
    (s.setStep c r).dry = s.dry ∧ (s.setStep c r).tgm = s.tgm ∧ (s.setStep c r).hsc = s.hsc ∧
    (s.setStep c r).csq = s.csq ∧ (s.setStep c r).cap = s.cap ∧ (s.setStep c r).sst = s.sst ∧
    (s.setStep c r).linkA = s.linkA ∧ (s.setStep c r).linkS = s.linkS := by
  unfold State.setStep
  try dsimp only
  simp

@[simp] theorem State.actStep_frame (s : State) (c : CurrentStep) :
    (s.actStep c).pending = s.pending ∧ (s.actStep c).boot = s.boot ∧ (s.actStep c).clock = s.clock ∧
    (s.actStep c).resetTime = s.resetTime ∧ (s.actStep c).pins = s.pins ∧ (s.actStep c).mfe = s.mfe ∧
    (s.actStep c).dry = s.dry ∧ (s.actStep c).tgm = s.tgm ∧ (s.actStep c).csq = s.csq ∧ (s.actStep c).cap = s.cap ∧
    (s.actStep c).sst = s.sst ∧ (s.actStep c).linkA = s.linkA ∧ (s.actStep c).linkS = s.linkS := by
  unfold State.actStep
  try dsimp only
  repeat' split
  all_goals simp

@[simp] theorem State.beginStep_frame (s : State) (k : Nat) :
    (s.beginStep k).pending = s.pending ∧ (s.beginStep k).boot = s.boot ∧ (s.beginStep k).clock = s.clock ∧
    (s.beginStep k).resetTime = s.resetTime ∧ (s.beginStep k).pins = s.pins ∧ (s.beginStep k).mfe = s.mfe ∧
    (s.beginStep k).dry = s.dry ∧ (s.beginStep k).tgm = s.tgm ∧ (s.beginStep k).csq = s.csq ∧
    (s.beginStep k).cap = s.cap ∧ (s.beginStep k).sst = s.sst ∧ (s.beginStep k).linkA = s.linkA ∧
    (s.beginStep k).linkS = s.linkS := by
  unfold State.beginStep
  try dsimp only
  repeat' split
  all_goals simp

@[simp] theorem State.startPattern_frame (s : State) (q : Nat) :
    (s.startPattern q).pending = s.pending ∧ (s.startPattern q).boot = s.boot ∧ (s.startPattern q).clock = s.clock ∧
    (s.startPattern q).resetTime = s.resetTime ∧ (s.startPattern q).pins = s.pins ∧ (s.startPattern q).mfe = s.mfe ∧
    (s.startPattern q).dry = s.dry ∧ (s.startPattern q).tgm = s.tgm ∧ (s.startPattern q).csq = s.csq ∧
    (s.startPattern q).cap = s.cap ∧ (s.startPattern q).sst = s.sst ∧ (s.startPattern q).linkA = s.linkA ∧
    (s.startPattern q).linkS = s.linkS := by
  unfold State.startPattern
  try dsimp only
  repeat' split
  all_goals simp

@[simp] theorem State.startWaiting_frame (s : State) (c : CurrentStep) (d : Dir) :
    (s.startWaiting c d).pending = s.pending ∧ (s.startWaiting c d).boot = s.boot ∧
    (s.startWaiting c d).clock = s.clock ∧ (s.startWaiting c d).resetTime = s.resetTime ∧
    (s.startWaiting c d).pins = s.pins ∧ (s.startWaiting c d).mfe = s.mfe ∧ (s.startWaiting c d).dry = s.dry ∧
    (s.startWaiting c d).tgm = s.tgm ∧ (s.startWaiting c d).csq = s.csq ∧ (s.startWaiting c d).cap = s.cap ∧
    (s.startWaiting c d).sst = s.sst ∧ (s.startWaiting c d).linkA = s.linkA ∧ (s.startWaiting c d).linkS = s.linkS := by
  unfold State.startWaiting
  try dsimp only
  simp

@[simp] theorem State.enterRunOpp_frame (s : State) (d : Dir) :
    (s.enterRunOpp d).pending = s.pending ∧ (s.enterRunOpp d).boot = s.boot ∧ (s.enterRunOpp d).clock = s.clock ∧
    (s.enterRunOpp d).resetTime = s.resetTime ∧ (s.enterRunOpp d).pins = s.pins ∧ (s.enterRunOpp d).mfe = s.mfe ∧
    (s.enterRunOpp d).dry = s.dry ∧ (s.enterRunOpp d).tgm = s.tgm ∧ (s.enterRunOpp d).csq = s.csq ∧
    (s.enterRunOpp d).cap = s.cap ∧ (s.enterRunOpp d).sst = s.sst ∧ (s.enterRunOpp d).linkA = s.linkA ∧
    (s.enterRunOpp d).linkS = s.linkS := by
  unfold State.enterRunOpp
  try dsimp only
  simp

@[simp] theorem State.resumeStep_frame (s : State) (i : Interrupted) :
    (s.resumeStep i).pending = s.pending ∧ (s.resumeStep i).boot = s.boot ∧ (s.resumeStep i).clock = s.clock ∧
    (s.resumeStep i).resetTime = s.resetTime ∧ (s.resumeStep i).pins = s.pins ∧ (s.resumeStep i).mfe = s.mfe ∧
    (s.resumeStep i).dry = s.dry ∧ (s.resumeStep i).csq = s.csq ∧ (s.resumeStep i).cap = s.cap ∧
    (s.resumeStep i).sst = s.sst ∧ (s.resumeStep i).linkA = s.linkA ∧ (s.resumeStep i).linkS = s.linkS := by
  unfold State.resumeStep
  try dsimp only
  simp

@[simp] theorem State.judgeGate_frame (s : State) :
    (s.judgeGate).pending = s.pending ∧ (s.judgeGate).boot = s.boot ∧ (s.judgeGate).clock = s.clock ∧
    (s.judgeGate).resetTime = s.resetTime ∧ (s.judgeGate).pins = s.pins ∧ (s.judgeGate).mfe = s.mfe ∧
    (s.judgeGate).dry = s.dry ∧ (s.judgeGate).csq = s.csq ∧ (s.judgeGate).cap = s.cap ∧ (s.judgeGate).sst = s.sst ∧
    (s.judgeGate).linkA = s.linkA ∧ (s.judgeGate).linkS = s.linkS := by
  unfold State.judgeGate
  try dsimp only
  repeat' split
  all_goals simp

@[simp] theorem State.abandonBurst_frame (s : State) :
    (s.abandonBurst).pending = s.pending ∧ (s.abandonBurst).boot = s.boot ∧ (s.abandonBurst).clock = s.clock ∧
    (s.abandonBurst).resetTime = s.resetTime ∧ (s.abandonBurst).pins = s.pins ∧ (s.abandonBurst).mfe = s.mfe ∧
    (s.abandonBurst).dry = s.dry ∧ (s.abandonBurst).csq = s.csq ∧ (s.abandonBurst).cap = s.cap ∧
    (s.abandonBurst).sst = s.sst ∧ (s.abandonBurst).linkA = s.linkA ∧ (s.abandonBurst).linkS = s.linkS := by
  unfold State.abandonBurst
  try dsimp only
  repeat' split
  all_goals simp

@[simp] theorem State.restDemand_frame (s : State) :
    (s.restDemand).pending = s.pending ∧ (s.restDemand).boot = s.boot ∧ (s.restDemand).clock = s.clock ∧
    (s.restDemand).resetTime = s.resetTime ∧ (s.restDemand).pins = s.pins ∧ (s.restDemand).mfe = s.mfe ∧
    (s.restDemand).dry = s.dry ∧ (s.restDemand).tgm = s.tgm ∧ (s.restDemand).csq = s.csq ∧
    (s.restDemand).cap = s.cap ∧ (s.restDemand).sst = s.sst ∧ (s.restDemand).linkA = s.linkA ∧
    (s.restDemand).linkS = s.linkS := by
  unfold State.restDemand
  try dsimp only
  simp

@[simp] theorem State.motionDemand_frame (s : State) (left entered : Phase) :
    (s.motionDemand left entered).pending = s.pending ∧ (s.motionDemand left entered).boot = s.boot ∧
    (s.motionDemand left entered).clock = s.clock ∧ (s.motionDemand left entered).resetTime = s.resetTime ∧
    (s.motionDemand left entered).pins = s.pins ∧ (s.motionDemand left entered).mfe = s.mfe ∧
    (s.motionDemand left entered).dry = s.dry ∧ (s.motionDemand left entered).tgm = s.tgm ∧
    (s.motionDemand left entered).csq = s.csq ∧ (s.motionDemand left entered).cap = s.cap ∧
    (s.motionDemand left entered).sst = s.sst ∧ (s.motionDemand left entered).linkA = s.linkA ∧
    (s.motionDemand left entered).linkS = s.linkS := by
  unfold State.motionDemand
  try dsimp only
  cases entered <;> (try dsimp only) <;> (repeat' split) <;> simp

@[simp] theorem State.followDrum_frame (s : State) (left entered : Phase) :
    (s.followDrum left entered).pending = s.pending ∧ (s.followDrum left entered).boot = s.boot ∧
    (s.followDrum left entered).clock = s.clock ∧ (s.followDrum left entered).resetTime = s.resetTime ∧
    (s.followDrum left entered).pins = s.pins ∧ (s.followDrum left entered).mfe = s.mfe ∧
    (s.followDrum left entered).dry = s.dry ∧ (s.followDrum left entered).csq = s.csq ∧
    (s.followDrum left entered).cap = s.cap ∧ (s.followDrum left entered).sst = s.sst ∧
    (s.followDrum left entered).linkA = s.linkA ∧ (s.followDrum left entered).linkS = s.linkS := by
  unfold State.followDrum
  try dsimp only
  simp

@[simp] theorem State.testRun_frame (s : State) (a : Action) (v : Nat) :
    (s.testRun a v).pending = s.pending ∧ (s.testRun a v).boot = s.boot ∧ (s.testRun a v).clock = s.clock ∧
    (s.testRun a v).resetTime = s.resetTime ∧ (s.testRun a v).pins = s.pins ∧ (s.testRun a v).mfe = s.mfe ∧
    (s.testRun a v).dry = s.dry ∧ (s.testRun a v).tgm = s.tgm ∧ (s.testRun a v).csq = s.csq ∧
    (s.testRun a v).cap = s.cap ∧ (s.testRun a v).sst = s.sst ∧ (s.testRun a v).linkA = s.linkA ∧
    (s.testRun a v).linkS = s.linkS := by
  unfold State.testRun
  try dsimp only
  simp

@[simp] theorem State.testRest_frame (s : State) :
    (s.testRest).pending = s.pending ∧ (s.testRest).boot = s.boot ∧ (s.testRest).clock = s.clock ∧
    (s.testRest).resetTime = s.resetTime ∧ (s.testRest).pins = s.pins ∧ (s.testRest).mfe = s.mfe ∧
    (s.testRest).dry = s.dry ∧ (s.testRest).tgm = s.tgm ∧ (s.testRest).csq = s.csq ∧ (s.testRest).cap = s.cap ∧
    (s.testRest).sst = s.sst ∧ (s.testRest).linkA = s.linkA ∧ (s.testRest).linkS = s.linkS := by
  unfold State.testRest
  try dsimp only
  simp

/-! ### Settings store -/

@[simp] theorem State.setOnTimes_frame (s : State) (ws : List Word) :
    (s.setOnTimes ws).pending = s.pending ∧ (s.setOnTimes ws).boot = s.boot ∧ (s.setOnTimes ws).clock = s.clock ∧
    (s.setOnTimes ws).resetTime = s.resetTime ∧ (s.setOnTimes ws).pins = s.pins ∧ (s.setOnTimes ws).mfe = s.mfe ∧
    (s.setOnTimes ws).dry = s.dry ∧ (s.setOnTimes ws).dmc = s.dmc ∧ (s.setOnTimes ws).tgm = s.tgm ∧
    (s.setOnTimes ws).csq = s.csq ∧ (s.setOnTimes ws).cap = s.cap ∧ (s.setOnTimes ws).sst = s.sst ∧
    (s.setOnTimes ws).linkA = s.linkA ∧ (s.setOnTimes ws).linkS = s.linkS := by
  unfold State.setOnTimes
  try dsimp only
  simp

@[simp] theorem State.takeLinkDefaults_frame (s : State) (l : Link) :
    (s.takeLinkDefaults l).pending = s.pending ∧ (s.takeLinkDefaults l).boot = s.boot ∧
    (s.takeLinkDefaults l).clock = s.clock ∧ (s.takeLinkDefaults l).resetTime = s.resetTime ∧
    (s.takeLinkDefaults l).pins = s.pins ∧ (s.takeLinkDefaults l).mfe = s.mfe ∧ (s.takeLinkDefaults l).dry = s.dry ∧
    (s.takeLinkDefaults l).dmc = s.dmc ∧ (s.takeLinkDefaults l).tgm = s.tgm ∧ (s.takeLinkDefaults l).hsc = s.hsc ∧
    (s.takeLinkDefaults l).csq = s.csq ∧ (s.takeLinkDefaults l).cap = s.cap ∧ (s.takeLinkDefaults l).sst = s.sst := by
  unfold State.takeLinkDefaults
  try dsimp only
  repeat' split
  all_goals simp

@[simp] theorem State.beginStore_frame (s : State) (b : Nat) (src : StoreSource) :
    (s.beginStore b src).pending = s.pending ∧ (s.beginStore b src).boot = s.boot ∧
    (s.beginStore b src).clock = s.clock ∧ (s.beginStore b src).resetTime = s.resetTime ∧
    (s.beginStore b src).pins = s.pins ∧ (s.beginStore b src).mfe = s.mfe ∧ (s.beginStore b src).dry = s.dry ∧
    (s.beginStore b src).dmc = s.dmc ∧ (s.beginStore b src).tgm = s.tgm ∧ (s.beginStore b src).hsc = s.hsc ∧
    (s.beginStore b src).csq = s.csq ∧ (s.beginStore b src).cap = s.cap ∧ (s.beginStore b src).linkA = s.linkA ∧
    (s.beginStore b src).linkS = s.linkS := by
  unfold State.beginStore
  try dsimp only
  simp

@[simp] theorem State.wearSave_frame (s : State) :
    (s.wearSave).pending = s.pending ∧ (s.wearSave).boot = s.boot ∧ (s.wearSave).clock = s.clock ∧
    (s.wearSave).resetTime = s.resetTime ∧ (s.wearSave).pins = s.pins ∧ (s.wearSave).mfe = s.mfe ∧
    (s.wearSave).dry = s.dry ∧ (s.wearSave).dmc = s.dmc ∧ (s.wearSave).tgm = s.tgm ∧ (s.wearSave).hsc = s.hsc ∧
    (s.wearSave).csq = s.csq ∧ (s.wearSave).cap = s.cap ∧ (s.wearSave).linkA = s.linkA ∧
    (s.wearSave).linkS = s.linkS := by
  unfold State.wearSave
  try dsimp only
  repeat' split
  all_goals simp

@[simp] theorem State.storeRequest_frame (s : State) (l : Link) (b : Byte) :
    (s.storeRequest l b).pending = s.pending ∧ (s.storeRequest l b).boot = s.boot ∧
    (s.storeRequest l b).clock = s.clock ∧ (s.storeRequest l b).resetTime = s.resetTime ∧
    (s.storeRequest l b).pins = s.pins ∧ (s.storeRequest l b).mfe = s.mfe ∧ (s.storeRequest l b).dry = s.dry ∧
    (s.storeRequest l b).dmc = s.dmc ∧ (s.storeRequest l b).tgm = s.tgm ∧ (s.storeRequest l b).hsc = s.hsc ∧
    (s.storeRequest l b).csq = s.csq ∧ (s.storeRequest l b).cap = s.cap := by
  unfold State.storeRequest
  try dsimp only
  repeat' split
  all_goals simp

@[simp] theorem State.storeReply_frame (s : State) (j : StoreJob) :
    (s.storeReply j).pending = s.pending ∧ (s.storeReply j).boot = s.boot ∧ (s.storeReply j).clock = s.clock ∧
    (s.storeReply j).resetTime = s.resetTime ∧ (s.storeReply j).pins = s.pins ∧ (s.storeReply j).mfe = s.mfe ∧
    (s.storeReply j).dry = s.dry ∧ (s.storeReply j).dmc = s.dmc ∧ (s.storeReply j).tgm = s.tgm ∧
    (s.storeReply j).hsc = s.hsc ∧ (s.storeReply j).csq = s.csq ∧ (s.storeReply j).cap = s.cap ∧
    (s.storeReply j).sst = s.sst := by
  unfold State.storeReply
  try dsimp only
  repeat' split
  all_goals simp

@[simp] theorem State.completeStore_frame (s : State) :
    (s.completeStore).pending = s.pending ∧ (s.completeStore).boot = s.boot ∧ (s.completeStore).clock = s.clock ∧
    (s.completeStore).resetTime = s.resetTime ∧ (s.completeStore).pins = s.pins ∧ (s.completeStore).mfe = s.mfe ∧
    (s.completeStore).dry = s.dry ∧ (s.completeStore).dmc = s.dmc ∧ (s.completeStore).tgm = s.tgm ∧
    (s.completeStore).hsc = s.hsc ∧ (s.completeStore).csq = s.csq ∧ (s.completeStore).cap = s.cap := by
  unfold State.completeStore
  try dsimp only
  repeat' split
  all_goals simp

@[simp] theorem State.writeBlock_frame (s : State) (b first : Nat) (ws : List Word) :
    (s.writeBlock b first ws).pending = s.pending ∧ (s.writeBlock b first ws).boot = s.boot ∧
    (s.writeBlock b first ws).clock = s.clock ∧ (s.writeBlock b first ws).resetTime = s.resetTime ∧
    (s.writeBlock b first ws).pins = s.pins ∧ (s.writeBlock b first ws).mfe = s.mfe ∧
    (s.writeBlock b first ws).dry = s.dry ∧ (s.writeBlock b first ws).dmc = s.dmc ∧
    (s.writeBlock b first ws).tgm = s.tgm ∧ (s.writeBlock b first ws).csq = s.csq ∧
    (s.writeBlock b first ws).cap = s.cap ∧ (s.writeBlock b first ws).linkA = s.linkA ∧
    (s.writeBlock b first ws).linkS = s.linkS := by
  unfold State.writeBlock
  try dsimp only
  repeat' split
  all_goals simp

@[simp] theorem State.setRequest_frame (s : State) (l : Link) (b first : Byte) (vs : List Word) :
    (s.setRequest l b first vs).pending = s.pending ∧ (s.setRequest l b first vs).boot = s.boot ∧
    (s.setRequest l b first vs).clock = s.clock ∧ (s.setRequest l b first vs).resetTime = s.resetTime ∧
    (s.setRequest l b first vs).pins = s.pins ∧ (s.setRequest l b first vs).mfe = s.mfe ∧
    (s.setRequest l b first vs).dry = s.dry ∧ (s.setRequest l b first vs).dmc = s.dmc ∧
    (s.setRequest l b first vs).tgm = s.tgm ∧ (s.setRequest l b first vs).csq = s.csq ∧
    (s.setRequest l b first vs).cap = s.cap := by
  unfold State.setRequest
  try dsimp only
  repeat' split
  all_goals simp

@[simp] theorem State.getRequest_frame (s : State) (l : Link) (b first c : Byte) :
    (s.getRequest l b first c).pending = s.pending ∧ (s.getRequest l b first c).boot = s.boot ∧
    (s.getRequest l b first c).clock = s.clock ∧ (s.getRequest l b first c).resetTime = s.resetTime ∧
    (s.getRequest l b first c).pins = s.pins ∧ (s.getRequest l b first c).mfe = s.mfe ∧
    (s.getRequest l b first c).dry = s.dry ∧ (s.getRequest l b first c).dmc = s.dmc ∧
    (s.getRequest l b first c).tgm = s.tgm ∧ (s.getRequest l b first c).hsc = s.hsc ∧
    (s.getRequest l b first c).csq = s.csq ∧ (s.getRequest l b first c).cap = s.cap ∧
    (s.getRequest l b first c).sst = s.sst := by
  unfold State.getRequest
  try dsimp only
  repeat' split
  all_goals simp

/-! ### Cycle sequencer -/

@[simp] theorem State.followDry_frame (s : State) (left entered : Phase) :
    (s.followDry left entered).pending = s.pending ∧ (s.followDry left entered).boot = s.boot ∧
    (s.followDry left entered).clock = s.clock ∧ (s.followDry left entered).resetTime = s.resetTime ∧
    (s.followDry left entered).pins = s.pins ∧ (s.followDry left entered).mfe = s.mfe ∧
    (s.followDry left entered).dmc = s.dmc ∧ (s.followDry left entered).tgm = s.tgm ∧
    (s.followDry left entered).hsc = s.hsc ∧ (s.followDry left entered).csq = s.csq ∧
    (s.followDry left entered).sst = s.sst := by
  unfold State.followDry
  try dsimp only
  repeat' split
  all_goals simp

@[simp] theorem State.followPhase_frame (s : State) (left entered : Phase) :
    (s.followPhase left entered).pending = s.pending ∧ (s.followPhase left entered).boot = s.boot ∧
    (s.followPhase left entered).clock = s.clock ∧ (s.followPhase left entered).resetTime = s.resetTime ∧
    (s.followPhase left entered).pins = s.pins ∧ (s.followPhase left entered).csq = s.csq := by
  unfold State.followPhase
  try dsimp only
  repeat' split
  all_goals simp

@[simp] theorem State.changePhase_frame (s : State) (entered : Phase) (cause : Cause) :
    (s.changePhase entered cause).pending = s.pending ∧ (s.changePhase entered cause).boot = s.boot ∧
    (s.changePhase entered cause).clock = s.clock ∧ (s.changePhase entered cause).resetTime = s.resetTime ∧
    (s.changePhase entered cause).pins = s.pins := by
  unfold State.changePhase
  try dsimp only
  simp

@[simp] theorem State.modRecord_frame (s : State) (f : CycleRecord → CycleRecord) :
    (s.modRecord f).pending = s.pending ∧ (s.modRecord f).boot = s.boot ∧ (s.modRecord f).clock = s.clock ∧
    (s.modRecord f).resetTime = s.resetTime ∧ (s.modRecord f).pins = s.pins ∧ (s.modRecord f).mfe = s.mfe ∧
    (s.modRecord f).dry = s.dry ∧ (s.modRecord f).dmc = s.dmc ∧ (s.modRecord f).tgm = s.tgm ∧
    (s.modRecord f).hsc = s.hsc ∧ (s.modRecord f).cap = s.cap ∧ (s.modRecord f).sst = s.sst ∧
    (s.modRecord f).linkA = s.linkA ∧ (s.modRecord f).linkS = s.linkS := by
  unfold State.modRecord
  try dsimp only
  simp

@[simp] theorem State.setEnd_frame (s : State) (r : EndReason) :
    (s.setEnd r).pending = s.pending ∧ (s.setEnd r).boot = s.boot ∧ (s.setEnd r).clock = s.clock ∧
    (s.setEnd r).resetTime = s.resetTime ∧ (s.setEnd r).pins = s.pins ∧ (s.setEnd r).mfe = s.mfe ∧
    (s.setEnd r).dry = s.dry ∧ (s.setEnd r).dmc = s.dmc ∧ (s.setEnd r).tgm = s.tgm ∧ (s.setEnd r).hsc = s.hsc ∧
    (s.setEnd r).cap = s.cap ∧ (s.setEnd r).sst = s.sst ∧ (s.setEnd r).linkA = s.linkA ∧
    (s.setEnd r).linkS = s.linkS := by
  unfold State.setEnd
  try dsimp only
  simp

@[simp] theorem State.endService_frame (s : State) :
    (s.endService).pending = s.pending ∧ (s.endService).boot = s.boot ∧ (s.endService).clock = s.clock ∧
    (s.endService).resetTime = s.resetTime ∧ (s.endService).pins = s.pins ∧ (s.endService).mfe = s.mfe ∧
    (s.endService).dry = s.dry ∧ (s.endService).dmc = s.dmc ∧ (s.endService).tgm = s.tgm ∧
    (s.endService).cap = s.cap ∧ (s.endService).sst = s.sst := by
  unfold State.endService
  try dsimp only
  repeat' split
  all_goals simp

@[simp] theorem State.countFault_frame (s : State) :
    (s.countFault).pending = s.pending ∧ (s.countFault).boot = s.boot ∧ (s.countFault).clock = s.clock ∧
    (s.countFault).resetTime = s.resetTime ∧ (s.countFault).pins = s.pins ∧ (s.countFault).mfe = s.mfe ∧
    (s.countFault).dry = s.dry ∧ (s.countFault).dmc = s.dmc ∧ (s.countFault).tgm = s.tgm ∧
    (s.countFault).hsc = s.hsc ∧ (s.countFault).cap = s.cap ∧ (s.countFault).sst = s.sst := by
  unfold State.countFault
  try dsimp only
  repeat' split
  all_goals simp

@[simp] theorem State.driveInFault_frame (s : State) (m : Motion) :
    (s.driveInFault m).pending = s.pending ∧ (s.driveInFault m).boot = s.boot ∧ (s.driveInFault m).clock = s.clock ∧
    (s.driveInFault m).resetTime = s.resetTime ∧ (s.driveInFault m).pins = s.pins ∧ (s.driveInFault m).mfe = s.mfe ∧
    (s.driveInFault m).dry = s.dry ∧ (s.driveInFault m).dmc = s.dmc ∧ (s.driveInFault m).tgm = s.tgm ∧
    (s.driveInFault m).hsc = s.hsc ∧ (s.driveInFault m).cap = s.cap ∧ (s.driveInFault m).sst = s.sst := by
  unfold State.driveInFault
  try dsimp only
  repeat' split
  all_goals simp

@[simp] theorem State.replaceFault_frame (s : State) (f : FaultRecord) :
    (s.replaceFault f).pending = s.pending ∧ (s.replaceFault f).boot = s.boot ∧ (s.replaceFault f).clock = s.clock ∧
    (s.replaceFault f).resetTime = s.resetTime ∧ (s.replaceFault f).pins = s.pins ∧ (s.replaceFault f).mfe = s.mfe ∧
    (s.replaceFault f).dry = s.dry ∧ (s.replaceFault f).tgm = s.tgm ∧ (s.replaceFault f).cap = s.cap ∧
    (s.replaceFault f).sst = s.sst := by
  unfold State.replaceFault
  try dsimp only
  simp

@[simp] theorem State.faultInFault_frame (s : State) (k : FaultKind) :
    (s.faultInFault k).pending = s.pending ∧ (s.faultInFault k).boot = s.boot ∧ (s.faultInFault k).clock = s.clock ∧
    (s.faultInFault k).resetTime = s.resetTime ∧ (s.faultInFault k).pins = s.pins ∧ (s.faultInFault k).mfe = s.mfe ∧
    (s.faultInFault k).dry = s.dry ∧ (s.faultInFault k).tgm = s.tgm ∧ (s.faultInFault k).cap = s.cap ∧
    (s.faultInFault k).sst = s.sst := by
  unfold State.faultInFault
  try dsimp only
  repeat' split
  all_goals simp

@[simp] theorem State.enterFault_frame (s : State) (k : FaultKind) :
    (s.enterFault k).pending = s.pending ∧ (s.enterFault k).boot = s.boot ∧ (s.enterFault k).clock = s.clock ∧
    (s.enterFault k).resetTime = s.resetTime ∧ (s.enterFault k).pins = s.pins := by
  unfold State.enterFault
  try dsimp only
  repeat' split
  all_goals simp

@[simp] theorem State.takeFault_frame (s : State) (k : FaultKind) :
    (s.takeFault k).pending = s.pending ∧ (s.takeFault k).boot = s.boot ∧ (s.takeFault k).clock = s.clock ∧
    (s.takeFault k).resetTime = s.resetTime ∧ (s.takeFault k).pins = s.pins := by
  unfold State.takeFault
  try dsimp only
  repeat' split
  all_goals simp

@[simp] theorem State.enterDone_frame (s : State) (c : Cause) :
    (s.enterDone c).pending = s.pending ∧ (s.enterDone c).boot = s.boot ∧ (s.enterDone c).clock = s.clock ∧
    (s.enterDone c).resetTime = s.resetTime ∧ (s.enterDone c).pins = s.pins := by
  unfold State.enterDone
  try dsimp only
  simp

@[simp] theorem State.endCycle_frame (s : State) (r : EndReason) :
    (s.endCycle r).pending = s.pending ∧ (s.endCycle r).boot = s.boot ∧ (s.endCycle r).clock = s.clock ∧
    (s.endCycle r).resetTime = s.resetTime ∧ (s.endCycle r).pins = s.pins := by
  unfold State.endCycle
  try dsimp only
  simp

@[simp] theorem State.enterGuard_frame (s : State) (c : Cause) :
    (s.enterGuard c).pending = s.pending ∧ (s.enterGuard c).boot = s.boot ∧ (s.enterGuard c).clock = s.clock ∧
    (s.enterGuard c).resetTime = s.resetTime ∧ (s.enterGuard c).pins = s.pins := by
  unfold State.enterGuard
  try dsimp only
  simp

@[simp] theorem State.endCooling_frame (s : State) (c : Cause) :
    (s.endCooling c).pending = s.pending ∧ (s.endCooling c).boot = s.boot ∧ (s.endCooling c).clock = s.clock ∧
    (s.endCooling c).resetTime = s.resetTime ∧ (s.endCooling c).pins = s.pins := by
  unfold State.endCooling
  try dsimp only
  repeat' split
  all_goals simp

@[simp] theorem State.endDrying_frame (s : State) (r : EndReason) :
    (s.endDrying r).pending = s.pending ∧ (s.endDrying r).boot = s.boot ∧ (s.endDrying r).clock = s.clock ∧
    (s.endDrying r).resetTime = s.resetTime ∧ (s.endDrying r).pins = s.pins := by
  unfold State.endDrying
  try dsimp only
  repeat' split
  all_goals simp

@[simp] theorem State.declareDry_frame (s : State) :
    (s.declareDry).pending = s.pending ∧ (s.declareDry).boot = s.boot ∧ (s.declareDry).clock = s.clock ∧
    (s.declareDry).resetTime = s.resetTime ∧ (s.declareDry).pins = s.pins := by
  unfold State.declareDry
  try dsimp only
  repeat' split
  all_goals simp

@[simp] theorem State.checkHeat_frame (s : State) :
    (s.checkHeat).pending = s.pending ∧ (s.checkHeat).boot = s.boot ∧ (s.checkHeat).clock = s.clock ∧
    (s.checkHeat).resetTime = s.resetTime ∧ (s.checkHeat).pins = s.pins := by
  unfold State.checkHeat
  try dsimp only
  repeat' split
  all_goals simp

@[simp] theorem State.enterHold_frame (s : State) (r : HoldReason) :
    (s.enterHold r).pending = s.pending ∧ (s.enterHold r).boot = s.boot ∧ (s.enterHold r).clock = s.clock ∧
    (s.enterHold r).resetTime = s.resetTime ∧ (s.enterHold r).pins = s.pins := by
  unfold State.enterHold
  try dsimp only
  simp

@[simp] theorem State.joinHold_frame (s : State) (r : HoldReason) :
    (s.joinHold r).pending = s.pending ∧ (s.joinHold r).boot = s.boot ∧ (s.joinHold r).clock = s.clock ∧
    (s.joinHold r).resetTime = s.resetTime ∧ (s.joinHold r).pins = s.pins ∧ (s.joinHold r).mfe = s.mfe ∧
    (s.joinHold r).dry = s.dry ∧ (s.joinHold r).dmc = s.dmc ∧ (s.joinHold r).tgm = s.tgm ∧
    (s.joinHold r).hsc = s.hsc ∧ (s.joinHold r).cap = s.cap ∧ (s.joinHold r).sst = s.sst := by
  unfold State.joinHold
  try dsimp only
  repeat' split
  all_goals simp

@[simp] theorem State.takeHoldCause_frame (s : State) (r : HoldReason) :
    (s.takeHoldCause r).pending = s.pending ∧ (s.takeHoldCause r).boot = s.boot ∧
    (s.takeHoldCause r).clock = s.clock ∧ (s.takeHoldCause r).resetTime = s.resetTime ∧
    (s.takeHoldCause r).pins = s.pins := by
  unfold State.takeHoldCause
  try dsimp only
  repeat' split
  all_goals simp

@[simp] theorem State.completePrep_frame (s : State) :
    (s.completePrep).pending = s.pending ∧ (s.completePrep).boot = s.boot ∧ (s.completePrep).clock = s.clock ∧
    (s.completePrep).resetTime = s.resetTime ∧ (s.completePrep).pins = s.pins := by
  unfold State.completePrep
  try dsimp only
  repeat' split
  all_goals simp

@[simp] theorem State.judgePrep_frame (s : State) :
    (s.judgePrep).pending = s.pending ∧ (s.judgePrep).boot = s.boot ∧ (s.judgePrep).clock = s.clock ∧
    (s.judgePrep).resetTime = s.resetTime ∧ (s.judgePrep).pins = s.pins := by
  unfold State.judgePrep
  try dsimp only
  repeat' split
  all_goals simp

@[simp] theorem State.faultIf_frame (s : State) (c : Bool) (k : FaultKind) :
    (s.faultIf c k).pending = s.pending ∧ (s.faultIf c k).boot = s.boot ∧ (s.faultIf c k).clock = s.clock ∧
    (s.faultIf c k).resetTime = s.resetTime ∧ (s.faultIf c k).pins = s.pins := by
  unfold State.faultIf
  try dsimp only
  repeat' split
  all_goals simp

@[simp] theorem State.enterPrep_frame (s : State) (p : Phase) (c : Cause) :
    (s.enterPrep p c).pending = s.pending ∧ (s.enterPrep p c).boot = s.boot ∧ (s.enterPrep p c).clock = s.clock ∧
    (s.enterPrep p c).resetTime = s.resetTime ∧ (s.enterPrep p c).pins = s.pins := by
  unfold State.enterPrep
  try dsimp only
  simp

@[simp] theorem State.beginCycle_frame (s : State) (n : Nat) :
    (s.beginCycle n).pending = s.pending ∧ (s.beginCycle n).boot = s.boot ∧ (s.beginCycle n).clock = s.clock ∧
    (s.beginCycle n).resetTime = s.resetTime ∧ (s.beginCycle n).pins = s.pins := by
  unfold State.beginCycle
  try dsimp only
  simp

@[simp] theorem State.startRequest_frame (s : State) (l : Link) (p : Byte) :
    (s.startRequest l p).pending = s.pending ∧ (s.startRequest l p).boot = s.boot ∧
    (s.startRequest l p).clock = s.clock ∧ (s.startRequest l p).resetTime = s.resetTime ∧
    (s.startRequest l p).pins = s.pins := by
  unfold State.startRequest
  try dsimp only
  repeat' split
  all_goals simp

@[simp] theorem State.pauseRequest_frame (s : State) (l : Link) :
    (s.pauseRequest l).pending = s.pending ∧ (s.pauseRequest l).boot = s.boot ∧ (s.pauseRequest l).clock = s.clock ∧
    (s.pauseRequest l).resetTime = s.resetTime ∧ (s.pauseRequest l).pins = s.pins := by
  unfold State.pauseRequest
  try dsimp only
  repeat' split
  all_goals simp

@[simp] theorem State.resumeRequest_frame (s : State) (l : Link) :
    (s.resumeRequest l).pending = s.pending ∧ (s.resumeRequest l).boot = s.boot ∧
    (s.resumeRequest l).clock = s.clock ∧ (s.resumeRequest l).resetTime = s.resetTime ∧
    (s.resumeRequest l).pins = s.pins := by
  unfold State.resumeRequest
  try dsimp only
  repeat' split
  all_goals simp

@[simp] theorem State.abortCycle_frame (s : State) (r : EndReason) :
    (s.abortCycle r).pending = s.pending ∧ (s.abortCycle r).boot = s.boot ∧ (s.abortCycle r).clock = s.clock ∧
    (s.abortCycle r).resetTime = s.resetTime ∧ (s.abortCycle r).pins = s.pins := by
  unfold State.abortCycle
  try dsimp only
  repeat' split
  all_goals simp

@[simp] theorem State.abortRequest_frame (s : State) (l : Link) :
    (s.abortRequest l).pending = s.pending ∧ (s.abortRequest l).boot = s.boot ∧ (s.abortRequest l).clock = s.clock ∧
    (s.abortRequest l).resetTime = s.resetTime ∧ (s.abortRequest l).pins = s.pins := by
  unfold State.abortRequest
  try dsimp only
  repeat' split
  all_goals simp

@[simp] theorem State.advanceRequest_frame (s : State) (l : Link) :
    (s.advanceRequest l).pending = s.pending ∧ (s.advanceRequest l).boot = s.boot ∧
    (s.advanceRequest l).clock = s.clock ∧ (s.advanceRequest l).resetTime = s.resetTime ∧
    (s.advanceRequest l).pins = s.pins := by
  unfold State.advanceRequest
  try dsimp only
  repeat' split
  all_goals simp

@[simp] theorem State.clearRequest_frame (s : State) (l : Link) :
    (s.clearRequest l).pending = s.pending ∧ (s.clearRequest l).boot = s.boot ∧ (s.clearRequest l).clock = s.clock ∧
    (s.clearRequest l).resetTime = s.resetTime ∧ (s.clearRequest l).pins = s.pins := by
  unfold State.clearRequest
  try dsimp only
  repeat' split
  all_goals simp

@[simp] theorem State.takeControlRequest_frame (s : State) (l : Link) :
    (s.takeControlRequest l).pending = s.pending ∧ (s.takeControlRequest l).boot = s.boot ∧
    (s.takeControlRequest l).clock = s.clock ∧ (s.takeControlRequest l).resetTime = s.resetTime ∧
    (s.takeControlRequest l).pins = s.pins := by
  unfold State.takeControlRequest
  try dsimp only
  repeat' split
  all_goals simp

@[simp] theorem State.release_frame (s : State) (c : Cause) :
    (s.release c).pending = s.pending ∧ (s.release c).boot = s.boot ∧ (s.release c).clock = s.clock ∧
    (s.release c).resetTime = s.resetTime ∧ (s.release c).pins = s.pins := by
  unfold State.release
  try dsimp only
  simp

@[simp] theorem State.releaseControlRequest_frame (s : State) (l : Link) :
    (s.releaseControlRequest l).pending = s.pending ∧ (s.releaseControlRequest l).boot = s.boot ∧
    (s.releaseControlRequest l).clock = s.clock ∧ (s.releaseControlRequest l).resetTime = s.resetTime ∧
    (s.releaseControlRequest l).pins = s.pins := by
  unfold State.releaseControlRequest
  try dsimp only
  repeat' split
  all_goals simp

@[simp] theorem State.resetAtSequencer_frame (s : State) (l : Link) :
    (s.resetAtSequencer l).pending = s.pending ∧ (s.resetAtSequencer l).boot = s.boot ∧
    (s.resetAtSequencer l).clock = s.clock ∧ (s.resetAtSequencer l).resetTime = s.resetTime ∧
    (s.resetAtSequencer l).pins = s.pins := by
  unfold State.resetAtSequencer
  try dsimp only
  repeat' split
  all_goals simp

@[simp] theorem State.testTimerEnds_frame (s : State) (a : Actuator) :
    (s.testTimerEnds a).pending = s.pending ∧ (s.testTimerEnds a).boot = s.boot ∧
    (s.testTimerEnds a).clock = s.clock ∧ (s.testTimerEnds a).resetTime = s.resetTime ∧
    (s.testTimerEnds a).pins = s.pins := by
  unfold State.testTimerEnds
  try dsimp only
  repeat' split
  all_goals simp

theorem State.testDemand_frame {s t : State} {a : Actuator} {d v : Nat} (h : s.testDemand a d v = some t) :
    t.pending = s.pending ∧ t.boot = s.boot ∧ t.clock = s.clock ∧ t.resetTime = s.resetTime ∧ t.pins = s.pins := by
  unfold State.testDemand State.drumTest at h
  dsimp only at h
  repeat' split at h
  all_goals first
    | (cases h; done)
    | (injection h with h; subst h; simp)

@[simp] theorem State.testRequest_frame (s : State) (l : Link) (a d v : Byte) :
    (s.testRequest l a d v).pending = s.pending ∧ (s.testRequest l a d v).boot = s.boot ∧
    (s.testRequest l a d v).clock = s.clock ∧ (s.testRequest l a d v).resetTime = s.resetTime ∧
    (s.testRequest l a d v).pins = s.pins := by
  unfold State.testRequest
  dsimp only
  repeat' split
  all_goals first
    | (simp; done)
    | (rename_i h; have := State.testDemand_frame h; simp [this])

@[simp] theorem State.doorOpened_frame (s : State) :
    (s.doorOpened).pending = s.pending ∧ (s.doorOpened).boot = s.boot ∧ (s.doorOpened).clock = s.clock ∧
    (s.doorOpened).resetTime = s.resetTime := by
  unfold State.doorOpened
  try dsimp only
  repeat' split
  all_goals simp

@[simp] theorem State.cutoffOpened_frame (s : State) :
    (s.cutoffOpened).pending = s.pending ∧ (s.cutoffOpened).boot = s.boot ∧ (s.cutoffOpened).clock = s.clock ∧
    (s.cutoffOpened).resetTime = s.resetTime := by
  unfold State.cutoffOpened
  try dsimp only
  simp

/-! ### Watches and windows -/

@[simp] theorem State.watchAction_frame (s : State) (w : Fin 4) (a : WatchAction) (v : Int) :
    (s.watchAction w a v).pending = s.pending ∧ (s.watchAction w a v).boot = s.boot ∧
    (s.watchAction w a v).clock = s.clock ∧ (s.watchAction w a v).resetTime = s.resetTime ∧
    (s.watchAction w a v).pins = s.pins := by
  unfold State.watchAction
  try dsimp only
  repeat' split
  all_goals simp

@[simp] theorem State.watchHit_frame (s : State) (w : Fin 4) (c : WatchSettings) (v : Int) :
    (s.watchHit w c v).pending = s.pending ∧ (s.watchHit w c v).boot = s.boot ∧ (s.watchHit w c v).clock = s.clock ∧
    (s.watchHit w c v).resetTime = s.resetTime ∧ (s.watchHit w c v).pins = s.pins := by
  unfold State.watchHit
  try dsimp only
  simp

@[simp] theorem State.offerTo_frame (s : State) (q : Quantity) (v : Int) (w : Fin 4) :
    (s.offerTo q v w).pending = s.pending ∧ (s.offerTo q v w).boot = s.boot ∧ (s.offerTo q v w).clock = s.clock ∧
    (s.offerTo q v w).resetTime = s.resetTime ∧ (s.offerTo q v w).pins = s.pins := by
  unfold State.offerTo
  try dsimp only
  repeat' split
  all_goals simp

@[simp] theorem State.offerValue_frame (s : State) (q : Quantity) (v : Int) :
    (s.offerValue q v).pending = s.pending ∧ (s.offerValue q v).boot = s.boot ∧ (s.offerValue q v).clock = s.clock ∧
    (s.offerValue q v).resetTime = s.resetTime ∧ (s.offerValue q v).pins = s.pins := by
  unfold State.offerValue
  refine ⟨?_, ?_, ?_, ?_, ?_⟩ <;> (refine foldl_keep _ _ ?_ _ _; intro a b; simp)

@[simp] theorem State.claimWatch_frame (s : State) (l : Link) :
    (s.claimWatch l).pending = s.pending ∧ (s.claimWatch l).boot = s.boot ∧ (s.claimWatch l).clock = s.clock ∧
    (s.claimWatch l).resetTime = s.resetTime ∧ (s.claimWatch l).pins = s.pins ∧ (s.claimWatch l).mfe = s.mfe ∧
    (s.claimWatch l).dry = s.dry ∧ (s.claimWatch l).dmc = s.dmc ∧ (s.claimWatch l).tgm = s.tgm ∧
    (s.claimWatch l).hsc = s.hsc ∧ (s.claimWatch l).csq = s.csq ∧ (s.claimWatch l).sst = s.sst := by
  unfold State.claimWatch
  try dsimp only
  repeat' split
  all_goals simp

@[simp] theorem State.setWatchRequest_frame (s : State) (l : Link) (u q sn : Byte) (lim : Word) (h : Half) (m a : Byte) :
    (s.setWatchRequest l u q sn lim h m a).pending = s.pending ∧
    (s.setWatchRequest l u q sn lim h m a).boot = s.boot ∧ (s.setWatchRequest l u q sn lim h m a).clock = s.clock ∧
    (s.setWatchRequest l u q sn lim h m a).resetTime = s.resetTime ∧
    (s.setWatchRequest l u q sn lim h m a).pins = s.pins ∧ (s.setWatchRequest l u q sn lim h m a).mfe = s.mfe ∧
    (s.setWatchRequest l u q sn lim h m a).dry = s.dry ∧ (s.setWatchRequest l u q sn lim h m a).dmc = s.dmc ∧
    (s.setWatchRequest l u q sn lim h m a).tgm = s.tgm ∧ (s.setWatchRequest l u q sn lim h m a).hsc = s.hsc ∧
    (s.setWatchRequest l u q sn lim h m a).csq = s.csq ∧ (s.setWatchRequest l u q sn lim h m a).sst = s.sst := by
  unfold State.setWatchRequest State.withWatch
  try dsimp only
  repeat' split
  all_goals simp

@[simp] theorem State.releaseWatchRequest_frame (s : State) (l : Link) (u : Byte) :
    (s.releaseWatchRequest l u).pending = s.pending ∧ (s.releaseWatchRequest l u).boot = s.boot ∧
    (s.releaseWatchRequest l u).clock = s.clock ∧ (s.releaseWatchRequest l u).resetTime = s.resetTime ∧
    (s.releaseWatchRequest l u).pins = s.pins ∧ (s.releaseWatchRequest l u).mfe = s.mfe ∧
    (s.releaseWatchRequest l u).dry = s.dry ∧ (s.releaseWatchRequest l u).dmc = s.dmc ∧
    (s.releaseWatchRequest l u).tgm = s.tgm ∧ (s.releaseWatchRequest l u).hsc = s.hsc ∧
    (s.releaseWatchRequest l u).csq = s.csq ∧ (s.releaseWatchRequest l u).sst = s.sst := by
  unfold State.releaseWatchRequest State.withWatch
  try dsimp only
  repeat' split
  all_goals simp

@[simp] theorem State.offerWindow_frame (s : State) (w : Window) (v : Bool) (d : Dry) :
    (s.offerWindow w v d).pending = s.pending ∧ (s.offerWindow w v d).boot = s.boot ∧
    (s.offerWindow w v d).clock = s.clock ∧ (s.offerWindow w v d).resetTime = s.resetTime ∧
    (s.offerWindow w v d).pins = s.pins := by
  unfold State.offerWindow
  try dsimp only
  repeat' split
  all_goals simp

@[simp] theorem State.nextWindow_frame (s : State) :
    (s.nextWindow).pending = s.pending ∧ (s.nextWindow).boot = s.boot ∧ (s.nextWindow).clock = s.clock ∧
    (s.nextWindow).resetTime = s.resetTime ∧ (s.nextWindow).pins = s.pins := by
  unfold State.nextWindow
  try dsimp only
  repeat' split
  all_goals simp

@[simp] theorem State.endWindow_frame (s : State) (w : Window) :
    (s.endWindow w).pending = s.pending ∧ (s.endWindow w).boot = s.boot ∧ (s.endWindow w).clock = s.clock ∧
    (s.endWindow w).resetTime = s.resetTime ∧ (s.endWindow w).pins = s.pins := by
  unfold State.endWindow
  try dsimp only
  repeat' split
  all_goals simp

@[simp] theorem State.windowEnds_frame (s : State) :
    (s.windowEnds).pending = s.pending ∧ (s.windowEnds).boot = s.boot ∧ (s.windowEnds).clock = s.clock ∧
    (s.windowEnds).resetTime = s.resetTime ∧ (s.windowEnds).pins = s.pins := by
  unfold State.windowEnds
  try dsimp only
  repeat' split
  all_goals simp

@[simp] theorem State.dryingSecond_frame (s : State) :
    (s.dryingSecond).pending = s.pending ∧ (s.dryingSecond).boot = s.boot ∧ (s.dryingSecond).clock = s.clock ∧
    (s.dryingSecond).resetTime = s.resetTime ∧ (s.dryingSecond).pins = s.pins := by
  unfold State.dryingSecond
  try dsimp only
  simp

/-! ### Pulses and the drum's timers -/

@[simp] theorem State.burstAccepted_frame (s : State) (b : State) (c : Nat) :
    (s.burstAccepted b c).pending = s.pending ∧ (s.burstAccepted b c).boot = s.boot ∧
    (s.burstAccepted b c).clock = s.clock ∧ (s.burstAccepted b c).resetTime = s.resetTime ∧
    (s.burstAccepted b c).pins = s.pins := by
  unfold State.burstAccepted
  try dsimp only
  simp

@[simp] theorem State.escalate_frame (s : State) (c : Nat) :
    (s.escalate c).pending = s.pending ∧ (s.escalate c).boot = s.boot ∧ (s.escalate c).clock = s.clock ∧
    (s.escalate c).resetTime = s.resetTime ∧ (s.escalate c).pins = s.pins := by
  unfold State.escalate
  try dsimp only
  simp

theorem State.takeBurst_frame {s t : State} (h : s.takeBurst = some t) :
    t.pending = s.pending ∧ t.boot = s.boot ∧ t.clock = s.clock ∧ t.resetTime = s.resetTime ∧ t.pins = s.pins ∧
    t.mfe = s.mfe ∧ t.tgm = s.tgm ∧ t.csq = s.csq ∧ t.cap = s.cap ∧ t.sst = s.sst ∧ t.linkA = s.linkA ∧
    t.linkS = s.linkS := by
  unfold State.takeBurst at h
  repeat' split at h
  all_goals first
    | (cases h; done)
    | (injection h with h; subst h; simp)

@[simp] theorem State.actOnTangle_frame (s : State) :
    (s.actOnTangle).pending = s.pending ∧ (s.actOnTangle).boot = s.boot ∧ (s.actOnTangle).clock = s.clock ∧
    (s.actOnTangle).resetTime = s.resetTime ∧ (s.actOnTangle).pins = s.pins := by
  unfold State.actOnTangle
  dsimp only
  repeat' split
  all_goals first
    | (simp; done)
    | (rename_i h; have := State.takeBurst_frame h; simp [this])

@[simp] theorem State.scoreRevolution_frame (s : State) :
    (s.scoreRevolution).pending = s.pending ∧ (s.scoreRevolution).boot = s.boot ∧
    (s.scoreRevolution).clock = s.clock ∧ (s.scoreRevolution).resetTime = s.resetTime ∧
    (s.scoreRevolution).pins = s.pins := by
  unfold State.scoreRevolution
  try dsimp only
  repeat' split
  all_goals simp

@[simp] theorem State.openRevolution_frame (s : State) :
    (s.openRevolution).pending = s.pending ∧ (s.openRevolution).boot = s.boot ∧ (s.openRevolution).clock = s.clock ∧
    (s.openRevolution).resetTime = s.resetTime ∧ (s.openRevolution).pins = s.pins ∧ (s.openRevolution).mfe = s.mfe ∧
    (s.openRevolution).dry = s.dry ∧ (s.openRevolution).tgm = s.tgm ∧ (s.openRevolution).hsc = s.hsc ∧
    (s.openRevolution).csq = s.csq ∧ (s.openRevolution).cap = s.cap ∧ (s.openRevolution).sst = s.sst ∧
    (s.openRevolution).linkA = s.linkA ∧ (s.openRevolution).linkS = s.linkS := by
  unfold State.openRevolution
  try dsimp only
  simp

@[simp] theorem State.closeRevolution_frame (s : State) (o : OpenRevolution) :
    (s.closeRevolution o).pending = s.pending ∧ (s.closeRevolution o).boot = s.boot ∧
    (s.closeRevolution o).clock = s.clock ∧ (s.closeRevolution o).resetTime = s.resetTime ∧
    (s.closeRevolution o).pins = s.pins := by
  unfold State.closeRevolution
  try dsimp only
  simp

@[simp] theorem State.pulseTurning_frame (s : State) :
    (s.pulseTurning).pending = s.pending ∧ (s.pulseTurning).boot = s.boot ∧ (s.pulseTurning).clock = s.clock ∧
    (s.pulseTurning).resetTime = s.resetTime ∧ (s.pulseTurning).pins = s.pins := by
  unfold State.pulseTurning
  try dsimp only
  repeat' split
  all_goals simp

@[simp] theorem State.pulseStarting_frame (s : State) (d : Dir) :
    (s.pulseStarting d).pending = s.pending ∧ (s.pulseStarting d).boot = s.boot ∧
    (s.pulseStarting d).clock = s.clock ∧ (s.pulseStarting d).resetTime = s.resetTime ∧
    (s.pulseStarting d).pins = s.pins := by
  unfold State.pulseStarting
  try dsimp only
  repeat' split
  all_goals simp

@[simp] theorem State.pulseResting_frame (s : State) :
    (s.pulseResting).pending = s.pending ∧ (s.pulseResting).boot = s.boot ∧ (s.pulseResting).clock = s.clock ∧
    (s.pulseResting).resetTime = s.resetTime ∧ (s.pulseResting).pins = s.pins := by
  unfold State.pulseResting
  try dsimp only
  repeat' split
  all_goals simp

@[simp] theorem State.pulse_frame (s : State) :
    (s.pulse).pending = s.pending ∧ (s.pulse).boot = s.boot ∧ (s.pulse).clock = s.clock ∧
    (s.pulse).resetTime = s.resetTime ∧ (s.pulse).pins = s.pins := by
  unfold State.pulse
  try dsimp only
  repeat' split
  all_goals simp

@[simp] theorem State.becomeStill_frame (s : State) :
    (s.becomeStill).pending = s.pending ∧ (s.becomeStill).boot = s.boot ∧ (s.becomeStill).clock = s.clock ∧
    (s.becomeStill).resetTime = s.resetTime ∧ (s.becomeStill).pins = s.pins ∧ (s.becomeStill).mfe = s.mfe ∧
    (s.becomeStill).dry = s.dry ∧ (s.becomeStill).cap = s.cap ∧ (s.becomeStill).sst = s.sst := by
  unfold State.becomeStill
  try dsimp only
  repeat' split
  all_goals simp

@[simp] theorem State.restMinimumPasses_frame (s : State) :
    (s.restMinimumPasses).pending = s.pending ∧ (s.restMinimumPasses).boot = s.boot ∧
    (s.restMinimumPasses).clock = s.clock ∧ (s.restMinimumPasses).resetTime = s.resetTime ∧
    (s.restMinimumPasses).pins = s.pins ∧ (s.restMinimumPasses).mfe = s.mfe ∧ (s.restMinimumPasses).dry = s.dry ∧
    (s.restMinimumPasses).csq = s.csq ∧ (s.restMinimumPasses).cap = s.cap ∧ (s.restMinimumPasses).sst = s.sst ∧
    (s.restMinimumPasses).linkA = s.linkA ∧ (s.restMinimumPasses).linkS = s.linkS := by
  unfold State.restMinimumPasses
  try dsimp only
  simp

@[simp] theorem State.stepEnds_frame (s : State) :
    (s.stepEnds).pending = s.pending ∧ (s.stepEnds).boot = s.boot ∧ (s.stepEnds).clock = s.clock ∧
    (s.stepEnds).resetTime = s.resetTime ∧ (s.stepEnds).pins = s.pins ∧ (s.stepEnds).mfe = s.mfe ∧
    (s.stepEnds).dry = s.dry ∧ (s.stepEnds).tgm = s.tgm ∧ (s.stepEnds).csq = s.csq ∧ (s.stepEnds).cap = s.cap ∧
    (s.stepEnds).sst = s.sst ∧ (s.stepEnds).linkA = s.linkA ∧ (s.stepEnds).linkS = s.linkS := by
  unfold State.stepEnds
  try dsimp only
  repeat' split
  all_goals simp

@[simp] theorem State.burstTimeEnds_frame (s : State) :
    (s.burstTimeEnds).pending = s.pending ∧ (s.burstTimeEnds).boot = s.boot ∧ (s.burstTimeEnds).clock = s.clock ∧
    (s.burstTimeEnds).resetTime = s.resetTime ∧ (s.burstTimeEnds).pins = s.pins ∧ (s.burstTimeEnds).mfe = s.mfe ∧
    (s.burstTimeEnds).dry = s.dry ∧ (s.burstTimeEnds).tgm = s.tgm ∧ (s.burstTimeEnds).csq = s.csq ∧
    (s.burstTimeEnds).cap = s.cap ∧ (s.burstTimeEnds).sst = s.sst ∧ (s.burstTimeEnds).linkA = s.linkA ∧
    (s.burstTimeEnds).linkS = s.linkS := by
  unfold State.burstTimeEnds
  try dsimp only
  simp

@[simp] theorem State.stallExpires_frame (s : State) :
    (s.stallExpires).pending = s.pending ∧ (s.stallExpires).boot = s.boot ∧ (s.stallExpires).clock = s.clock ∧
    (s.stallExpires).resetTime = s.resetTime ∧ (s.stallExpires).pins = s.pins := by
  unfold State.stallExpires
  try dsimp only
  simp

@[simp] theorem State.restCheckExpires_frame (s : State) :
    (s.restCheckExpires).pending = s.pending ∧ (s.restCheckExpires).boot = s.boot ∧
    (s.restCheckExpires).clock = s.clock ∧ (s.restCheckExpires).resetTime = s.resetTime ∧
    (s.restCheckExpires).pins = s.pins := by
  unfold State.restCheckExpires
  try dsimp only
  repeat' split
  all_goals simp

@[simp] theorem State.ivfChanges_frame (s : State) (a : Bool) :
    (s.ivfChanges a).pending = s.pending ∧ (s.ivfChanges a).boot = s.boot ∧ (s.ivfChanges a).clock = s.clock ∧
    (s.ivfChanges a).resetTime = s.resetTime := by
  unfold State.ivfChanges
  try dsimp only
  simp

@[simp] theorem State.recheckExpires_frame (s : State) :
    (s.recheckExpires).pending = s.pending ∧ (s.recheckExpires).boot = s.boot ∧ (s.recheckExpires).clock = s.clock ∧
    (s.recheckExpires).resetTime = s.resetTime ∧ (s.recheckExpires).pins = s.pins ∧ (s.recheckExpires).mfe = s.mfe ∧
    (s.recheckExpires).dry = s.dry ∧ (s.recheckExpires).dmc = s.dmc ∧ (s.recheckExpires).csq = s.csq ∧
    (s.recheckExpires).cap = s.cap ∧ (s.recheckExpires).sst = s.sst ∧ (s.recheckExpires).linkA = s.linkA ∧
    (s.recheckExpires).linkS = s.linkS := by
  unfold State.recheckExpires
  try dsimp only
  simp

/-! ### Conversions and periods -/

@[simp] theorem State.housingCheck_frame (s : State) (v : Int) :
    (s.housingCheck v).pending = s.pending ∧ (s.housingCheck v).boot = s.boot ∧ (s.housingCheck v).clock = s.clock ∧
    (s.housingCheck v).resetTime = s.resetTime ∧ (s.housingCheck v).pins = s.pins := by
  unfold State.housingCheck
  try dsimp only
  repeat' split
  all_goals simp

@[simp] theorem State.heatTemperature_frame (s : State) (ch : Channel) (j : Judged) :
    (s.heatTemperature ch j).pending = s.pending ∧ (s.heatTemperature ch j).boot = s.boot ∧
    (s.heatTemperature ch j).clock = s.clock ∧ (s.heatTemperature ch j).resetTime = s.resetTime ∧
    (s.heatTemperature ch j).pins = s.pins := by
  unfold State.heatTemperature
  try dsimp only
  repeat' split
  all_goals simp

@[simp] theorem State.stuckCheck_frame (s : State) (v : Int) :
    (s.stuckCheck v).pending = s.pending ∧ (s.stuckCheck v).boot = s.boot ∧ (s.stuckCheck v).clock = s.clock ∧
    (s.stuckCheck v).resetTime = s.resetTime ∧ (s.stuckCheck v).pins = s.pins := by
  unfold State.stuckCheck
  try dsimp only
  repeat' split
  all_goals simp

@[simp] theorem State.heatCurrent_frame (s : State) (v : Int) :
    (s.heatCurrent v).pending = s.pending ∧ (s.heatCurrent v).boot = s.boot ∧ (s.heatCurrent v).clock = s.clock ∧
    (s.heatCurrent v).resetTime = s.resetTime ∧ (s.heatCurrent v).pins = s.pins := by
  unfold State.heatCurrent
  try dsimp only
  repeat' split
  all_goals simp

@[simp] theorem State.cycleTemperature_frame (s : State) (ch : Channel) (j : Judged) :
    (s.cycleTemperature ch j).pending = s.pending ∧ (s.cycleTemperature ch j).boot = s.boot ∧
    (s.cycleTemperature ch j).clock = s.clock ∧ (s.cycleTemperature ch j).resetTime = s.resetTime ∧
    (s.cycleTemperature ch j).pins = s.pins := by
  unfold State.cycleTemperature
  try dsimp only
  repeat' split
  all_goals simp

@[simp] theorem State.offerTemperature_frame (s : State) (ch : Channel) (j : Judged) :
    (s.offerTemperature ch j).pending = s.pending ∧ (s.offerTemperature ch j).boot = s.boot ∧
    (s.offerTemperature ch j).clock = s.clock ∧ (s.offerTemperature ch j).resetTime = s.resetTime ∧
    (s.offerTemperature ch j).pins = s.pins := by
  unfold State.offerTemperature
  try dsimp only
  repeat' split
  all_goals simp

@[simp] theorem State.convertTemperature_frame (s : State) (ch : Channel) (c : Code) :
    (s.convertTemperature ch c).pending = s.pending ∧ (s.convertTemperature ch c).boot = s.boot ∧
    (s.convertTemperature ch c).clock = s.clock ∧ (s.convertTemperature ch c).resetTime = s.resetTime ∧
    (s.convertTemperature ch c).pins = s.pins := by
  unfold State.convertTemperature
  try dsimp only
  simp

@[simp] theorem State.convertHeat_frame (s : State) (c : Code) :
    (s.convertHeat c).pending = s.pending ∧ (s.convertHeat c).boot = s.boot ∧ (s.convertHeat c).clock = s.clock ∧
    (s.convertHeat c).resetTime = s.resetTime ∧ (s.convertHeat c).pins = s.pins := by
  unfold State.convertHeat
  try dsimp only
  simp

@[simp] theorem State.convert_frame (s : State) (ch : Channel) (c : Code) :
    (s.convert ch c).pending = s.pending ∧ (s.convert ch c).boot = s.boot ∧ (s.convert ch c).clock = s.clock ∧
    (s.convert ch c).resetTime = s.resetTime ∧ (s.convert ch c).pins = s.pins := by
  unfold State.convert
  try dsimp only
  repeat' split
  all_goals simp

@[simp] theorem State.slowConversion_frame (s : State) (c : Code) :
    (s.slowConversion c).pending = s.pending ∧ (s.slowConversion c).boot = s.boot ∧
    (s.slowConversion c).clock = s.clock ∧ (s.slowConversion c).resetTime = s.resetTime ∧
    (s.slowConversion c).pins = s.pins := by
  unfold State.slowConversion
  try dsimp only
  simp

@[simp] theorem State.motorSample_frame (s : State) (i : Nat) :
    (s.motorSample i).pending = s.pending ∧ (s.motorSample i).boot = s.boot ∧ (s.motorSample i).clock = s.clock ∧
    (s.motorSample i).resetTime = s.resetTime ∧ (s.motorSample i).pins = s.pins ∧ (s.motorSample i).mfe = s.mfe ∧
    (s.motorSample i).dry = s.dry ∧ (s.motorSample i).tgm = s.tgm ∧ (s.motorSample i).hsc = s.hsc ∧
    (s.motorSample i).csq = s.csq ∧ (s.motorSample i).cap = s.cap ∧ (s.motorSample i).sst = s.sst ∧
    (s.motorSample i).linkA = s.linkA ∧ (s.motorSample i).linkS = s.linkS := by
  unfold State.motorSample
  try dsimp only
  simp

@[simp] theorem State.fastConversion_frame (s : State) (b m : Code) :
    (s.fastConversion b m).pending = s.pending ∧ (s.fastConversion b m).boot = s.boot ∧
    (s.fastConversion b m).clock = s.clock ∧ (s.fastConversion b m).resetTime = s.resetTime ∧
    (s.fastConversion b m).pins = s.pins ∧ (s.fastConversion b m).tgm = s.tgm ∧ (s.fastConversion b m).hsc = s.hsc ∧
    (s.fastConversion b m).csq = s.csq ∧ (s.fastConversion b m).sst = s.sst := by
  unfold State.fastConversion
  try dsimp only
  simp

@[simp] theorem State.roundConversion_frame (s : State) (c : Code) :
    (s.roundConversion c).pending = s.pending ∧ (s.roundConversion c).boot = s.boot ∧
    (s.roundConversion c).clock = s.clock ∧ (s.roundConversion c).resetTime = s.resetTime ∧
    (s.roundConversion c).pins = s.pins := by
  unfold State.roundConversion
  try dsimp only
  repeat' split
  all_goals simp

@[simp] theorem State.startupConversion_frame (s : State) (c : Code) :
    (s.startupConversion c).pending = s.pending ∧ (s.startupConversion c).boot = s.boot ∧
    (s.startupConversion c).clock = s.clock ∧ (s.startupConversion c).resetTime = s.resetTime ∧
    (s.startupConversion c).pins = s.pins := by
  unfold State.startupConversion
  try dsimp only
  repeat' split
  all_goals simp

@[simp] theorem State.heatPeriod_frame (s : State) :
    (s.heatPeriod).pending = s.pending ∧ (s.heatPeriod).boot = s.boot ∧ (s.heatPeriod).clock = s.clock ∧
    (s.heatPeriod).resetTime = s.resetTime ∧ (s.heatPeriod).pins = s.pins := by
  unfold State.heatPeriod
  try dsimp only
  repeat' split
  all_goals simp

@[simp] theorem State.controlPeriod_frame (s : State) :
    (s.controlPeriod).pending = s.pending ∧ (s.controlPeriod).boot = s.boot ∧ (s.controlPeriod).clock = s.clock ∧
    (s.controlPeriod).resetTime = s.resetTime ∧ (s.controlPeriod).pins = s.pins := by
  unfold State.controlPeriod
  try dsimp only
  simp

@[simp] theorem State.airflowChanges_frame (s : State) (c : Bool) :
    (s.airflowChanges c).pending = s.pending ∧ (s.airflowChanges c).boot = s.boot ∧
    (s.airflowChanges c).clock = s.clock ∧ (s.airflowChanges c).resetTime = s.resetTime := by
  unfold State.airflowChanges
  try dsimp only
  simp

@[simp] theorem State.pauseExpires_frame (s : State) :
    (s.pauseExpires).pending = s.pending ∧ (s.pauseExpires).boot = s.boot ∧ (s.pauseExpires).clock = s.clock ∧
    (s.pauseExpires).resetTime = s.resetTime ∧ (s.pauseExpires).pins = s.pins ∧ (s.pauseExpires).mfe = s.mfe ∧
    (s.pauseExpires).dry = s.dry ∧ (s.pauseExpires).dmc = s.dmc ∧ (s.pauseExpires).tgm = s.tgm ∧
    (s.pauseExpires).csq = s.csq ∧ (s.pauseExpires).cap = s.cap ∧ (s.pauseExpires).sst = s.sst ∧
    (s.pauseExpires).linkA = s.linkA ∧ (s.pauseExpires).linkS = s.linkS := by
  unfold State.pauseExpires
  try dsimp only
  simp

@[simp] theorem State.proofExpires_frame (s : State) :
    (s.proofExpires).pending = s.pending ∧ (s.proofExpires).boot = s.boot ∧ (s.proofExpires).clock = s.clock ∧
    (s.proofExpires).resetTime = s.resetTime ∧ (s.proofExpires).pins = s.pins := by
  unfold State.proofExpires
  try dsimp only
  simp

@[simp] theorem State.graceExpires_frame (s : State) :
    (s.graceExpires).pending = s.pending ∧ (s.graceExpires).boot = s.boot ∧ (s.graceExpires).clock = s.clock ∧
    (s.graceExpires).resetTime = s.resetTime ∧ (s.graceExpires).pins = s.pins := by
  unfold State.graceExpires
  try dsimp only
  simp

/-! ### Link controllers -/

@[simp] theorem State.reportFrame_frame (s : State) (l : Link) :
    (s.reportFrame l).pending = s.pending ∧ (s.reportFrame l).boot = s.boot ∧ (s.reportFrame l).clock = s.clock ∧
    (s.reportFrame l).resetTime = s.resetTime ∧ (s.reportFrame l).pins = s.pins ∧ (s.reportFrame l).mfe = s.mfe ∧
    (s.reportFrame l).dry = s.dry ∧ (s.reportFrame l).dmc = s.dmc ∧ (s.reportFrame l).tgm = s.tgm ∧
    (s.reportFrame l).hsc = s.hsc ∧ (s.reportFrame l).cap = s.cap ∧ (s.reportFrame l).sst = s.sst ∧
    (s.reportFrame l).linkA = s.linkA ∧ (s.reportFrame l).linkS = s.linkS := by
  unfold State.reportFrame
  try dsimp only
  repeat' split
  all_goals simp

@[simp] theorem State.resetArrives_frame (s : State) (l : Link) :
    (s.resetArrives l).pending = s.pending ∧ (s.resetArrives l).boot = s.boot ∧ (s.resetArrives l).clock = s.clock ∧
    (s.resetArrives l).resetTime = s.resetTime ∧ (s.resetArrives l).pins = s.pins ∧ (s.resetArrives l).mfe = s.mfe ∧
    (s.resetArrives l).dry = s.dry ∧ (s.resetArrives l).dmc = s.dmc ∧ (s.resetArrives l).tgm = s.tgm ∧
    (s.resetArrives l).hsc = s.hsc ∧ (s.resetArrives l).cap = s.cap ∧ (s.resetArrives l).sst = s.sst := by
  unfold State.resetArrives
  try dsimp only
  repeat' split
  all_goals simp

@[simp] theorem State.resetEffects_frame (s : State) (l : Link) :
    (s.resetEffects l).pending = s.pending ∧ (s.resetEffects l).boot = s.boot ∧ (s.resetEffects l).clock = s.clock ∧
    (s.resetEffects l).resetTime = s.resetTime ∧ (s.resetEffects l).pins = s.pins := by
  unfold State.resetEffects
  try dsimp only
  simp

@[simp] theorem State.noticeCfgRequest_frame (s : State) (l : Link) (e : Half) (p : Byte) :
    (s.noticeCfgRequest l e p).pending = s.pending ∧ (s.noticeCfgRequest l e p).boot = s.boot ∧
    (s.noticeCfgRequest l e p).clock = s.clock ∧ (s.noticeCfgRequest l e p).resetTime = s.resetTime ∧
    (s.noticeCfgRequest l e p).pins = s.pins ∧ (s.noticeCfgRequest l e p).mfe = s.mfe ∧
    (s.noticeCfgRequest l e p).dry = s.dry ∧ (s.noticeCfgRequest l e p).dmc = s.dmc ∧
    (s.noticeCfgRequest l e p).tgm = s.tgm ∧ (s.noticeCfgRequest l e p).hsc = s.hsc ∧
    (s.noticeCfgRequest l e p).csq = s.csq ∧ (s.noticeCfgRequest l e p).cap = s.cap ∧
    (s.noticeCfgRequest l e p).sst = s.sst := by
  unfold State.noticeCfgRequest
  try dsimp only
  repeat' split
  all_goals simp

@[simp] theorem State.ackNoticeRequest_frame (s : State) (l : Link) (k : Half) :
    (s.ackNoticeRequest l k).pending = s.pending ∧ (s.ackNoticeRequest l k).boot = s.boot ∧
    (s.ackNoticeRequest l k).clock = s.clock ∧ (s.ackNoticeRequest l k).resetTime = s.resetTime ∧
    (s.ackNoticeRequest l k).pins = s.pins ∧ (s.ackNoticeRequest l k).mfe = s.mfe ∧
    (s.ackNoticeRequest l k).dry = s.dry ∧ (s.ackNoticeRequest l k).dmc = s.dmc ∧
    (s.ackNoticeRequest l k).tgm = s.tgm ∧ (s.ackNoticeRequest l k).hsc = s.hsc ∧
    (s.ackNoticeRequest l k).csq = s.csq ∧ (s.ackNoticeRequest l k).cap = s.cap ∧
    (s.ackNoticeRequest l k).sst = s.sst := by
  unfold State.ackNoticeRequest
  try dsimp only
  repeat' split
  all_goals simp

@[simp] theorem State.linkStatsRequest_frame (s : State) (l : Link) :
    (s.linkStatsRequest l).pending = s.pending ∧ (s.linkStatsRequest l).boot = s.boot ∧
    (s.linkStatsRequest l).clock = s.clock ∧ (s.linkStatsRequest l).resetTime = s.resetTime ∧
    (s.linkStatsRequest l).pins = s.pins ∧ (s.linkStatsRequest l).mfe = s.mfe ∧ (s.linkStatsRequest l).dry = s.dry ∧
    (s.linkStatsRequest l).dmc = s.dmc ∧ (s.linkStatsRequest l).tgm = s.tgm ∧ (s.linkStatsRequest l).hsc = s.hsc ∧
    (s.linkStatsRequest l).csq = s.csq ∧ (s.linkStatsRequest l).cap = s.cap ∧ (s.linkStatsRequest l).sst = s.sst := by
  unfold State.linkStatsRequest
  try dsimp only
  simp

@[simp] theorem State.identifyRequest_frame (s : State) (l : Link) :
    (s.identifyRequest l).pending = s.pending ∧ (s.identifyRequest l).boot = s.boot ∧
    (s.identifyRequest l).clock = s.clock ∧ (s.identifyRequest l).resetTime = s.resetTime ∧
    (s.identifyRequest l).pins = s.pins ∧ (s.identifyRequest l).mfe = s.mfe ∧ (s.identifyRequest l).dry = s.dry ∧
    (s.identifyRequest l).dmc = s.dmc ∧ (s.identifyRequest l).tgm = s.tgm ∧ (s.identifyRequest l).hsc = s.hsc ∧
    (s.identifyRequest l).csq = s.csq ∧ (s.identifyRequest l).cap = s.cap ∧ (s.identifyRequest l).sst = s.sst := by
  unfold State.identifyRequest
  try dsimp only
  simp

@[simp] theorem State.statusRequest_frame (s : State) (l : Link) :
    (s.statusRequest l).pending = s.pending ∧ (s.statusRequest l).boot = s.boot ∧
    (s.statusRequest l).clock = s.clock ∧ (s.statusRequest l).resetTime = s.resetTime ∧
    (s.statusRequest l).pins = s.pins ∧ (s.statusRequest l).mfe = s.mfe ∧ (s.statusRequest l).dry = s.dry ∧
    (s.statusRequest l).dmc = s.dmc ∧ (s.statusRequest l).tgm = s.tgm ∧ (s.statusRequest l).hsc = s.hsc ∧
    (s.statusRequest l).csq = s.csq ∧ (s.statusRequest l).cap = s.cap ∧ (s.statusRequest l).sst = s.sst := by
  unfold State.statusRequest
  try dsimp only
  simp

@[simp] theorem State.serve_frame (s : State) (l : Link) (r : Request) :
    (s.serve l r).pending = s.pending ∧ (s.serve l r).boot = s.boot ∧ (s.serve l r).clock = s.clock ∧
    (s.serve l r).resetTime = s.resetTime ∧ (s.serve l r).pins = s.pins := by
  unfold State.serve
  try dsimp only
  cases r <;> (try dsimp only) <;> simp

@[simp] theorem State.takeFrame_frame (s : State) (l : Link) (f : Frame) :
    (s.takeFrame l f).pending = s.pending ∧ (s.takeFrame l f).boot = s.boot ∧ (s.takeFrame l f).clock = s.clock ∧
    (s.takeFrame l f).resetTime = s.resetTime ∧ (s.takeFrame l f).pins = s.pins := by
  unfold State.takeFrame
  try dsimp only
  repeat' split
  all_goals simp

@[simp] theorem State.takeRequest_frame (s : State) (l : Link) :
    (s.takeRequest l).pending = s.pending ∧ (s.takeRequest l).boot = s.boot ∧ (s.takeRequest l).clock = s.clock ∧
    (s.takeRequest l).resetTime = s.resetTime ∧ (s.takeRequest l).pins = s.pins := by
  unfold State.takeRequest
  try dsimp only
  repeat' split
  all_goals simp

@[simp] theorem State.arrive_frame (s : State) (l : Link) (r : Request) :
    (s.arrive l r).pending = s.pending ∧ (s.arrive l r).boot = s.boot ∧ (s.arrive l r).clock = s.clock ∧
    (s.arrive l r).resetTime = s.resetTime ∧ (s.arrive l r).pins = s.pins := by
  unfold State.arrive
  try dsimp only
  repeat' split
  all_goals simp

@[simp] theorem State.frameArrives_frame (s : State) (l : Link) (f : Frame) :
    (s.frameArrives l f).pending = s.pending ∧ (s.frameArrives l f).boot = s.boot ∧
    (s.frameArrives l f).clock = s.clock ∧ (s.frameArrives l f).resetTime = s.resetTime ∧
    (s.frameArrives l f).pins = s.pins ∧ (s.frameArrives l f).mfe = s.mfe ∧ (s.frameArrives l f).dry = s.dry ∧
    (s.frameArrives l f).dmc = s.dmc ∧ (s.frameArrives l f).tgm = s.tgm ∧ (s.frameArrives l f).hsc = s.hsc ∧
    (s.frameArrives l f).cap = s.cap ∧ (s.frameArrives l f).sst = s.sst := by
  unfold State.frameArrives
  try dsimp only
  repeat' split
  all_goals simp

@[simp] theorem State.setAssembler_frame (s : State) (l : Link) (a : Assembler) :
    (s.setAssembler l a).pending = s.pending ∧ (s.setAssembler l a).boot = s.boot ∧
    (s.setAssembler l a).clock = s.clock ∧ (s.setAssembler l a).resetTime = s.resetTime ∧
    (s.setAssembler l a).pins = s.pins ∧ (s.setAssembler l a).mfe = s.mfe ∧ (s.setAssembler l a).dry = s.dry ∧
    (s.setAssembler l a).dmc = s.dmc ∧ (s.setAssembler l a).tgm = s.tgm ∧ (s.setAssembler l a).hsc = s.hsc ∧
    (s.setAssembler l a).csq = s.csq ∧ (s.setAssembler l a).cap = s.cap ∧ (s.setAssembler l a).sst = s.sst := by
  unfold State.setAssembler
  try dsimp only
  repeat' split
  all_goals simp

@[simp] theorem State.countError_frame (s : State) (l : Link) (f : ErrorCounts → ErrorCounts) :
    (s.countError l f).pending = s.pending ∧ (s.countError l f).boot = s.boot ∧ (s.countError l f).clock = s.clock ∧
    (s.countError l f).resetTime = s.resetTime ∧ (s.countError l f).pins = s.pins ∧ (s.countError l f).mfe = s.mfe ∧
    (s.countError l f).dry = s.dry ∧ (s.countError l f).dmc = s.dmc ∧ (s.countError l f).tgm = s.tgm ∧
    (s.countError l f).hsc = s.hsc ∧ (s.countError l f).csq = s.csq ∧ (s.countError l f).cap = s.cap ∧
    (s.countError l f).sst = s.sst := by
  unfold State.countError
  try dsimp only
  simp

@[simp] theorem State.judgeFrame_frame (s : State) (l : Link) (len : Nat) (bs : List Byte) (e : Bool) (c : Byte) :
    (s.judgeFrame l len bs e c).pending = s.pending ∧ (s.judgeFrame l len bs e c).boot = s.boot ∧
    (s.judgeFrame l len bs e c).clock = s.clock ∧ (s.judgeFrame l len bs e c).resetTime = s.resetTime ∧
    (s.judgeFrame l len bs e c).pins = s.pins ∧ (s.judgeFrame l len bs e c).mfe = s.mfe ∧
    (s.judgeFrame l len bs e c).dry = s.dry ∧ (s.judgeFrame l len bs e c).dmc = s.dmc ∧
    (s.judgeFrame l len bs e c).tgm = s.tgm ∧ (s.judgeFrame l len bs e c).hsc = s.hsc ∧
    (s.judgeFrame l len bs e c).cap = s.cap ∧ (s.judgeFrame l len bs e c).sst = s.sst := by
  unfold State.judgeFrame
  try dsimp only
  repeat' split
  all_goals simp

@[simp] theorem State.receive_frame (s : State) (l : Link) (b : Byte) (e : Bool) :
    (s.receive l b e).pending = s.pending ∧ (s.receive l b e).boot = s.boot ∧ (s.receive l b e).clock = s.clock ∧
    (s.receive l b e).resetTime = s.resetTime ∧ (s.receive l b e).pins = s.pins ∧ (s.receive l b e).mfe = s.mfe ∧
    (s.receive l b e).dry = s.dry ∧ (s.receive l b e).dmc = s.dmc ∧ (s.receive l b e).tgm = s.tgm ∧
    (s.receive l b e).hsc = s.hsc ∧ (s.receive l b e).cap = s.cap ∧ (s.receive l b e).sst = s.sst := by
  unfold State.receive
  try dsimp only
  repeat' split
  all_goals simp

@[simp] theorem State.gapExpires_frame (s : State) (l : Link) :
    (s.gapExpires l).pending = s.pending ∧ (s.gapExpires l).boot = s.boot ∧ (s.gapExpires l).clock = s.clock ∧
    (s.gapExpires l).resetTime = s.resetTime ∧ (s.gapExpires l).pins = s.pins ∧ (s.gapExpires l).mfe = s.mfe ∧
    (s.gapExpires l).dry = s.dry ∧ (s.gapExpires l).dmc = s.dmc ∧ (s.gapExpires l).tgm = s.tgm ∧
    (s.gapExpires l).hsc = s.hsc ∧ (s.gapExpires l).csq = s.csq ∧ (s.gapExpires l).cap = s.cap ∧
    (s.gapExpires l).sst = s.sst := by
  unfold State.gapExpires
  try dsimp only
  simp

@[simp] theorem State.beginBlock_frame (s : State) (l : Link) (p : Posted) (f : Filling) :
    (s.beginBlock l p f).pending = s.pending ∧ (s.beginBlock l p f).boot = s.boot ∧
    (s.beginBlock l p f).clock = s.clock ∧ (s.beginBlock l p f).resetTime = s.resetTime ∧
    (s.beginBlock l p f).pins = s.pins ∧ (s.beginBlock l p f).mfe = s.mfe ∧ (s.beginBlock l p f).dry = s.dry ∧
    (s.beginBlock l p f).dmc = s.dmc ∧ (s.beginBlock l p f).tgm = s.tgm ∧ (s.beginBlock l p f).hsc = s.hsc ∧
    (s.beginBlock l p f).csq = s.csq ∧ (s.beginBlock l p f).cap = s.cap ∧ (s.beginBlock l p f).sst = s.sst := by
  unfold State.beginBlock
  try dsimp only
  simp

@[simp] theorem State.beginTransmission_frame (s : State) (l : Link) :
    (s.beginTransmission l).pending = s.pending ∧ (s.beginTransmission l).boot = s.boot ∧
    (s.beginTransmission l).clock = s.clock ∧ (s.beginTransmission l).resetTime = s.resetTime ∧
    (s.beginTransmission l).pins = s.pins ∧ (s.beginTransmission l).mfe = s.mfe ∧
    (s.beginTransmission l).dry = s.dry ∧ (s.beginTransmission l).dmc = s.dmc ∧
    (s.beginTransmission l).tgm = s.tgm ∧ (s.beginTransmission l).hsc = s.hsc ∧
    (s.beginTransmission l).csq = s.csq ∧ (s.beginTransmission l).cap = s.cap ∧ (s.beginTransmission l).sst = s.sst := by
  unfold State.beginTransmission
  try dsimp only
  repeat' split
  all_goals simp

@[simp] theorem State.endTransmission_frame (s : State) (l : Link) :
    (s.endTransmission l).pending = s.pending ∧ (s.endTransmission l).boot = s.boot ∧
    (s.endTransmission l).clock = s.clock ∧ (s.endTransmission l).resetTime = s.resetTime ∧
    (s.endTransmission l).pins = s.pins := by
  unfold State.endTransmission
  try dsimp only
  repeat' split
  all_goals simp


end Sys2Proof.Machine
end

