-- ==== Sys2Proof/Laws/State.lean ====
section
/-! SUPPORT. What the updates in place read back as: containers, links, units, stages, channels, elapsed time, and
the frames of a command's meaning. With Laws/Frames.lean no later proof unfolds an update. -/

namespace Sys2Proof.Machine

/-! ### Containers -/

@[simp] theorem Quad.get_set_same {α : Type} (q : Quad α) (i : Fin 4) (x : α) : (q.set i x).get i = x := by
  fin_cases i <;> rfl

theorem Quad.get_set_other {α : Type} (q : Quad α) (i j : Fin 4) (x : α) (h : j ≠ i) :
    (q.set i x).get j = q.get j := by
  fin_cases i <;> fin_cases j <;> first | rfl | exact absurd rfl h

@[simp] theorem Quad.get_map {α β : Type} (f : α → β) (q : Quad α) (i : Fin 4) : (q.map f).get i = f (q.get i) := by
  fin_cases i <;> rfl

@[simp] theorem Triple.get_set_same {α : Type} (t : Triple α) (i : Fin 3) (x : α) : (t.set i x).get i = x := by
  fin_cases i <;> rfl

theorem Triple.get_set_other {α : Type} (t : Triple α) (i j : Fin 3) (x : α) (h : j ≠ i) :
    (t.set i x).get j = t.get j := by
  fin_cases i <;> fin_cases j <;> first | rfl | exact absurd rfl h

@[simp] theorem Triple.get_map {α β : Type} (f : α → β) (t : Triple α) (i : Fin 3) :
    (t.map f).get i = f (t.get i) := by
  fin_cases i <;> rfl

theorem Seven.get_set_same {α : Type} (v : Seven α) (b : Nat) (x : α) (h : b < 7) : (v.set b x).get b = x := by
  interval_cases b <;> rfl

theorem Seven.get_set_other {α : Type} (v : Seven α) (b c : Nat) (x : α) (hb : b < 7) (hc : c < 7) (h : c ≠ b) :
    (v.set b x).get c = v.get c := by
  interval_cases b <;> interval_cases c <;> first | rfl | exact absurd rfl h

/-! ### Links -/

@[simp] theorem State.link_setLink_same (s : State) (l : Link) (x : LinkState) : (s.setLink l x).link l = x := by
  cases l <;> rfl

theorem State.link_setLink_other (s : State) (l m : Link) (x : LinkState) (h : m ≠ l) :
    (s.setLink l x).link m = s.link m := by
  cases l <;> cases m <;> first | rfl | exact absurd rfl h

@[simp] theorem State.link_modLink_same (s : State) (l : Link) (f : LinkState → LinkState) :
    (s.modLink l f).link l = f (s.link l) := State.link_setLink_same s l _

theorem State.link_modLink_other (s : State) (l m : Link) (f : LinkState → LinkState) (h : m ≠ l) :
    (s.modLink l f).link m = s.link m := State.link_setLink_other s l m _ h

@[simp] theorem State.setLink_setLink (s : State) (l : Link) (x y : LinkState) :
    (s.setLink l x).setLink l y = s.setLink l y := by cases l <;> rfl

/-- A raised notice is pending on its link, and only the pending set and the schedule differ (R170). -/
theorem State.link_notify_same (s : State) (l : Link) (n : Notice) : (s.notify l n).link l = (s.link l).raise n :=
  State.link_modLink_same s l _

theorem State.link_notify_other (s : State) (l m : Link) (n : Notice) (h : m ≠ l) :
    (s.notify l n).link m = s.link m := State.link_modLink_other s l m _ h

/-- A reply placed on a link that is not being reset is its waiting reply (R167). -/
theorem State.link_answer_same (s : State) (l : Link) (k : Byte) (st : Status) (c : List Byte)
    (h : (s.link l).resetting = false) :
    (s.answer l k st c).link l =
      { s.link l with inProgress := none, reply := some { kind := k + 0x80#8, payload := st.code :: c } } := by
  simp [State.answer, LinkState.placeReply, h]

theorem State.link_answer_other (s : State) (l m : Link) (k : Byte) (st : Status) (c : List Byte) (h : m ≠ l) :
    (s.answer l k st c).link m = s.link m := State.link_modLink_other s l m _ h

/-! ### Capture units, watch units, stages, channels -/

@[simp] theorem State.unit_setUnit_same (s : State) (u : Fin 3) (x : CaptureUnit) : (s.setUnit u x).unit u = x :=
  Triple.get_set_same _ u x

theorem State.unit_setUnit_other (s : State) (u v : Fin 3) (x : CaptureUnit) (h : v ≠ u) :
    (s.setUnit u x).unit v = s.unit v := Triple.get_set_other _ u v x h

@[simp] theorem State.watch_setUnit (s : State) (u : Fin 3) (x : CaptureUnit) (w : Fin 4) :
    (s.setUnit u x).watch w = s.watch w := rfl

@[simp] theorem State.watch_setWatch_same (s : State) (w : Fin 4) (x : WatchUnit) : (s.setWatch w x).watch w = x :=
  Quad.get_set_same _ w x

theorem State.watch_setWatch_other (s : State) (w v : Fin 4) (x : WatchUnit) (h : v ≠ w) :
    (s.setWatch w x).watch v = s.watch v := Quad.get_set_other _ w v x h

@[simp] theorem State.unit_setWatch (s : State) (w : Fin 4) (x : WatchUnit) (u : Fin 3) :
    (s.setWatch w x).unit u = s.unit u := rfl

@[simp] theorem State.stage_setStage_same (s : State) (n : StageNo) (x : Stage) : (s.setStage n x).stage n = x :=
  Quad.get_set_same _ n x

theorem State.stage_setStage_other (s : State) (n m : StageNo) (x : Stage) (h : m ≠ n) :
    (s.setStage n x).stage m = s.stage m := Quad.get_set_other _ n m x h

@[simp] theorem Mfe.channel_setChannel_same (m : Mfe) (c : Channel) (x : ChannelState) :
    (m.setChannel c x).channel c = x := by cases c <;> rfl

theorem Mfe.channel_setChannel_other (m : Mfe) (c d : Channel) (x : ChannelState) (h : d ≠ c) :
    (m.setChannel c x).channel d = m.channel d := by
  cases c <;> cases d <;> first | rfl | exact absurd rfl h

@[simp] theorem ChannelState.freshness_setFreshness_same (c : ChannelState) (l : Link) (f : Freshness) :
    (c.setFreshness l f).freshness l = f := by cases l <;> rfl

theorem ChannelState.freshness_setFreshness_other (c : ChannelState) (l m : Link) (f : Freshness) (h : m ≠ l) :
    (c.setFreshness l f).freshness m = c.freshness m := by
  cases l <;> cases m <;> first | rfl | exact absurd rfl h

/-! ### Elapsed time -/

section Elapse

variable (s : State) (n : Nat)

@[simp] theorem State.elapse_pending : (s.elapse n).pending = s.pending := rfl
@[simp] theorem State.elapse_boot : (s.elapse n).boot = s.boot := rfl
@[simp] theorem State.elapse_clock : (s.elapse n).clock = s.clock + n := rfl
@[simp] theorem State.elapse_resetTime : (s.elapse n).resetTime = s.resetTime := rfl
@[simp] theorem State.elapse_pins : (s.elapse n).pins = s.pins := rfl
@[simp] theorem State.elapse_mfe : (s.elapse n).mfe = s.mfe := rfl
@[simp] theorem State.elapse_dry : (s.elapse n).dry = s.dry := rfl
@[simp] theorem State.elapse_dmc : (s.elapse n).dmc = s.dmc.elapse n := rfl
@[simp] theorem State.elapse_tgm : (s.elapse n).tgm = s.tgm := rfl
@[simp] theorem State.elapse_csq : (s.elapse n).csq = s.csq.elapse n := rfl
@[simp] theorem State.elapse_cap : (s.elapse n).cap = s.cap := rfl
@[simp] theorem State.elapse_sst : (s.elapse n).sst = s.sst := rfl
@[simp] theorem State.elapse_linkA : (s.elapse n).linkA = s.linkA := rfl
@[simp] theorem State.elapse_linkS : (s.elapse n).linkS = s.linkS := rfl
@[simp] theorem State.elapse_link (l : Link) : (s.elapse n).link l = s.link l := by cases l <;> rfl
@[simp] theorem State.elapse_unit (u : Fin 3) : (s.elapse n).unit u = s.unit u := rfl
@[simp] theorem State.elapse_watch (w : Fin 4) : (s.elapse n).watch w = s.watch w := rfl
@[simp] theorem State.elapse_stage (m : StageNo) : (s.elapse n).stage m = (s.stage m).elapse n := Quad.get_map _ _ m
@[simp] theorem State.elapse_word (b i : Nat) : (s.elapse n).word b i = s.word b i := rfl
@[simp] theorem State.elapse_setting (b i : Nat) : (s.elapse n).setting b i = s.setting b i := rfl

/-- Elapsed time moves the counts of the phase and nothing else of the sequencer. -/
@[simp] theorem Csq.elapse_frame (c : Csq) : (c.elapse n).phase = c.phase ∧ (c.elapse n).program = c.program ∧
    (c.elapse n).record = c.record ∧ (c.elapse n).prepTarget = c.prepTarget ∧ (c.elapse n).revSeen = c.revSeen ∧
    (c.elapse n).reasons = c.reasons ∧ (c.elapse n).owner = c.owner ∧
    (c.elapse n).dryingSeconds = c.dryingSeconds ∧ (c.elapse n).holdDue = c.holdDue ∧
    (c.elapse n).supervisionDue = c.supervisionDue ∧ (c.elapse n).silenceDue = c.silenceDue ∧
    (c.elapse n).stageTimers = c.stageTimers ∧ (c.elapse n).fanTimer = c.fanTimer ∧
    (c.elapse n).drumTimer = c.drumTimer ∧ (c.elapse n).pendingTake = c.pendingTake := by
  unfold Csq.elapse
  split <;> simp

@[simp] theorem State.elapse_program : (s.elapse n).program = s.program := by simp [State.program]

/-- Elapsed time changes a stage's remainder alone. -/
@[simp] theorem Stage.elapse_frame (st : Stage) : (st.elapse n).on = st.on ∧ (st.elapse n).switchTime = st.switchTime ∧
    (st.elapse n).offWaived = st.offWaived ∧ (st.elapse n).openMark = st.openMark ∧ (st.elapse n).onTime = st.onTime ∧
    (st.elapse n).test = st.test ∧ (st.elapse n).testDemand = st.testDemand := by
  unfold Stage.elapse
  split <;> simp

end Elapse

/-! ### The frame of a command's meaning -/

theorem State.powered_on (s : State) (f : State → State) (h : s.boot ≠ .off) : s.powered f = f s := by
  simp [State.powered, h]

theorem State.powered_off (s : State) (f : State → State) (h : s.boot = .off) : s.powered f = s := by
  simp [State.powered, h]

@[simp] theorem State.atMoment_none (s : State) (f : State → State) : s.atMoment none f = s := rfl

@[simp] theorem State.atMoment_some (s : State) (n : Nat) (f : State → State) :
    s.atMoment (some n) f = f (s.elapse n) := rfl

/-- Without supply a command changes nothing; with it, it has its effect. -/
theorem State.event_eq (s : State) (f : State → State) :
    s.event f = .next (if s.boot = .off then s else f s) := rfl

/-- A clock-driven command with `n` ms left makes its effect `n` ms on. -/
theorem State.timed_some (s : State) (i : Instr) (f : State → State) (n : Nat) (h : s.boot ≠ .off)
    (hn : s.commandLeft i = some n) : s.timed i f = .next (f (s.elapse n)) := by
  simp [State.timed, State.event, State.powered, h, hn]

/-- A clock-driven command whose timer does not run does nothing. -/
theorem State.timed_none (s : State) (i : Instr) (f : State → State) (hn : s.commandLeft i = none) :
    s.timed i f = .next s := by
  simp [State.timed, State.event, State.powered, hn]

/-! ### Requests (R167) -/

/-- The controller may take a request exactly when nothing of its link stands before it. -/
theorem State.canTake_iff (s : State) (l : Link) :
    s.canTake l = true ↔
      s.boot = .ready ∧ (s.link l).inProgress = none ∧ (s.link l).reply = none ∧ (s.link l).resetting = false := by
  simp [State.canTake, and_assoc]

@[simp] theorem State.link_reportFrame (s : State) (l m : Link) : (s.reportFrame l).link m = s.link m := by
  cases l <;> (unfold State.reportFrame; dsimp only; split <;> rfl)

/-- A request that nothing stands before is served at once. -/
theorem State.arrive_taken (s : State) (l : Link) (r : Request) (h : s.canTake l = true) (hq : (s.link l).queue = []) :
    s.arrive l r = (s.reportFrame l).serve l r := by
  have hc : (s.reportFrame l).canTake l = true := by
    rw [State.canTake_iff] at h ⊢
    simpa using h
  simp [State.arrive, hc, hq]

/-- A request that must wait is queued, or counted when both places are taken. -/
theorem State.arrive_queued (s : State) (l : Link) (r : Request) (h : s.canTake l = false ∨ (s.link l).queue ≠ []) :
    s.arrive l r = (s.reportFrame l).modLink l (·.enqueue r.frame) := by
  have hc : (s.reportFrame l).canTake l = s.canTake l := by
    cases l <;> simp [State.canTake, State.reportFrame] <;> split <;> rfl
  rcases h with h | h
  · simp [State.arrive, hc, h]
  · simp [State.arrive, h]

/-! ### The phase change (R122) -/

/-- After a phase change the sequencer's own fields are those of `Csq.setPhase`. -/
theorem State.changePhase_csq (s : State) (entered : Phase) (cause : Cause) :
    (s.changePhase entered cause).csq = s.csq.setPhase entered := by
  simp [State.changePhase]

@[simp] theorem Csq.setPhase_phase (c : Csq) (p : Phase) : (c.setPhase p).phase = p := rfl

@[simp] theorem Csq.setPhase_record (c : Csq) (p : Phase) : (c.setPhase p).record = c.record := rfl

@[simp] theorem Csq.setPhase_reasons (c : Csq) (p : Phase) : (c.setPhase p).reasons = c.reasons := rfl

end Sys2Proof.Machine
end

