-- ==== Sys2Proof/Laws/Cycle.lean ====
section
/-! SUPPORT. What each phase change of the sequencer leaves in its own fields and at the front end: said once for
each shared operation, so that later proofs cite it and never unfold the change. -/

namespace Sys2Proof.Machine

/-- HOLD's entry (R110). -/
theorem State.enterHold_csq (s : State) (r : HoldReason) :
    (s.enterHold r).csq = (s.csq.forHold r (s.clock + 60000 * s.holdLimit)).setPhase .hold := by
  simp [State.enterHold, State.changePhase_csq]

/-- DONE's entry (R108). -/
theorem State.enterDone_csq (s : State) (c : Cause) : (s.enterDone c).csq = s.csq.clearForDone.setPhase .done := by
  simp [State.enterDone, State.changePhase_csq]

/-- GUARD's entry (R107). -/
theorem State.enterGuard_csq (s : State) (c : Cause) :
    (s.enterGuard c).csq = { s.csq with guardMs := 0 }.setPhase .guard := by
  simp [State.enterGuard, State.changePhase_csq]

/-- The end of DRYING (R105). -/
theorem State.endDrying_csq (s : State) (r : EndReason) :
    (s.endDrying r).csq =
      if s.csq.phase = .drying then
        { s.csq with record := { s.csq.record with endReason := some r } }.setPhase .cooling
      else s.csq := by
  unfold State.endDrying
  split
  · simp [State.changePhase_csq, State.setEnd, State.modRecord]
  · rfl

/-- The end of a cycle for DONE (R112, R115, R126). -/
theorem State.endCycle_csq (s : State) (r : EndReason) :
    (s.endCycle r).csq =
      { s.csq with record := { s.csq.record with endReason := some r } }.clearForDone.setPhase .done := by
  simp [State.endCycle, State.enterDone_csq, State.setEnd, State.modRecord]

/-- Manual control released (R125). -/
theorem State.release_csq (s : State) (c : Cause) :
    (s.release c).csq =
      { s.csq with
        owner := none, silenceDue := none, stageTimers := ⟨none, none, none, none⟩, fanTimer := none
        drumTimer := none, pendingTake := false }.setPhase .idle := by
  unfold State.release State.endService
  dsimp only
  split <;> simp [State.changePhase_csq]

/-- The part's readings stand at a phase change (R1). -/
theorem State.changePhase_channel (s : State) (p : Phase) (c : Cause) (ch : Channel) :
    (s.changePhase p c).mfe.channel ch = s.mfe.channel ch := by
  have h : (s.changePhase p c).mfe = (({ s with csq := s.csq.setPhase p }).followFront p).mfe := by
    simp [State.changePhase, State.followPhase]
    split <;> simp
  rw [h]
  unfold State.followFront
  dsimp only
  split <;> cases ch <;> rfl

end Sys2Proof.Machine
end

