-- ==== Sys2Proof/Laws/Terms.lean ====
section
/-! SUPPORT. The operations of the model in the terms of Safety.lean: what the stage tests do once they are judged, the
record of an event that starts captures, and a settings word brought into its range. -/

namespace Sys2Proof.Machine

/-! ### Stage tests (R98) -/

theorem testPending_eq_false_iff (s : State) : s.testPending = false ↔ ∀ m : StageNo, (s.stage m).test = none := by
  simp [State.testPending, Quad.any, State.stage, Fin.forall_fin_succ, Quad.get, and_assoc]

/-- The conditions of a stage test's output. -/
theorem testMayStart_iff (s : State) (n : StageNo) :
    s.testMayStart n = true ↔
      s.waitsToHeat n ∧ s.hsc.turning = true ∧ s.interlocked = false ∧ (∀ m : StageNo, (s.stage m).test = none)
        ∧ s.stagesOn < s.effectiveCap := by
  have off : s.testMinOffPassed n = true ↔ 1000 * (s.word 3 15).toNat ≤ s.clock - (s.stage n).switchTime :=
    decide_eq_true_iff
  rw [← testPending_eq_false_iff]
  simp [State.testMayStart, State.waitsToHeat, off, and_assoc]

/-- A stage that has come on is under test, so no other comes on after it. -/
theorem testMayStart_stageOn (s : State) (n m : StageNo) : (s.stageOn n).testMayStart m = false := by
  rw [Bool.eq_false_iff, ne_eq, testMayStart_iff]
  rintro ⟨-, -, -, h, -⟩
  have := h n
  fin_cases n <;> simp [State.stageOn, State.stage, Quad.get, Quad.set] at this

theorem foldl_mayStart_stageOn (s : State) (n : StageNo) (l : List StageNo) :
    l.foldl (fun s n => if s.testMayStart n then s.stageOn n else s) (s.stageOn n) = s.stageOn n := by
  induction l with
  | nil => rfl
  | cons m ms ih => simp [testMayStart_stageOn, ih]

theorem foldl_mayStart (s : State) (l : List StageNo) :
    l.foldl (fun s n => if s.testMayStart n then s.stageOn n else s) s =
      match l.find? s.testMayStart with
      | some n => s.stageOn n
      | none => s := by
  induction l with
  | nil => rfl
  | cons m ms ih =>
    by_cases h : s.testMayStart m = true
    · simp [h, foldl_mayStart_stageOn]
    · simp [h, ih]

/-- The first stage of the four that meets `p`. -/
theorem find_four {p : StageNo → Bool} {n : StageNo} (hn : p n = true) (hl : ∀ m : StageNo, m < n → p m = false) :
    four.find? p = some n := by
  fin_cases n <;> simp_all [four, List.find?, Fin.forall_fin_succ]

/-- The stage tests judged: the waiting stage of the lowest number comes on, or nothing changes. -/
theorem State.settleTests_judged (s : State) : s.testsJudged s.settleTests := by
  constructor
  · rintro n ⟨hp, hr⟩ hn hl
    have first : four.find? s.testMayStart = some n := find_four ((testMayStart_iff s n).mpr ⟨hn, hr⟩) fun m hm => by
      rw [Bool.eq_false_iff, ne_eq, testMayStart_iff]
      exact fun h => hl m hm h.1
    have e : s.settleTests = s.stageOn n := by rw [State.settleTests, if_pos hp, foldl_mayStart, first]
    rw [e]; rfl
  · intro h
    unfold State.settleTests
    split
    · next hp =>
      rw [foldl_mayStart, List.find?_eq_none.mpr]
      rintro n -
      rw [testMayStart_iff]
      rintro ⟨hn, hr⟩
      exact h ⟨⟨hp, hr⟩, n, hn⟩
    · rfl

/-! ### The record of an event that starts captures (R137, R142) -/

theorem startIf_eq (x : CaptureUnit) (start : StartCond) : x.startIf (· == start) = x.startsOn start := by
  unfold CaptureUnit.startIf CaptureUnit.startsOn
  cases x.config <;> simp

theorem offeredOn_eq (s : State) (start : StartCond) (r : Record) :
    s.offeredOn start r = (s.startCaptures (· == start)).offerRecord r := by
  simp [State.offeredOn, State.startCaptures, Triple.map, startIf_eq, State.unit, Triple.get]

/-! ### A settings word brought into its range (R155) -/

theorem clampNat_eq {lo hi : Nat} (h : lo ≤ hi) (x : Nat) : clampNat lo hi x = max lo (min hi x) := by
  unfold clampNat; split <;> [skip; split] <;> omega

theorem clampInt_eq {lo hi : Int} (h : lo ≤ hi) (x : Int) : clampInt lo hi x = max lo (min hi x) := by
  unfold clampInt; split <;> [skip; split] <;> omega

theorem fixRange_eq {lo hi : Nat} (h : lo ≤ hi) (w : Word) : fixRange lo hi w = (WordForm.whole lo hi).broughtIn w := by
  have := w.isLt
  simp [fixRange, WordForm.whole, WordForm.broughtIn, packFields, WordField.value, wordOfNat, clampNat_eq h,
    Nat.mod_eq_of_lt this]

theorem fixSigned_eq {lo hi : Int} (h : lo ≤ hi) (w : Word) : fixSigned lo hi w = (WordForm.signed lo hi).broughtIn w := by
  simp [fixSigned, WordForm.broughtIn, wordOfInt, clampInt_eq h]

theorem free_broughtIn (w : Word) : WordForm.free.broughtIn w = w := by
  have := w.isLt
  rw [WordForm.free, ← fixRange_eq (by decide)]
  apply BitVec.eq_of_toNat_eq
  simp only [fixRange, wordOfNat, clampNat_eq (show 0 ≤ 4294967295 by decide), BitVec.toNat_ofNat]
  omega

theorem fields_two (lo1 hi1 lo2 hi2 : Nat) (h1 : lo1 ≤ hi1) (h2 : lo2 ≤ hi2) (w : Word) :
    fixHalves lo1 hi1 lo2 hi2 w = (WordForm.fields [⟨0, 16, lo1, hi1⟩, ⟨16, 16, lo2, hi2⟩]).broughtIn w := by
  have := w.isLt
  simp only [fixHalves, packHalves, WordForm.broughtIn, packFields, WordField.value, clampNat_eq h1, clampNat_eq h2,
    List.map_cons, List.map_nil, List.sum_cons, List.sum_nil]
  congr 1
  rw [show w.toNat / 65536 = w.toNat / 2 ^ 16 % 2 ^ 16 by omega]
  norm_num
  ring

theorem fixNotices_eq (w : Word) : fixNotices w = (WordForm.fields [⟨0, 8, 0, 255⟩]).broughtIn w := by
  apply BitVec.eq_of_toNat_eq
  have e : (w &&& 255#32).toNat = w.toNat % 256 := by
    rw [BitVec.toNat_and]; exact Nat.and_two_pow_sub_one_eq_mod w.toNat 8
  simp only [fixNotices, e, WordForm.broughtIn, packFields, WordField.value, List.map_cons, List.map_nil, List.sum_cons,
    List.sum_nil, BitVec.toNat_ofNat]
  omega

theorem fixPatterns_eq (w : Word) :
    fixPatterns w =
      (WordForm.fields [⟨0, 2, 0, 3⟩, ⟨2, 2, 0, 3⟩, ⟨4, 2, 0, 3⟩, ⟨8, 1, 0, 1⟩, ⟨16, 8, 1, 4⟩]).broughtIn w := by
  simp only [fixPatterns, WordForm.broughtIn, packFields, WordField.value, clampNat_eq (show 1 ≤ 4 by decide),
    List.map_cons, List.map_nil, List.sum_cons, List.sum_nil]
  congr 1
  omega

/-- The three fields of a step word, of the word read as a natural number. -/
theorem step_fields (v : Word) :
    packFields stepFields (fun f => max f.lo (min f.hi (f.value v)))
      = packStep (max 0 (min 2 (v.toNat % 256))) (max 20 (min 55 (v.toNat / 256 % 256)))
          (max 1 (min 255 (v.toNat / 65536 % 256))) := by
  simp only [packFields, stepFields, packStep, WordField.value, List.map_cons, List.map_nil, List.sum_cons,
    List.sum_nil, Nat.reducePow, Nat.div_one]
  congr 1
  omega

theorem fixStep_eq (w : Word) : fixStep w = WordForm.step.broughtIn w := by
  have hw := w.isLt
  simp only [fixStep, WordForm.broughtIn, step_fields, clampNat_eq (show 20 ≤ 55 by decide),
    clampNat_eq (show 1 ≤ 255 by decide)]
  by_cases h : w.toNat % 256 ≤ 2
  · rw [if_pos h, if_neg (by omega), show max 0 (min 2 (w.toNat % 256)) = w.toNat % 256 by omega]
  · have e : (BitVec.ofNat 32 (w.toNat - w.toNat % 256)).toNat = w.toNat - w.toNat % 256 := by
      rw [BitVec.toNat_ofNat]; exact Nat.mod_eq_of_lt (by omega)
    rw [if_neg h, if_pos (by omega), e, show (w.toNat - w.toNat % 256) % 256 = 0 by omega,
      show (w.toNat - w.toNat % 256) / 256 % 256 = w.toNat / 256 % 256 by omega,
      show (w.toNat - w.toNat % 256) / 65536 % 256 = w.toNat / 65536 % 256 by omega]
    rfl

theorem fixWindowLength_eq (w : Word) : fixWindowLength w = WordForm.windowLength.broughtIn w := by
  simp only [fixWindowLength, wordOfNat, WordForm.broughtIn, clampNat_eq (show 2000 ≤ 30000 by decide)]
  congr 1
  omega

theorem fixEnable_eq (w : Word) : fixEnable w = (WordForm.whole 0 1).broughtIn w := by
  rw [← fixRange_eq (by decide)]
  apply BitVec.eq_of_toNat_eq
  simp only [fixEnable, fixRange, wordOfNat, clampNat_eq (show 0 ≤ 1 by decide), BitVec.toNat_ofNat]
  split
  · next h => subst h; rfl
  · next h =>
    have : w.toNat ≠ 0 := fun e => h (BitVec.eq_of_toNat_eq e)
    simp; omega

theorem wordForm_beyond (b i : Nat) (h4 : b ≠ 4) (h5 : b ≠ 5) (h : (wordForms b).length ≤ i) : wordForm b i = .free := by
  simp [wordForm, h4, h5, List.getElem?_eq_none h]

/-- The model's settings words are those of the tables. -/
theorem fixWord_eq (b i : Nat) (w : Word) : fixWord b i w = (wordForm b i).broughtIn w := by
  match b with
  | 0 =>
    by_cases h : i < 6
    · interval_cases i <;> simp [fixWord, fixBlock0, wordForm, wordForms, fixNotices_eq, fixRange_eq, WordForm.notices]
    · rw [wordForm_beyond 0 i (by decide) (by decide) (by simpa [wordForms] using h), free_broughtIn]
      simp [fixWord, fixBlock0, show ¬i < 2 by omega, show ¬i < 4 by omega, show i ≠ 4 by omega, show i ≠ 5 by omega]
  | 1 =>
    by_cases h : i < 27
    · interval_cases i <;> simp [fixWord, fixBlock1, wordForm, wordForms, fixSigned_eq, fixRange_eq]
    · rw [wordForm_beyond 1 i (by decide) (by decide) (by simpa [wordForms] using h), free_broughtIn]
      simp [fixWord, fixBlock1, show ¬i < 17 by omega, show ¬i < 20 by omega, show i ≠ 20 by omega, show i ≠ 21 by omega,
        show i ≠ 22 by omega, show i ≠ 23 by omega, show i ≠ 24 by omega, show i ≠ 25 by omega, show i ≠ 26 by omega]
  | 2 =>
    by_cases h : i < 10
    · interval_cases i <;> simp [fixWord, fixBlock2, wordForm, wordForms, fixWindowLength_eq, fixRange_eq]
    · rw [wordForm_beyond 2 i (by decide) (by decide) (by simpa [wordForms] using h), free_broughtIn]
      simp only [fixWord]
      unfold fixBlock2
      split <;> first | omega | rfl
  | 3 =>
    by_cases h : i < 20
    · interval_cases i <;> simp [fixWord, fixBlock3, wordForm, wordForms, fixEnable_eq, fixRange_eq]
    · rw [wordForm_beyond 3 i (by decide) (by decide) (by simpa [wordForms] using h), free_broughtIn]
      simp [fixWord, fixBlock3, show ¬i < 4 by omega, show ¬i < 8 by omega, show ¬i < 12 by omega, show ¬i < 14 by omega,
        show ¬i < 16 by omega, show i ≠ 16 by omega, show i ≠ 17 by omega, show i ≠ 18 by omega, show i ≠ 19 by omega]
  | 4 =>
    have h : i % 8 < 8 := Nat.mod_lt _ (by decide)
    simp only [fixWord, fixBlock4, wordForm, wordForms, if_pos]
    generalize i % 8 = k at h ⊢
    interval_cases k <;> simp [fixRange_eq, fields_two, fixPatterns_eq, free_broughtIn]
  | 5 =>
    have h : i % 13 < 13 := Nat.mod_lt _ (by decide)
    simp only [fixWord, fixBlock5, wordForm, wordForms]
    generalize i % 13 = k at h ⊢
    interval_cases k <;> simp [fixRange_eq, fixStep_eq]
  | n + 6 =>
    rw [wordForm_beyond (n + 6) i (by omega) (by omega) (by simp [wordForms]), free_broughtIn]
    rfl

end Sys2Proof.Machine
end

