-- ==== Sys2Proof/Tests/Slice0.lean ====
section
/-! SUPPORT. Tests: the WellFormed smoke tests, worked examples of the spec on one step each, and for each statement
with hypotheses a concrete state and operands that meet them. -/

namespace Sys2Proof.Tests

open Sys2Proof Sys2Proof.Machine

/-! ### Ill-formed commands are refused -/

theorem test_wf_partway_too_far : (Instr.powerOn (.partway 64)).wf = false := by decide
theorem test_wf_rst_partway_too_far : (Instr.rst (.partway 64)).wf = false := by decide
theorem test_wf_loss_partway_too_far : (Instr.lossOfSupply (.partway 64)).wf = false := by decide
theorem test_wf_read_empty : (Instr.read .a []).wf = false := by decide
theorem test_wf_read_thirteen : (Instr.read .a (List.replicate 13 0)).wf = false := by decide
theorem test_wf_set_empty : (Instr.set .s 0 0 []).wf = false := by decide
theorem test_wf_set_thirty_three : (Instr.set .s 0 0 (List.replicate 33 0)).wf = false := by decide
theorem test_wf_accepts : (Instr.read .a (List.replicate 12 0)).wf = true ∧ (Instr.powerOn (.partway 63)).wf = true := by
  decide

/-- The opcode table gives no row bits (spec/opcode_table.json). -/
theorem test_no_words : decodeTableWord 8 0 = none ∧ decodeTableWord 32 1 = none := by decide

/-! ### States -/

/-- The state after one command. -/
def after (c : Instr) (s : State) : State :=
  match exec c s with
  | .next t => t
  | .fault _ => s
  | .refused _ => s

/-- The state after one step of the machine. -/
def stepped (s : State) : State :=
  match step s with
  | .next t => t
  | .fault _ => s
  | .refused _ => s

/-- Right after the load and the start-up round, in IDLE. -/
def ready : State := { State.reset with boot := .ready, clock := 20000 }

/-- The part in phase `p` with nothing else changed. -/
def inPhase (p : Phase) : State := { ready with csq := { ready.csq with phase := p } }

/-- The revolution in progress of the worked revolution of 3.6. -/
def openRev : OpenRevolution := { openedAt := 18600, count := 1400, sum := 644000, min := 410, max := 520 }

def pastRev : Revolution := { time := 1300, min := 100, max := 120, mean := 110 }

/-- A BARS window with the figures of the worked moisture index of 2.5, its end at the present moment. -/
def barsWindow : Window :=
  { method := .bars, start := 10000, length := 10000, a := 1200, sumG := 1800000, n := 6, turn := 8000
    dCount := 0, dSum := 0, burst := false }

def step45 : Machine.Step := { action := .runFwd, speed := 45, duration := 60 }

/-- DRYING with the drum turning forward, the air proven and stage 1 on; it meets every invariant. -/
def drying : State :=
  let probe (v : Int) : ChannelState :=
    { ChannelState.resetTemp with value := v, diag := false, freshA := .fresh, freshS := .none }
  { ready with
    pins := { ready.pins with afsClosed := true }
    mfe := { ready.mfe with
      mode := .running, fastDue := some 20001, slowDue := some 20250
      tIn := probe 1500, tExh := probe 552, tHsg := probe 600 }
    dry := { ready.dry with estimate := .tracking, s := 140, streak := 1, window := some barsWindow }
    dmc := { ready.dmc with
      motion := .run .fwd, speed := 45, lastDir := some .fwd, restMinDue := none
      pattern := some [step45, { step45 with action := .rest }]
      current := some { index := some 0, step := step45, waiting := false }, remaining := some 9000, staged := some 1
      revolution := some openRev, history := List.replicate 8 pastRev, lastPulse := some 18600, turning := true
      stallDue := some 26000, stallLength := 6000 }
    hsc := { ready.hsc with
      d := 500, i := 500, nReq := 2, turning := true, fanOn := true, airflow := .proven, periodDue := some 20000
      stages := { ready.hsc.stages with q0 := { Stage.reset 5000 with on := true, onTime := 7 } } }
    csq := { ready.csq with
      phase := .drying, program := some defaultProgram, dryingMs := 700000, dryingSeconds := 699
      supervisionDue := some 25000 } }

/-- SERVICE with the part otherwise at rest. -/
def service : State :=
  { inPhase .service with
    csq := { (inPhase .service).csq with owner := some .s, silenceDue := some 50000, fanTimer := some 21000 }
    mfe := { ready.mfe with mode := .running, fastDue := some 20001, slowDue := some 20250 } }

theorem test_drying_meets_invariants :
    drying.csq.consistent ∧ drying.schedulesRight ∧ drying.heaterInterlocked ∧ drying.withinCap ∧ drying.bootIdle := by
  decide

theorem test_drying_meets_drum_invariants : drying.drumRight ∧ drying.capFlagRight ∧ drying.ownersRight ∧ drying.countsRight := by decide

theorem test_drying_meets_ranges :
    drying.settingsInRange ∧ drying.figuresInRange ∧ drying.diagnosisRight ∧ drying.linksRight ∧ drying.noticesRight := by
  refine ⟨?_, ?_, ?_, ⟨?_, ?_⟩, ?_⟩ <;> decide

/-! ### Worked examples of the spec -/

/-- 1.4: codes 1800, 40 and 4055 give 80.9, 240.7 and -33.1 degrees. -/
theorem test_worked_conversions :
    (after (.slowConversion 1800) drying).mfe.tIn.value = 809 ∧ (after (.slowConversion 40) drying).mfe.tIn.value = 2407
      ∧ (after (.slowConversion 4055) drying).mfe.tIn.value = -331 := by decide

/-- 1.4: code 39 is out of range; the value stands. -/
theorem test_code_out_of_range :
    (after (.slowConversion 39) drying).mfe.tIn.value = 1500 ∧ (after (.slowConversion 39) drying).mfe.tIn.outCount = 1 := by
  decide

/-- Capture unit 0 of the A-link, running on every record kind. -/
def captured (s : State) : State :=
  s.setUnit 0 { CaptureUnit.free with
    owner := some .a, state := .running
    config := some { sources := 255, start := .immediate, stop := .never, decimation := 1, policy := .pause } }

/-- 2.2, worked contact: at sample 8 a record of duration 5, peak 380 and mean 293; the window's n rises by 1. -/
theorem test_worked_contact :
    let c : Contact := { start := 19993, since := 6, lastAbove := 4, below := 2, peak := 380, count := 3, sum := 880 }
    let t := after (.fastConversion 100 0) (captured { drying with dry := { drying.dry with contact := some c } })
    t.linkA.ring.map (·.record) = [.contact 5 380 293] ∧ t.dry.contact = none ∧ t.dry.window.map (·.n) = some 7 := by
  decide

/-- 2.5, worked moisture index: M is 113, S 133, the streak 0. -/
theorem test_worked_moisture :
    (after .windowEnd drying).dry.m = 113 ∧ (after .windowEnd drying).dry.s = 133 ∧ (after .windowEnd drying).dry.streak = 0 := by
  decide

/-- 2.5, worked remaining time: 7 minutes. -/
theorem test_worked_remaining : remainingMinutes 120 10000 266 [300, 296, 290, 287, 281, 276, 271, 266] = 7 := by decide

/-- 3.6, worked revolution: time 1400, minimum 410, maximum 520, mean 460. -/
theorem test_worked_revolution :
    (after .revolutionPulse drying).dmc.history.getLast? = some { time := 1400, min := 410, max := 520, mean := 460 } := by
  decide

/-- 4.2, worked scoring: the closing revolution of ripple 27 makes C 8. -/
theorem test_worked_scoring :
    let r (x : Nat) : Revolution := { time := 1400, min := 400, max := 400 + x, mean := 410 }
    let s := { drying with
      dry := { drying.dry with s := 610, lastN := 2 }, tgm := { drying.tgm with c := 7 }
      dmc := { drying.dmc with
        history := [r 30, r 22, r 25, r 19, r 28, r 24, r 21, r 26], revolution := some { openRev with min := 493 } } }
    (after .revolutionPulse s).tgm.c = 8 := by decide

/-- 5.3, worked demand: D 626, I 506, n_req 3. -/
theorem test_worked_demand :
    let t := after .controlPeriod { drying with mfe := { drying.mfe with tExh := { drying.mfe.tExh with value := 652 } } }
    t.hsc.d = 626 ∧ t.hsc.i = 506 ∧ t.hsc.nReq = 3 := by decide

/-- 5.4, worked inlet cap: 1812 with three stages on makes the cap 2, and the most worn is shed. -/
theorem test_worked_inlet_cap :
    let on (wear : Nat) : Stage := { Stage.reset 5000 with on := true, onTime := wear }
    let t := after .controlPeriod { drying with
      mfe := { drying.mfe with tIn := { drying.mfe.tIn with value := 1812 } }
      hsc := { drying.hsc with stages := ⟨on 30, on 10, on 20, Stage.reset 5000⟩ } }
    t.hsc.inletCap = 2 ∧ t.onSet = ⟨false, true, true, false⟩ := by decide

/-- 7.6, worked watch: 790 then 805 is a hit, which blocks the unit. -/
theorem test_worked_watch :
    let c : WatchSettings :=
      { quantity := .tExh, sense := .risesAbove, limit := 800, hysteresis := 50, mode := .repeating, action := .notice }
    let s := drying.setWatch 0 { WatchUnit.free with owner := some .a, state := .armed, settings := some c, previous := some 790 }
    let t := s.offerTo .tExh 805 0
    (t.watch 0).hits = 1 ∧ (t.watch 0).blocked = true ∧ (t.watch 0).state = .armed ∧ t.linkA.pending = [.watch 0 805] := by
  decide

/-- 9.2, worked load: block 2 with a single error is corrected and counted, block 4 with a double error is INVALID. -/
theorem test_worked_load :
    let stored := (State.reset.sst.stored.set 2 ((State.reset.sst.stored.get 2).set 5 (.single 24))).set 4
      ((State.reset.sst.stored.get 4).set 21 .double)
    let t := after .settingsLoadComplete { State.reset with sst := { State.reset.sst with stored := stored } }
    t.word 2 5 = 24 ∧ t.sst.corrected.get 2 = 1 ∧ t.sst.invalid.get 2 = false ∧ t.sst.invalid.get 4 = true
      ∧ t.sst.corrected.get 4 = 0 := by decide

set_option maxRecDepth 8000 in
/-- 10.2, worked check byte. -/
theorem test_worked_check_byte : ({ kind := 0x10, payload := [] } : Frame).wire = [0xC5, 0x01, 0x10, 0x65] := by decide

set_option maxRecDepth 8000 in
/-- 10.2: the four characters of that frame queue a PAUSE. -/
theorem test_characters_of_pause :
    ((State.reset.hear .s [0xC5, 0x01, 0x10, 0x65]).linkS.queue) = [{ kind := 0x10, payload := [] }] := by decide

/-- 10.6, worked notices: the door's opening in DRYING leaves PHASE and HOLD pending, schedules a NOTICE and raises
ATTN. -/
theorem test_worked_notices :
    let t := after .doorOpens drying
    t.linkA.pending = [.phase .hold (.held .door), .hold (HoldSet.only .door)] ∧ t.linkA.scheduled = true
      ∧ t.attn = true := by decide

/-- 11.6: a REV entry of time 1400, minimum 410, maximum 520 and mean 460 as 16 bytes. -/
theorem test_rev_record_bytes :
    RingEntry.bytes { seq := 5, stamp := 0x102, units := 1, record := .rev 1400 410 520 460 } =
      [5, 0, 0, 0, 2, 1, 0, 0, 0x12, 1, 0x78, 5, 0x9A, 0x81, 0x20, 0xCC] := by decide

/-- 11.6: a PHASE entry from DRYING to HOLD for the door. -/
theorem test_phase_record_bytes :
    (RingEntry.bytes { seq := 1, stamp := 0, units := 4, record := .phase .drying .hold (.held .door) (HoldSet.only .door) }).drop 8
      = [5, 4, 0x62, 19, 2, 0, 0, 0] := by decide

/-- R174: the codes of a CONFIGURE and of a SET in their frames. -/
theorem test_request_frames :
    (Request.configure 2 0x0105 1 2 3 0x0102 9 1).frame = { kind := 0x31, payload := [2, 5, 1, 1, 2, 3, 2, 1, 9, 1] }
      ∧ (Request.set 4 5 [0x01020304]).frame = { kind := 0x20, payload := [4, 5, 4, 3, 2, 1] } := by decide

/-- R103, R115: START belongs to the A-link; ADVANCE outside DRYING is refused. -/
theorem test_refusals :
    (after (.start .s 0) ready).linkS.reply = some { kind := 0x95, payload := [6] }
      ∧ (after (.advance .a) ready).linkA.reply = some { kind := 0x93, payload := [3] } := by decide

/-- R157: a window length of 2,500 ms is truncated to 2,000 and answered ADJUSTED. -/
theorem test_set_adjusted :
    let t := after (.set .a 2 0 [2500]) ready
    t.word 2 0 = 2000 ∧ t.linkA.reply = some { kind := 0xA0, payload := [1, 0xD0, 7, 0, 0] } := by decide

/-- R113: the supervision deadline holds the cycle for the link. -/
theorem test_supervision : (after .supervisionExpiry drying).csq.phase = .hold
    ∧ (after .supervisionExpiry drying).csq.reasons = HoldSet.only .link := by decide

/-- R117: the cutoff loop is a fault in any phase. -/
theorem test_cutoff : (after .cutoffOpens ready).csq.phase = .fault ∧ (after .cutoffOpens service).csq.phase = .fault := by
  decide

/-- Nothing of the clock is due. -/
def quiet : State := { ready with dmc := { ready.dmc with still := true, restMinDue := none } }

/-- The queue: the front command is taken; on an empty queue a due command of the clock is queued, and with none due a
millisecond passes (log entry 1). -/
theorem test_queue :
    (stepped { ready with pending := [.doorOpens, .doorCloses] }).pending = [.doorCloses]
      ∧ ((stepped ready).pending, (stepped ready).clock) = ([.stillTimeout], 20000)
      ∧ ((stepped quiet).pending, (stepped quiet).clock) = ([], 20001) := by decide

/-- R47, log entry 1: with a window and a step ending together, the window's end declares and starts the cooling pattern;
the step that has been set again is not due any more. -/
theorem test_no_stale_step_end :
    let w : Window := { barsWindow with method := .demand, dCount := 5, dSum := 1100 }
    let s := { drying with
      dry := { drying.dry with method := .demand, streak := 2, ds := 200, window := some w }
      dmc := { drying.dmc with remaining := some 0 } }
    s.due .stepEnd = true ∧ (after .windowEnd s).csq.phase = .cooling ∧ (after .windowEnd s).due .stepEnd = false := by
  decide

/-! ### Hypotheses that can be met, one theorem for each statement that has some -/

theorem test_witness_StepTakesFront :
    ({ ready with pending := [.doorOpens, .doorCloses] } : State).pending = .doorOpens :: [.doorCloses]
      ∧ (ready.pending = [] ∧ ready.boot ≠ .off ∧ clockCommands[5]? = some .stillTimeout ∧ ready.due .stillTimeout = true
        ∧ ∀ d ∈ clockCommands.take 5, ready.due d = false)
      ∧ (quiet.pending = [] ∧ quiet.boot ≠ .off ∧ ∀ d ∈ clockCommands, quiet.due d = false)
      ∧ ({ ready with boot := .off } : State).boot = .off := by decide

theorem test_witness_SupplyEventsReset : ready.boot ≠ .off := by decide

/-- A STORE of block 0 in progress for the A-link. -/
def storeJob : StoreJob := { block := 0, source := .link .a, image := defaultBlock 0, wanted := true }

def storing : State := { ready with sst := { ready.sst with engine := some storeJob } }

theorem test_witness_InterruptedStore :
    storing.boot ≠ .off ∧ storing.sst.engine = some storeJob ∧ storeJob.block < 7
      ∧ storeJob.image.length = blockLength 0 ∧ ∀ b : Fin 7, (storing.sst.stored.get b.val).length = blockLength b.val := by
  decide

theorem test_witness_SettingsLoad :
    State.reset.boot = .loading ∧ ∀ b : Fin 7, (State.reset.sst.stored.get b.val).length = blockLength b.val := by decide

/-- The start-up round after `k` conversions, T_in diagnosed or not. -/
def startingUp (k : Nat) (diag : Bool) : State :=
  { State.reset with
    boot := .startup
    mfe := { State.reset.mfe with startupDone := k, tIn := { State.reset.mfe.tIn with diag := diag } } }

theorem test_witness_StartupRound :
    ∀ s ∈ [startingUp 0 true, startingUp 2 true, startingUp 3 false, startingUp 11 false],
      s.boot = .startup ∧ s.mfe.startupDone < 12 ∧ s.csq.phase = .idle ∧ s.mfe.mode = .onRequest ∧ s.mfe.round = none
        ∧ s.unobserved ∧ s.heatOff ∧ (∀ n : StageNo, (s.stage n).test = none)
        ∧ (s.mfe.startupDone < 3 → s.mfe.tIn.diag = true) := by decide

/-- The start-up round after the loop opened in IDLE: a fault, the front end running. -/
def startingUpInFault : State := after .cutoffOpens (startingUp 6 false)

theorem test_witness_StartupRound_fault :
    startingUpInFault.boot = .startup ∧ startingUpInFault.mfe.startupDone = 6 ∧ startingUpInFault.csq.phase = .fault
      ∧ startingUpInFault.mfe.mode = .running ∧ startingUpInFault.noHoldWatch
      ∧ (after (.startupRoundConversion 1800) startingUpInFault).mfe.startupDone = 7 := by decide

/-- A held RESET_LINK is taken at completion, with its reply. -/
theorem test_held_reset_taken :
    let s := (startingUp 12 false).modLink .s fun lk => { lk with resetHeld := true }
    (after .startupRoundComplete s).linkS.reply = some { kind := 0xDF, payload := [0] }
      ∧ (after .startupRoundComplete s).linkS.resetting = true ∧ (after .startupRoundComplete s).linkA = s.linkA := by decide

theorem test_witness_StartupRound_complete :
    (startingUp 12 false).boot = .startup ∧ (startingUp 12 false).mfe.startupDone = 12
      ∧ (startingUp 12 false).pins.cutOpen = false ∧ (startingUp 12 false).csq.phase = .idle := by decide

/-- `s` with a measurement round that has these channels outstanding. -/
def inRound (left : List Channel) (s : State) : State :=
  { s with mfe := { s.mfe with round := some { link := .s, outstanding := left, wanted := true } } }

/-- A fast conversion without a round, with an open one, and with one that it ends. -/
theorem test_witness_FastConversionReadings :
    ∀ s ∈ [drying, inRound [.iHeat, .g] drying, inRound [.g, .iMot] drying],
      s.boot ≠ .off ∧ s.mfe.fastDue = some 20001 ∧ (s.link .s).resetting = false ∧ s.csq.pendingTake = false := by decide

theorem test_fast_ends_round :
    let t := after (.fastConversion 0 0) (inRound [.g, .iMot] drying)
    t.mfe.round = none ∧ t.linkS.reply.isSome = true ∧ t.mfe.g.freshS = .stale ∧ t.mfe.g.freshA = .fresh := by decide

/-- DRYING with an open contact at the last sample before its limit. -/
def shorted : State :=
  let c : Contact := { start := 1, since := 19999, lastAbove := 19999, below := 0, peak := 900, count := 20000, sum := 9000000 }
  { drying with dry := { drying.dry with contact := some c } }

theorem test_witness_ContactJudged :
    (drying.boot ≠ .off ∧ drying.mfe.fastDue = some 20001 ∧ drying.dry.contact = none)
      ∧ shorted.mfe.fastDue = some 20001 ∧ shorted.dry.contact.isSome = true
      ∧ (inRound [.g] shorted).mfe.fastDue = some 20001
      ∧ (after (.fastConversion 4095 0) shorted).dry.barShort = true
      ∧ (after (.fastConversion 0 0) shorted).dry.barShort = true := by decide

/-- IDLE with a measurement round that has these channels outstanding. -/
def measuring (left : List Channel) : State := inRound left ready

/-- COOLING with the drum in a motion state, its revolution open where `turning`. -/
def coolingIn (m : Motion) (turning : Bool) (check : RestCheck) : State :=
  { drying with
    csq := { drying.csq with phase := .cooling }
    dmc := { drying.dmc with
      motion := m, turning := turning, revolution := if turning then some openRev else none, restCheck := check } }

/-- FAULT with a fault record of STALL. -/
def faulted (m : Motion) (check : RestCheck) : State :=
  let s := coolingIn m false check
  let f : FaultRecord := { kind := .stall, phase := .cooling, time := 3, extra := 254 }
  { s with csq := { s.csq with phase := .fault, record := { s.csq.record with fault := some f } } }

/-- The next slow conversion is of `ch`, two out-of-range conversions of each temperature past. -/
def slowOf (ch : Channel) (s : State) : State :=
  { s with mfe := { s.mfe with
      rotation := ch
      tIn := { s.mfe.tIn with outCount := 2 }, tExh := { s.mfe.tExh with outCount := 2 }
      tHsg := { s.mfe.tHsg with outCount := 2 } } }

theorem test_witness_SlowAndRoundConversions :
    (∀ s ∈ [slowOf .tIn drying, slowOf .tExh drying, slowOf .tHsg drying, slowOf .iHeat drying, slowOf .tIn service
          , inRound [.tIn] (slowOf .tIn service)],
        s.boot ≠ .off ∧ s.mfe.slowDue = some 20250 ∧ s.mfe.mode = .running ∧ s.noWatch ∧ s.noHoldWatch)
      ∧ ∀ s ∈ [measuring [.iMot], measuring [.g, .iMot], measuring sixChannels],
          s.boot ≠ .off ∧ s.mfe.round.isSome = true ∧ s.mfe.mode = .onRequest ∧ s.noWatch := by decide

/-- R83, R117: the third out-of-range conversion. -/
theorem test_slow_enters_diag :
    (after (.slowConversion 39) (slowOf .tIn drying)).hsc.inletCap = 2
      ∧ (after (.slowConversion 39) (slowOf .tExh drying)).csq.phase = .fault
      ∧ (after (.slowConversion 4056) (slowOf .tHsg (coolingIn .rest false .none))).csq.phase = .cooling := by decide

/-- R93 at the housing limit 1350, R106 at the cool target 380, and one tenth of a degree on the other side. -/
theorem test_slow_limits :
    (after (.slowConversion 736) (slowOf .tHsg drying)).csq.record.endReason = some .overheat
      ∧ (after (.slowConversion 738) (slowOf .tHsg drying)).hsc.lockout = false
      ∧ (after (.slowConversion 3018) (slowOf .tExh (coolingIn .rest false .none))).csq.phase = .done
      ∧ (after (.slowConversion 3016) (slowOf .tExh (coolingIn .rest false .none))).csq.phase = .cooling := by decide

/-- COOLING or FAULT with every stage off. -/
def cold (s : State) : State := { s with hsc := { s.hsc with stages := ready.hsc.stages } }

/-- R92: a heater current of 43 with every stage off is HEAT_STUCK, one of 42 is not; R119: it replaces a STALL. -/
theorem test_heat_stuck :
    (after (.slowConversion 326) (slowOf .iHeat (cold (coolingIn .rest false .none)))).csq.phase = .fault
      ∧ (after (.slowConversion 325) (slowOf .iHeat (cold (coolingIn .rest false .none)))).csq.phase = .cooling
      ∧ (after (.slowConversion 326) (slowOf .iHeat (cold (faulted .idle .none)))).csq.record.fault
          = some { kind := .heatStuck, phase := .cooling, time := 20250, extra := 255 }
      ∧ (let stuck := cold (coolingIn .idle false .none)
         (after (.slowConversion 326) (slowOf .iHeat { stuck with pins := { stuck.pins with ivf := true } })).csq.record.fault.map (·.extra))
          = some 1 := by decide

theorem test_witness_ReadReply : ready.takesAtOnce .a ∧ ready.takesAtOnce .s := by decide

theorem test_witness_MeasureRequest :
    ready.takesAtOnce .a ∧ drying.takesAtOnce .a ∧ (measuring [.g]).takesAtOnce .a := by decide

/-- A DEMAND window that ends now. -/
def demandWindow : Window := { barsWindow with method := .demand, dCount := 5, dSum := 1100 }

def demandDrying : State := { drying with dry := { drying.dry with method := .demand, window := some demandWindow } }

theorem test_witness_WindowEnd :
    (∀ s ∈ [drying, demandDrying], s.boot ≠ .off ∧ s.csq.phase = .drying
        ∧ s.dry.history.length ≤ 8 ∧ s.noWatch ∧ (after .windowEnd s).csq.phase = .drying)
      ∧ (drying.dry.window = some barsWindow ∧ (drying.moment 20000).windowValid barsWindow
        ∧ ¬(drying.moment 20000).windowValid { barsWindow with turn := 7999 })
      ∧ demandDrying.dry.window = some demandWindow ∧ (demandDrying.moment 20000).windowValid demandWindow
      ∧ ¬(demandDrying.moment 20000).windowValid { demandWindow with dCount := 0 } := by decide

/-- The same with the streak one short of the declaration count 3. -/
def declaring : State := { demandDrying with dry := { demandDrying.dry with streak := 2, ds := 200 } }

/-- `demandDrying` in another state of the estimate. -/
def estimating (e : EstimateState) : State := { demandDrying with dry := { demandDrying.dry with estimate := e } }

theorem test_witness_WindowDeclares :
    (∀ s ∈ [declaring, estimating .settling, estimating .declared],
        s.boot ≠ .off ∧ s.dry.window = some demandWindow ∧ s.csq.phase = .drying ∧ s.noHoldWatch)
      ∧ (after .windowEnd declaring).dry.estimate = .declared ∧ (after .windowEnd demandDrying).dry.estimate = .tracking
      ∧ (after .windowEnd (estimating .settling)).dry.estimate = .tracking
      ∧ (after .windowEnd (estimating .declared)).dry.window = none := by decide

/-- R30: a watch that holds on the contacts of the declaring window does not take the declaration back (log entry 10). -/
theorem test_declared_under_hold_watch :
    let c : WatchSettings :=
      { quantity := .contacts, sense := .risesAbove, limit := 3, hysteresis := 0, mode := .once, action := .hold }
    let t := after .windowEnd (declaring.setWatch 0
      { WatchUnit.free with owner := some .a, state := .armed, settings := some c, previous := some 0 })
    t.dry.estimate = .declared ∧ t.csq.record.endReason = some .dry ∧ t.csq.phase = .hold
      ∧ t.csq.record.held = some .cooling := by decide

theorem test_witness_RevolutionPulse :
    ∀ s ∈ [coolingIn .idle false .none, coolingIn (.starting .fwd) false .none, coolingIn (.run .fwd) true .none
        , coolingIn (.runOpp .rev) false .none, coolingIn (.runOpp .rev) true .none, coolingIn .rest false .awaitingPulse
        , coolingIn .restIn false .reported, faulted .rest .awaitingPulse],
      ∀ p ∈ [Phase.cooling, .drying, .service, .fault],
        let t := { s with csq := { s.csq with phase := p } }
        t.boot ≠ .off ∧ t.noWatch ∧ t.dmc.history.length ≤ 8 ∧ ¬(t.csq.phase = .prep ∧ t.hsc.airflow = .proven) := by decide

/-- DRYING without the tangle monitor, and a burst's first and later pulse. -/
theorem test_pulse_in_drying :
    let still := { drying with csq := { drying.csq with program := some { defaultProgram with tangleEnable := false } } }
    let opposite := fun turning : Bool => { coolingIn (.runOpp .rev) turning .none with csq := drying.csq }
    (after .revolutionPulse still).dmc.history.length = 8
      ∧ (after .revolutionPulse (opposite false)).dmc.turning = true
      ∧ (after .revolutionPulse (opposite true)).dmc.history.getLast? = some { time := 1400, min := 410, max := 520, mean := 460 } := by
  decide

/-- A rest in which the step of the direction `d` waits; the rest minimum ends at 20,000 and the drum stops then. -/
def waitingFor (d : Action) : State :=
  let s := coolingIn .rest false (.timing 33000)
  { s with dmc := { s.dmc with
      current := some { index := some 1, step := { step45 with action := d }, waiting := true }, remaining := none
      offTime := 17000, restMin := 3, restMinDue := some 20000, lastPulse := some 18000 } }

/-- A burst at rest, its interrupted step forward. -/
def burstAt (m : Motion) : State :=
  { drying with
    dmc := { drying.dmc with
      motion := m, turning := false, revolution := none, current := none, remaining := none, restMinDue := some 20000
      offTime := 17000, restMin := 3, lastPulse := some 18000
      interrupted := some { index := 0, step := step45, dir := .fwd, speed := 45, remaining := 9000 } }
    tgm := { drying.tgm with burst := true, capFlag := true, b := 1 } }

theorem test_witness_GateEvents :
    ∀ s ∈ [waitingFor .runRev, waitingFor .runFwd, burstAt .restIn, burstAt .restOut, ready
        , { coolingIn .rest false .none with dmc := (waitingFor .rest).dmc }],
      s.boot ≠ .off ∧ s.dmc.still = false ∧ s.dmc.restMinDue.isSome = true := by decide

/-- What the witnesses show: a reversal starts, a burst goes into RUN_OPP, and it ends. -/
theorem test_gate_opens :
    (after .stillTimeout (waitingFor .runRev)).dmc.motion = .starting .rev
      ∧ (after .stillTimeout (burstAt .restIn)).dmc.motion = .runOpp .rev
      ∧ (after .stillTimeout (burstAt .restOut)).dmc.motion = .starting .fwd
      ∧ (after .restMinimumExpiry (waitingFor .runRev)).dmc.motion = .rest := by decide

theorem test_witness_StepsAndBurstTime :
    drying.boot ≠ .off ∧ (drying.dmc.remaining = some 9000 ∧ drying.dmc.pattern = some [step45, { step45 with action := .rest }]
      ∧ drying.dmc.staged = some 1 ∧ [step45, { step45 with action := .rest }][1]? = some { step45 with action := .rest })
      ∧ ({ burstAt (.runOpp .rev) with dmc := { (burstAt (.runOpp .rev)).dmc with burstDue := some 22000 } } : State).dmc.burstDue
          = some 22000 := by decide

theorem test_witness_DrumFaults :
    drying.boot ≠ .off ∧ drying.dmc.stallDue = some 26000 ∧ (waitingFor .runRev).dmc.restCheck.due = some 33000
      ∧ (waitingFor .runRev).dmc.still = false
      ∧ (faulted (.run .fwd) .none).csq.phase = .fault ∧ (faulted (.run .fwd) .none).csq.record.fault.isSome = true := by decide

theorem test_witness_ReversalNeedsStandstill :
    let s := { waitingFor .runRev with pending := [.stillTimeout] }
    (s.dmc.motion.driven = none ∧ 0 < s.minRest ∧ s.dmc.lastDir = some .fwd)
      ∧ (stepped s).dmc.motion.driven = some .rev := by decide

/-- DRYING with a re-check deadline pending. -/
def rechecking : State :=
  { drying with
    tgm := { drying.tgm with recheck := some 30000, capFlag := true }, hsc := { drying.hsc with tangleCap := 1 } }

theorem test_witness_TangleMonitor :
    (drying.boot ≠ .off ∧ drying.capFlagRight ∧ drying.csq.phase = .drying ∧ drying.program.tangleEnable = true
      ∧ drying.dmc.motion = .run .fwd ∧ drying.dmc.history.length ≤ 8 ∧ drying.noWatch ∧ drying.tgm.burst = false
      ∧ drying.withinCap ∧ drying.dmc.revolution = some openRev ∧ drying.dmc.remaining = some 9000
      ∧ (drying.dmc.current.map (·.index)) = some (some 0))
      ∧ rechecking.capFlagRight ∧ rechecking.tgm.recheck = some 30000 ∧ rechecking.withinCap
      ∧ rechecking.csq.phase ≠ .service := by decide

/-- A tangle suspected at the threshold 20 brings a burst; with the chain at the maximum 3, the escalation. -/
theorem test_tangle_suspected :
    let s := fun b : Nat => { drying with
      dry := { drying.dry with s := 610, lastN := 2 }
      tgm := { drying.tgm with c := 19, b := b, recheck := some 30000, capFlag := true }
      hsc := { drying.hsc with tangleCap := 1 }
      dmc := { drying.dmc with revolution := some { openRev with max := 415 } } }
    let asked := { s 2 with tgm := { (s 2).tgm with outstanding := true } }
    (after .revolutionPulse (s 2)).dmc.motion = .restIn ∧ (after .revolutionPulse (s 3)).csq.phase = .hold
      ∧ (after .revolutionPulse asked).dmc.motion = .run .fwd ∧ (after .revolutionPulse asked).tgm.c = 20 := by decide

/-- DRYING with stage 1 under its open-element test, the current after switching on given, or not yet read. -/
def testedOn (current : Option Int) (s : State) : State :=
  s.setStage 0 { s.stage 0 with test := some { baseline := 0, after := current } }

def tested (current : Int) : State := testedOn (some current) drying

theorem test_witness_ControlPeriodDemand :
    ∀ s ∈ [drying, testedOn none drying, tested 300, { drying with mfe := { drying.mfe with tExh := ChannelState.resetTemp } }],
      s.boot ≠ .off ∧ s.csq.phase = .drying ∧ s.noHoldWatch ∧ s.nAvailable ≠ 0 ∧ s.withinCap ∧ s.testsPass
        ∧ s.hsc.periodDue = some 20000 := by decide

/-- DRYING with one more stage called for than is on. -/
def calling : State := { drying with mfe := { drying.mfe with tExh := { drying.mfe.tExh with value := 652 } } }

/-- DRYING with the most worn three stages on and none called for; the first two have been on for min_on. -/
def dismissing : State :=
  let on (wear since : Nat) : Stage := { Stage.reset since with on := true, onTime := wear }
  { drying with
    mfe := { drying.mfe with tExh := { drying.mfe.tExh with value := 1400 } }
    hsc := { drying.hsc with
      d := 0, i := 0, nReq := 0, stages := ⟨on 30 5000, on 10 5000, on 20 19000, Stage.reset 5000⟩ } }

theorem test_witness_ControlPeriodSwitching :
    (∀ s ∈ [calling, testedOn none calling, tested 300, dismissing],
      s.boot ≠ .off ∧ s.csq.phase = .drying ∧ s.noHoldWatch ∧ s.nAvailable ≠ 0 ∧ s.withinCap ∧ s.testsPass
        ∧ s.hsc.periodDue = some 20000)
      ∧ (after .controlPeriod calling).onSet = ⟨true, true, false, false⟩
      ∧ (after .controlPeriod (testedOn none calling)).onSet = ⟨true, false, false, false⟩
      ∧ (after .controlPeriod dismissing).onSet = ⟨false, false, true, false⟩ := by decide

theorem test_witness_OpenElementJudged :
    ((tested 3).boot ≠ .off ∧ (tested 3).csq.phase = .drying ∧ (∀ m : StageNo, m ≠ 0 → ((tested 3).stage m).test = none)
      ∧ (tested 3).withinCap ∧ (tested 3).noHoldWatch ∧ ((tested 3).stage 0).test = some { baseline := 0, after := some 3 }
      ∧ (tested 3).hsc.periodDue = some 20000)
      ∧ ((after .controlPeriod (tested 300)).stage 0).test = none
      ∧ ((after .controlPeriod (tested 3)).stage 0).openMark = true
      ∧ ((after .controlPeriod (tested 300)).stage 0).openMark = false := by decide

theorem test_witness_SecondsCounted :
    (drying.stage 0).on = true ∧ drying.csq.phase = .drying ∧ drying.noWatch ∧ drying.boot ≠ .off := by decide

/-- DRYING with each of the heat controller's deadlines set. -/
def deadlines : State :=
  { drying with hsc := { drying.hsc with
      pauseDue := some 20500, afterRun := some 21000, proofDue := some 22000, graceDue := some 23000, turning := false
      airflow := .lost } }

theorem test_witness_HeatDeadlines :
    deadlines.boot ≠ .off ∧ deadlines.hsc.pauseDue = some 20500 ∧ deadlines.hsc.afterRun = some 21000
      ∧ deadlines.hsc.proofDue = some 22000 ∧ deadlines.hsc.graceDue = some 23000 ∧ deadlines.hsc.airflow = .lost
      ∧ deadlines.csq.phase ≠ .fault := by decide

theorem test_witness_AirflowSwitch :
    ∀ p ∈ [Phase.prep, .drying, .service], ∀ a ∈ [Airflow.off, .proving, .proven, .lost],
      let s := { drying with csq := { drying.csq with phase := p }, hsc := { drying.hsc with airflow := a } }
      s.boot ≠ .off ∧ ∀ closed : Bool, ¬(s.csq.phase = .prep ∧ s.csq.revSeen = true ∧ closed = true ∧ s.hsc.airflow ≠ .off) := by
  decide

/-- R97: the switch opens in PREP with the first revolution seen. -/
theorem test_switch_opens_in_prep :
    let s := { drying with csq := { drying.csq with phase := .prep, prepTarget := some .drying, revSeen := true } }
    (after (.airflowSwitchChange false) s).hsc.airflow = .lost ∧ (after (.airflowSwitchChange false) s).hsc.graceDue = some 50000
      ∧ (after (.airflowSwitchChange false) s).csq = s.csq := by decide

/-- SERVICE with the drum turning, the air proven and a test demand of stage 2, which went off at 15,000. -/
def testing : State :=
  let s : State :=
    { service with
      mfe := { service.mfe with tExh := drying.mfe.tExh, tHsg := drying.mfe.tHsg }
      dmc := { drying.dmc with pattern := none, staged := none, remaining := none }
      hsc := { service.hsc with turning := true, airflow := .proven, fanOn := true } }
  s.setStage 1 { Stage.reset 15000 with testDemand := true }

/-- R98, R89: the stage comes on at the end of its min_off; with the drum stopped under a running allowance it does not. -/
theorem test_witness_TestStageTimers :
    let t := service.setStage 1 { service.stage 1 with on := true }
    let paused := { testing with hsc := { testing.hsc with turning := false, pauseDue := some 30000 } }
    (testing.boot ≠ .off ∧ testing.csq.phase = .service ∧ (testing.stage 1).testDemand = true ∧ (testing.stage 1).on = false)
      ∧ (t.stage 1).testDemand = false ∧ (t.stage 1).on = true
      ∧ ((after (.testStageMinOffExpiry 1) testing).stage 1).on = true
      ∧ ((after (.testStageMinOffExpiry 1) paused).stage 1).on = false := by decide

/-- R95: a stage that went off 60,000 ms before the end of the fan demand still brings the after-run, and one ms more
does not (log entry 23). -/
theorem test_after_run_boundary :
    let s := fun last : Nat =>
      { drying with clock := 100000, hsc := { drying.hsc with stages := ready.hsc.stages, fanDemand := true, lastOn := some last } }
    ((s 40000).changePhase .done .coolTime).hsc.afterRun = some 160000
      ∧ ((s 39999).changePhase .done .coolTime).hsc.fanOn = false := by decide

/-- PREP before its completion: by the air, or by the drum. -/
def prep (target : Phase) (byAir : Bool) : State :=
  { drying with
    csq := { drying.csq with phase := .prep, prepTarget := some target, revSeen := byAir }
    hsc := { drying.hsc with
      airflow := if byAir then .proving else .proven, stages := ready.hsc.stages, periodDue := none }
    dmc := { drying.dmc with
      motion := if byAir then .run .fwd else .starting .fwd, turning := byAir, revolution := none } }

theorem test_witness_PrepCompletes :
    (∀ p ∈ [Phase.drying, .cooling], (prep p true).boot ≠ .off ∧ (prep p true).csq.phase = .prep
      ∧ (prep p true).mfe.mode = .running ∧ (prep p true).dmc.motion.inBurst = false ∧ (prep p true).csq.prepTarget = some p
      ∧ (prep p true).hsc.airflow = .proving ∧ (prep p true).csq.revSeen = true)
      ∧ (prep .drying false).hsc.airflow = .proven ∧ (prep .drying false).dmc.motion = .starting .fwd
      ∧ (after .revolutionPulse (prep .drying false)).csq.phase = .drying
      ∧ (after (.airflowSwitchChange true)
          { prep .drying true with hsc := { (prep .drying true).hsc with airflow := .lost } }).csq.phase = .drying
      ∧ (after (.airflowSwitchChange true) (prep .cooling true)).csq.phase = .cooling := by decide

theorem test_witness_DoorAndCutoff :
    drying.boot ≠ .off ∧ (faulted (.run .fwd) .none).boot ≠ .off ∧ (prep .drying true).boot ≠ .off := by decide

/-- HOLD with its limit running. -/
def holding : State := { inPhase .hold with csq := { (inPhase .hold).csq with holdDue := some 90000 } }

theorem test_witness_PhaseLimits :
    drying.csq.phase = .drying ∧ (inPhase .cooling).csq.phase = .cooling ∧ (inPhase .guard).csq.phase = .guard
      ∧ holding.csq.holdDue = some 90000 ∧ holding.csq.phase = .hold := by decide

theorem test_witness_LinkAndTestTimers :
    drying.csq.supervisionDue = some 25000 ∧ service.csq.silenceDue = some 50000 ∧ service.csq.phase = .service
      ∧ service.csq.timer .fan = some 21000 ∧ service.boot ≠ .off := by decide

/-- IDLE with the exhaust and housing readings in order. -/
def startable : State := { ready with mfe := { ready.mfe with tExh := drying.mfe.tExh, tHsg := drying.mfe.tHsg } }

theorem test_witness_StartRequest :
    startable.takesAtOnce .a ∧ (after (.start .a 7) startable).csq.phase = .prep
      ∧ (after (.start .a 8) startable).csq.phase = .idle ∧ (after (.start .a 0) ready).csq.phase = .fault := by decide

/-- R117, R119: an open loop at entry into PREP counts the diagnosed sensors and the inverter fault line as additional. -/
theorem test_start_faults :
    let s := fun cut : Bool => { ready with pins := { ready.pins with cutOpen := cut, ivf := true } }
    let fault := fun t : State => t.csq.record.fault.map fun f => (f.kind, f.phase, f.extra)
    fault (after (.start .a 7) (s true)) = some (.cutoffOpen, .prep, 2) ∧ fault (after (.start .a 7) (s false)) = some (.sensor, .prep, 1)
      ∧ (after (.start .a 7) (s true)).linkS.pending = [.phase .fault .fault, .fault .cutoffOpen .prep 2] := by decide

theorem test_witness_CycleMessages :
    let s := { drying with
      csq := { drying.csq with
        phase := .hold, reasons := HoldSet.only .paused, record := { drying.csq.record with held := some .drying } } }
    s.takesAtOnce .a ∧ s.takesAtOnce .s ∧ s.csq.record.held = some .drying ∧ (after (.resume .s) s).csq.phase = .prep
      ∧ ready.takesAtOnce .s ∧ (after (.resume .s) ready).linkS.reply = some { kind := 0x91, payload := [3] } := by
  decide

theorem test_witness_ServiceControl :
    ready.takesAtOnce .s ∧ service.takesAtOnce .s ∧ (after (.takeControl .s) ready).csq.phase = .service
      ∧ (after (.releaseControl .s) service).csq.phase = .idle := by decide

/-- R98: with the drum turning a stage past min_off comes on at the TEST itself; R58: a drum test that leaves IDLE under
the active inverter fault line is the fault DRIVE. -/
theorem test_witness_TestRequest :
    let turning := testing.setStage 1 { Stage.reset 5000 with on := false }
    let faulty := { service with pins := { service.pins with ivf := true } }
    (service.takesAtOnce .s ∧ turning.takesAtOnce .s ∧ faulty.takesAtOnce .s)
      ∧ ((after (.test .s 2 1 0) turning).stage 1).on = true ∧ (after (.test .s 6 1 40) faulty).csq.phase = .fault := by
  decide

/-- A WAITING block of size 2 on the A-link, whose unit 0 runs. -/
def awaiting (s : State) : State :=
  (captured s).modLink .a fun lk => { lk with posted := [{ tag := 3, size := 2, filled := none }] }

theorem test_awaiting_right : ((awaiting ready).link .a).right := by
  refine ⟨?_, ?_, ?_, ?_, ?_, ?_, ?_⟩ <;> decide

/-- The waiting block as it stands after the END filling. -/
def endFilled : List Posted := [{ tag := 3, size := 2, filled := some { entries := [], ended := true, flushed := false } }]

theorem test_witness_ClaimAndRelease :
    (captured ready).takesAtOnce .a ∧ (awaiting ready).takesAtOnce .a
      ∧ (after (.claimCapture .a) (captured ready)).linkA.reply = some { kind := 0xB0, payload := [0, 1] }
      ∧ (after (.releaseCapture .a 0) (awaiting ready)).linkA.posted = endFilled := by decide

/-- CONFIGURE with unit 0 claimed, and with it running: the first units that are none, both ends of the sources, the
decimation and the count; and BUSY before the arguments (log entry 36). -/
theorem test_witness_ConfigureRequest :
    let claimed := ready.setUnit 0 { CaptureUnit.free with owner := some .a, state := .claimed }
    let reply := fun (s : State) (b : Byte) (sources ea : Half) (dec : Byte) =>
      (after (.configure .a b sources 0 0 1 ea dec 0) s).linkA.reply.map fun f => f.payload.take 1
    (claimed.takesAtOnce .a ∧ (captured ready).takesAtOnce .a)
      ∧ reply claimed 2 1 1 1 = some [6] ∧ reply claimed 3 1 1 1 = some [4]
      ∧ reply claimed 0 0 1 1 = some [4] ∧ reply claimed 0 255 1 1 = some [0] ∧ reply claimed 0 256 1 1 = some [4]
      ∧ reply claimed 0 1 0 1 = some [1] ∧ reply claimed 0 1 1 0 = some [1] ∧ reply claimed 0 1 1 64 = some [0]
      ∧ reply claimed 0 1 1 65 = some [1] ∧ reply (captured ready) 0 0 1 1 = some [2] := by decide

theorem test_witness_ArmAndStop :
    (captured ready).takesAtOnce .a ∧ (awaiting ready).takesAtOnce .a
      ∧ (after (.stopCapture .a 0) (awaiting ready)).linkA.posted = endFilled := by decide

theorem test_witness_SetWatchRequest : ready.takesAtOnce .s := by decide

theorem test_witness_RecordTaken : (awaiting drying).linkA.right ∧ (awaiting drying).linkS.right := by
  refine ⟨⟨?_, ?_, ?_, ?_, ?_, ?_, ?_⟩, ?_, ?_, ?_, ?_, ?_, ?_, ?_⟩ <;> decide

/-- A record taken with one entry before it fills the waiting block of size 2; one that reaches COUNT ends the unit with its
notice, and the block is filled with END. -/
theorem test_record_fills :
    let r : Record := .rev 1300 100 120 110
    let entry (n : Word) : RingEntry := { seq := n, stamp := 0, units := 1, record := r }
    let one := (awaiting drying).modLink .a fun lk => { lk with seq := 1, ring := [entry 1] }
    let counted := (awaiting drying).setUnit 0 { (awaiting drying).unit 0 with
      config := some { sources := 255, start := .immediate, stop := .count 1, decimation := 1, policy := .pause } }
    (one.offerRecord r).linkA.ring = []
      ∧ (one.offerRecord r).linkA.posted.map (fun p => p.filled.map fun f => (f.entries.map (·.seq), f.ended)) = [some ([1, 2], false)]
      ∧ ((counted.offerRecord r).unit 0).state = .ended
      ∧ (counted.offerRecord r).linkA.pending = [.capture 0 .count 1 0]
      ∧ (counted.offerRecord r).linkA.posted.map (fun p => p.filled.map fun f => (f.entries.map (·.seq), f.ended)) = [some ([1], true)] := by
  decide

/-- Watch unit 0 of the A-link, armed on T_exh with the action HOLD. -/
def watching : State :=
  let c : WatchSettings :=
    { quantity := .tExh, sense := .risesAbove, limit := 800, hysteresis := 50, mode := .once, action := .hold }
  drying.setWatch 0 { WatchUnit.free with owner := some .a, state := .armed, settings := some c, previous := some 800 }

/-- The same watch in another phase. -/
def watchingIn (p : Phase) : State :=
  { watching with csq := { watching.csq with phase := p, prepTarget := if p = .prep then some .cooling else none } }

theorem test_witness_WatchJudged :
    (∀ p ∈ [Phase.prep, .drying, .cooling, .guard, .hold, .idle],
        ((watchingIn p).watch 0).state = .armed ∧ ((watchingIn p).watch 0).settings.isSome = true)
      ∧ (watching.offerTo .tExh 801 0).csq.phase = .hold ∧ (watching.offerTo .tExh 800 0).csq.phase = .drying
      ∧ ((watchingIn .prep).offerTo .tExh 801 0).csq.record.held = some .cooling
      ∧ ((watchingIn .guard).offerTo .tExh 801 0).csq.phase = .done
      ∧ ((watchingIn .hold).offerTo .tExh 801 0).csq = (watchingIn .hold).csq := by decide

/-- The commands that offer values, each with what it asks for; a hit of 1500 over 1400 on T_in. -/
theorem test_witness_ValuesOffered :
    let t (q : Quantity) (limit before : Int) (s : State) : State :=
      let c : WatchSettings :=
        { quantity := q, sense := .risesAbove, limit := limit, hysteresis := 0, mode := .once, action := .notice }
      s.setWatch 0 { WatchUnit.free with owner := some .a, state := .armed, settings := some c, previous := some before }
    (drying.boot ≠ .off ∧ drying.mfe.slowDue.isSome = true ∧ drying.dry.window = some barsWindow
        ∧ drying.dmc.revolution = some openRev ∧ drying.dmc.motion = .run .fwd ∧ drying.hsc.periodDue.isSome = true
        ∧ drying.csq.phase = .drying)
      ∧ ((inRound [.tExh] startable).mfe.round.isSome = true ∧ (inRound [.tExh] startable).mfe.mode = .onRequest)
      ∧ ((after (.slowConversion 1800) (t .tIn 808 808 drying)).watch 0).state = .hit
      ∧ ((after (.slowConversion 1800) (t .tIn 809 809 drying)).watch 0).state = .armed
      ∧ ((after (.roundConversion 1800) (t .tExh 808 808 (inRound [.tExh] startable))).watch 0).state = .hit
      ∧ ((after .windowEnd (t .s 132 132 drying)).watch 0).state = .hit
      ∧ ((after .revolutionPulse (t .ripple 109 109 drying)).watch 0).state = .hit
      ∧ ((after .controlPeriod (t .d 0 0 drying)).watch 0).state = .hit
      ∧ ((after .dryingElapsedSecond (t .dryingSeconds 699 699 drying)).watch 0).state = .hit := by decide

/-- A WAITING block of size 15 on the A-link. -/
def posted : State := ready.modLink .a fun lk => { lk with posted := [{ tag := 3, size := 15, filled := none }] }

theorem test_witness_BlockRequests :
    posted.takesAtOnce .a ∧ (posted.link .a).posted.length = 1 ∧ (after (.post .a 3 15) posted).linkA.posted.length = 1 := by
  decide

/-- R150: FLUSH of the second of two WAITING blocks fills both, the first up to its size. -/
theorem test_flush_two :
    let entry (n : Word) : RingEntry := { seq := n, stamp := 0, units := 1, record := .rev 1300 100 120 110 }
    let s := (captured ready).modLink .a fun lk =>
      { lk with ring := [entry 1, entry 2], posted := [{ tag := 1, size := 3, filled := none }, { tag := 2, size := 1, filled := none }] }
    (after (.flush .a 2) s).linkA.posted.map (fun p => p.filled.map fun f => (f.entries.map (·.seq), f.ended, f.flushed))
      = [some ([1, 2], false, true), some ([], false, true)] := by decide

theorem test_witness_BlockRequests_right : (posted.link .a).right := by
  refine ⟨?_, ?_, ?_, ?_, ?_, ?_, ?_⟩ <;> decide

theorem test_witness_SetAndGet :
    ready.takesAtOnce .a ∧ ready.withinCap ∧ ∀ b : Fin 7, (ready.workingCopy b.val).length = blockLength b.val := by decide

/-- R76: in SERVICE a SET that clears the enable of stage 2 switches it off. R77: a SET of block 6 keeps the remainder. -/
theorem test_set_at_stages :
    let on := service.setStage 1 { service.stage 1 with on := true, onTime := 9, rem := 300 }
    (on.takesAtOnce .s ∧ on.withinCap) ∧ ((after (.set .s 3 1 [0]) on).stage 1).on = false
      ∧ ((after (.set .s 6 1 [50]) on).stage 1).onTime = 50 ∧ ((after (.set .s 6 1 [50]) on).stage 1).rem = 300 := by decide

theorem test_witness_StoreAndCompletion :
    ready.takesAtOnce .a ∧ storing.boot ≠ .off ∧ storing.sst.engine = some storeJob ∧ storeJob.block < 7 := by decide

theorem test_witness_AssemblerAndGap :
    let s := ready.modLink .a fun lk => { lk with assembler := .check 1 [0x10] false, gapDue := some 20005 }
    s.boot ≠ .off ∧ (s.link .a).gapDue = some 20005 := by decide

set_option maxRecDepth 4000 in
theorem test_witness_CharactersMakeFrame :
    ready.boot ≠ .off ∧ (ready.link .s).assembler = .hunt
      ∧ ({ kind := 0x20, payload := List.replicate 249 0 } : Frame).payload.length ≤ 249 := by decide

/-- A queued frame of the A-link. -/
def queued (f : Frame) : State := ready.modLink .a fun lk => { lk with queue := [f] }

theorem test_witness_RequestsReachOwners :
    requestOf (.identify .a) = some (.a, .identify)
      ∧ ∀ f ∈ [(Request.start 0).frame, { kind := 0x15, payload := [] }, { kind := 0x60, payload := [] }],
          (queued f).boot ≠ .off ∧ ((queued f).link .a).queue.head? = some f ∧ (queued f).canTake .a = true := by decide

/-- A link whose transmission ends, RESET_LINK's reply or another. -/
def sent (s : State) (l : Link) (reset : Bool) : State :=
  s.modLink l fun lk => { lk with sending := some { bytes := [], reset := reset }, resetting := reset }

theorem test_witness_ResetLinkEffects :
    (((sent drying .a true).link .a).sending = some { bytes := [], reset := true })
      ∧ ((sent drying .a false).link .a).sending = some { bytes := [], reset := false }
      ∧ (after (.transmitComplete .a) (sent drying .a true)).csq.phase = .cooling
      ∧ (after (.transmitComplete .s) (sent service .s true)).csq.phase = .idle
      ∧ (after (.transmitComplete .a) (sent (inPhase .hold) .a true)).csq.phase = .done := by decide

/-- A FILLED block of the A-link before a WAITING one. -/
def filled : State :=
  ready.modLink .a fun lk => { lk with posted :=
    [ { tag := 1, size := 2, filled := some { entries := [], ended := true, flushed := false } }
    , { tag := 2, size := 3, filled := none } ] }

theorem test_witness_TransmitBegin : filled.boot ≠ .off ∧ (filled.link .a).sending = none ∧ (filled.link .a).reply = none
    ∧ (after (.transmitBegin .a) filled).linkA.sending.isSome = true := by decide

theorem test_witness_TransmitBegin_right : (filled.link .a).right := by
  refine ⟨?_, ?_, ?_, ?_, ?_, ?_, ?_⟩ <;> decide

theorem test_witness_NoticesAndPeriod :
    let s := ready.modLink .a fun lk => { lk with pending := [.dry 1 2, .tangle 3], periodicDue := some 21000, period := 1 }
    s.boot ≠ .off ∧ (s.link .a).pending.Pairwise (fun a b => a.code < b.code) ∧ s.takesAtOnce .a
      ∧ (s.link .a).periodicDue = some 21000 := by decide

theorem test_witness_StatisticsAndStatus : ready.takesAtOnce .a ∧ service.takesAtOnce .s := by decide

theorem test_witness_RequestFrameRoundTrip :
    (Request.read [0]).admitted = true ∧ (Request.read (List.replicate 12 0)).admitted = true
      ∧ (Request.set 0 0 [0]).admitted = true ∧ (Request.set 0 0 (List.replicate 32 0)).admitted = true
      ∧ Request.identify.admitted = true := by decide

/-- The invariants' hypotheses are met by `drying` (test_drying_meets_…); its step is this. -/
theorem test_witness_invariants :
    (stepped { drying with pending := [.doorOpens] }).csq.phase = .hold := by decide

end Sys2Proof.Tests
end

-- ==== Proofs: the measurement front end ====
/-! PROOFS. Supply events and reset values, the measurement front end (chapter 1) and its requests, and what a
conversion brings about at the heat stage controller, the drum and the sequencer. -/

namespace Sys2Proof.Machine

/-! ### The frame of a command's meaning -/

theorem State.event_on (s : State) (f : State → State) (h : s.boot ≠ .off) : s.event f = .next (f s) :=
  congrArg Host.Outcome.next (s.powered_on f h)

theorem State.event_off (s : State) (f : State → State) (h : s.boot = .off) : s.event f = .next s :=
  congrArg Host.Outcome.next (s.powered_off f h)

/-- Two states with the same blocks are the same. -/
theorem State.ext_blocks {s t : State} (pending : s.pending = t.pending) (boot : s.boot = t.boot)
    (clock : s.clock = t.clock) (resetTime : s.resetTime = t.resetTime) (pins : s.pins = t.pins) (mfe : s.mfe = t.mfe)
    (dry : s.dry = t.dry) (dmc : s.dmc = t.dmc) (tgm : s.tgm = t.tgm) (hsc : s.hsc = t.hsc) (csq : s.csq = t.csq)
    (cap : s.cap = t.cap) (sst : s.sst = t.sst) (linkA : s.linkA = t.linkA) (linkS : s.linkS = t.linkS) : s = t := by
  cases s; cases t; simp_all

theorem State.link_congr {s t : State} (ha : t.linkA = s.linkA) (hs : t.linkS = s.linkS) (l : Link) :
    t.link l = s.link l := by
  cases l
  · exact ha
  · exact hs

/-! ### Supply events -/

theorem State.resetWith_holdsResetValues (pending : List Instr) (boot : Boot) (clock : Nat) (pins : Pins)
    (stored : Seven (List StoredWord)) : (State.resetWith pending boot clock pins stored).holdsResetValues := by
  refine ⟨⟨rfl, rfl, rfl, rfl, rfl, rfl, rfl, ?_⟩, rfl, rfl, rfl, rfl, rfl, ?_, ?_, ⟨rfl, rfl, rfl, rfl, ?_⟩, ?_⟩
  · intro c _; cases c <;> rfl
  · intro u; fin_cases u <;> rfl
  · intro w; fin_cases w <;> rfl
  · intro b; fin_cases b <;> rfl
  · intro l; cases l <;> rfl

theorem Sst.stopped_idle (t : Sst) (p : StopPoint) (h : t.engine = none) : t.stopped p = t.stored := by
  simp [Sst.stopped, h]

/-- Settles O3: each of the three commands is `State.resetWith`, whose every block is at its reset values. -/
theorem supplyEventsReset : Obligations.SupplyEventsReset := by
  intro stop s
  have words := s.sst.stopped_idle stop
  refine ⟨⟨_, rfl, rfl, rfl, rfl, rfl, rfl, State.resetWith_holdsResetValues .., words⟩, fun h => ?_, fun h => ?_, fun h => ?_⟩
  · exact ⟨_, s.event_on _ h, rfl, rfl, rfl, rfl, rfl, State.resetWith_holdsResetValues .., words⟩
  · exact ⟨_, s.event_on _ h, rfl, rfl, rfl, rfl, rfl, State.resetWith_holdsResetValues .., words⟩
  · exact ⟨s.event_off _ h, s.event_off _ h⟩

/-- The defaults of 9.1 lie in their ranges, so a part that holds them before the load does (log entry 7). -/
theorem State.reset_settingsInRange : State.reset.settingsInRange := by
  refine ⟨fun b => ?_, by decide, by decide⟩
  fin_cases b <;> decide

/-- Settles O60, invariant by invariant: `State.reset` is one closed state. -/
theorem resetMeetsInvariants : Obligations.ResetMeetsInvariants :=
  ⟨by decide, by decide, by decide, by decide, by decide, by decide, by decide, State.reset_settingsInRange, by decide,
    by decide, by decide, by decide, by decide, by decide⟩

/-! ### Requests taken at once (R167) -/

@[simp] theorem otherLink_ne (l : Link) : otherLink l ≠ l := by cases l <;> decide

/-- A request's row on a link where it is taken at once is the request served once its frame is reported (R167). -/
theorem State.exec_taken (s : State) (l : Link) (r : Request) (h : s.takesAtOnce l) :
    s.event (fun s => s.arrive l r) = .next ((s.reportFrame l).serve l r) := by
  have ready := ((s.canTake_iff l).mp h.1).1
  rw [s.event_on _ (by simp [ready]), s.arrive_taken l r h.1 h.2]

/-- An answer on a link that is not being reset: the reply, and nothing else of the links (R165, R167). -/
theorem State.answer_reply {s : State} {l : Link} (h : (s.link l).resetting = false) (k : Byte) (st : Status)
    (c : List Byte) : s.onlyReply (s.answer l k st c) l ∧ (s.answer l k st c).replyIs l k st c := by
  have same := s.link_answer_same l k st c h
  exact ⟨⟨by rw [same], State.link_answer_other _ _ _ _ _ _ (otherLink_ne l)⟩, by rw [State.replyIs, same]⟩

/-- An answer to a frame just reported, on a link that is not being reset (R165, R167). -/
theorem State.answered_report {s : State} {l : Link} (h : (s.link l).resetting = false) (k : Byte) (st : Status) :
    s.refused ((s.reportFrame l).answerStatus l k st) l k st := by
  obtain ⟨only, reply⟩ := State.answer_reply (s := s.reportFrame l) (l := l) (by simpa using h) k st []
  rw [State.onlyReply, s.link_reportFrame, s.link_reportFrame] at only
  refine ⟨?_, only, reply⟩
  apply State.ext_blocks <;> simp

/-- Settles O11, by R12's three outcomes in order. -/
theorem measureRequest : Obligations.MeasureRequest := by
  intro l s h
  have refused := State.answered_report ((s.canTake_iff l).mp h.1).2.2.2 0x04
  refine ⟨_, s.exec_taken l _ h, ?_⟩
  have front : (s.reportFrame l).mfe = s.mfe := by simp
  simp only [State.serve, State.measureRequest, front]
  split
  · exact refused .busy
  split
  · exact refused .wrongPhase
  · have link : ∀ m, State.link { s.reportFrame l with mfe := { s.mfe with
        round := some { link := l, outstanding := sixChannels, wanted := true } } } m = s.link m :=
      fun m => (State.link_congr rfl rfl m).trans (s.link_reportFrame l m)
    refine ⟨by simp [sixChannels], ?_, ?_, ?_⟩
    · rw [State.link_modLink_same, link]
    · rw [State.link_modLink_other _ _ _ _ (otherLink_ne l), link]
    · apply State.ext_blocks <;> simp

/-! ### Freshness marks (R10) -/

theorem Freshness.reported_reported (f : Freshness) : f.reported.reported = f.reported := by cases f <;> rfl

@[simp] theorem Mfe.setChannel_frame (m : Mfe) (c : Channel) (x : ChannelState) :
    (m.setChannel c x).mode = m.mode ∧ (m.setChannel c x).rotation = m.rotation ∧
    (m.setChannel c x).lastPositive = m.lastPositive ∧ (m.setChannel c x).round = m.round ∧
    (m.setChannel c x).fastDue = m.fastDue ∧ (m.setChannel c x).slowDue = m.slowDue ∧
    (m.setChannel c x).startupDone = m.startupDone := by
  cases c <;> simp [Mfe.setChannel]

/-- Marks change the channels alone. -/
@[simp] theorem Mfe.mapFreshnessOf_frame (m : Mfe) (l : Link) (f : Freshness → Freshness) (cs : List Channel) :
    (m.mapFreshnessOf l f cs).mode = m.mode ∧ (m.mapFreshnessOf l f cs).rotation = m.rotation ∧
    (m.mapFreshnessOf l f cs).lastPositive = m.lastPositive ∧ (m.mapFreshnessOf l f cs).round = m.round ∧
    (m.mapFreshnessOf l f cs).fastDue = m.fastDue ∧ (m.mapFreshnessOf l f cs).slowDue = m.slowDue ∧
    (m.mapFreshnessOf l f cs).startupDone = m.startupDone := by
  unfold Mfe.mapFreshnessOf
  refine ⟨?_, ?_, ?_, ?_, ?_, ?_, ?_⟩ <;> exact foldl_keep _ _ (fun m c => by simp [Mfe.mapFreshness]) cs m

theorem Mfe.mapFreshnessOf_eq (m : Mfe) (l : Link) (f : Freshness → Freshness) (cs : List Channel) :
    m.mapFreshnessOf l f cs = { m with
      tIn := (m.mapFreshnessOf l f cs).tIn, tExh := (m.mapFreshnessOf l f cs).tExh
      tHsg := (m.mapFreshnessOf l f cs).tHsg, iHeat := (m.mapFreshnessOf l f cs).iHeat
      g := (m.mapFreshnessOf l f cs).g, iMot := (m.mapFreshnessOf l f cs).iMot } := by
  obtain ⟨mode, rotation, lastPositive, round, fastDue, slowDue, startupDone⟩ := m.mapFreshnessOf_frame l f cs
  generalize m.mapFreshnessOf l f cs = x at *
  cases x; simp_all

/-- A mark that settles at once falls on each named channel once, however often it is named. -/
theorem Mfe.channel_mapFreshnessOf {f : Freshness → Freshness} (hf : ∀ x, f (f x) = f x) (m : Mfe) (l : Link)
    (cs : List Channel) (c : Channel) :
    (m.mapFreshnessOf l f cs).channel c =
      if c ∈ cs then (m.channel c).setFreshness l (f ((m.channel c).freshness l)) else m.channel c := by
  have twice (x : ChannelState) (a b : Freshness) : (x.setFreshness l a).setFreshness l b = x.setFreshness l b := by
    cases l <;> rfl
  induction cs generalizing m with
  | nil => simp [Mfe.mapFreshnessOf]
  | cons d ds ih =>
    rw [show m.mapFreshnessOf l f (d :: ds) = (m.mapFreshness l f d).mapFreshnessOf l f ds from rfl, ih]
    unfold Mfe.mapFreshness
    by_cases h : c = d
    · subst h; simp [hf, twice]
    · simp [h, Mfe.channel_setChannel_other]

/-- A report on link `l` (R10). -/
theorem ChannelState.setFreshness_reported (c : ChannelState) (l : Link) :
    c.setFreshness l (c.freshness l).reported =
      if c.freshness l = .none ∨ c.freshness l = .fresh then c.setFreshness l .stale else c := by
  rcases c with ⟨_, _, _, _, _, _, a, s⟩
  cases l
  · cases a <;> rfl
  · cases s <;> rfl

/-! ### READ (R11) -/

/-- The channel of a quantity number: the six values, then the six codes (R11). -/
theorem quantityChannel_eq (q : Byte) :
    quantityChannel q = if q.toNat < 12 then some (sixChannels.getD (q.toNat % 6) .tIn) else none := by
  have read : ∀ n : Nat, n < 12 → (if n < 6 then channelOfCode n else channelOfCode (n - 6))
      = some (sixChannels.getD (n % 6) .tIn) := by decide
  by_cases h : q.toNat < 12
  · rw [if_pos h, ← read _ h, quantityChannel, if_pos h]
  · rw [if_neg h, quantityChannel, if_neg (by omega), if_neg h]

theorem sixChannels_getD_eq_iff (n : Nat) (c : Channel) : sixChannels.getD (n % 6) .tIn = c ↔ n % 6 = c.code := by
  have all : ∀ k : Fin 6, sixChannels.getD k.val .tIn = c ↔ k.val = c.code := by cases c <;> decide
  exact all ⟨n % 6, Nat.mod_lt _ (by decide)⟩

/-- The lists that READ accepts (R11, R174). -/
theorem readRefused_eq_false_iff (qs : List Byte) :
    (!readAdmitted qs || qs.any (fun q => (quantityChannel q).isNone)) = false ↔
      1 ≤ qs.length ∧ qs.length ≤ 12 ∧ ∀ q ∈ qs, q.toNat < 12 := by
  have unknown (q : Byte) : (quantityChannel q).isNone = !decide (q.toNat < 12) := by
    rw [quantityChannel_eq]; split <;> simp [*]
  simp [readAdmitted, unknown, and_assoc]

/-- The channels that READ marks are those of its numbers. -/
theorem mem_quantityChannels {qs : List Byte} (h : ∀ q ∈ qs, q.toNat < 12) (c : Channel) :
    c ∈ qs.filterMap quantityChannel ↔ qs.any (fun q => q.toNat % 6 == c.code) = true := by
  simp only [List.mem_filterMap, List.any_eq_true, beq_iff_eq]
  refine exists_congr fun q => and_congr_right fun hq => ?_
  rw [quantityChannel_eq, if_pos (h q hq), Option.some.injEq, sixChannels_getD_eq_iff]

/-- Settles O10. -/
theorem readReply : Obligations.ReadReply := by
  intro l qs s h
  have resetting := ((s.canTake_iff l).mp h.1).2.2.2
  refine ⟨_, s.exec_taken l _ h, ?_⟩
  have front : (s.reportFrame l).mfe = s.mfe := by simp
  simp only [State.serve, State.readRequest, front]
  split
  · next admitted =>
    rw [(readRefused_eq_false_iff qs).mpr admitted, if_neg Bool.false_ne_true]
    obtain ⟨-, -, small⟩ := admitted
    have link : ∀ m, State.link { s.reportFrame l with
        mfe := s.mfe.mapFreshnessOf l Freshness.reported (qs.filterMap quantityChannel) } m = s.link m :=
      fun m => (State.link_congr rfl rfl m).trans (s.link_reportFrame l m)
    obtain ⟨only, reply⟩ := State.answer_reply (l := l) ((congrArg _ (link l)).trans resetting) 0x03 .ok
      (qs.flatMap (readEntry s.mfe l))
    rw [State.onlyReply, link, link] at only
    have entries : qs.flatMap (readEntry s.mfe l) = qs.flatMap fun q =>
        let c := s.mfe.channel (sixChannels.getD (q.toNat % 6) .tIn)
        [q, (c.freshness l).code] ++ (if q.toNat < 6 then int16 c.value else nat16 c.code.toNat) ++ wordBytes c.time :=
      List.flatMap_congr fun q hq => by rw [readEntry, quantityChannel_eq, if_pos (small q hq)]
    refine ⟨entries ▸ reply, fun c _ => ?_, only, ?_⟩
    · rw [(State.answer_frame ..).2.2.2.2.2.1, Mfe.channel_mapFreshnessOf Freshness.reported_reported]
      simp only [mem_quantityChannels small, ChannelState.setFreshness_reported, ← ite_and, ← and_or_left]
    · apply State.ext_blocks <;> simp
      exact s.mfe.mapFreshnessOf_eq l _ _
  · next bad =>
    rw [if_pos (Bool.eq_true_of_not_eq_false fun h => bad ((readRefused_eq_false_iff qs).mp h))]
    exact State.answered_report resetting 0x03 .badArg
/-! ### One conversion at its channel (R4, R5, R8, R10) -/

theorem mem_sixChannels (c : Channel) : c ∈ sixChannels := by cases c <;> decide

theorem satSucc_eq (top x : Nat) : satSucc top x = min top (x + 1) := by
  unfold satSucc; split <;> omega

theorem codeInRange_iff (code : Code) : codeInRange code = true ↔ 40 ≤ code.toNat ∧ code.toNat ≤ 4055 := by
  simp [codeInRange]

/-- What the readings of a channel agree on. -/
theorem ChannelState.sameReading_iff (c d : ChannelState) : c.sameReading d ↔
    d.value = c.value ∧ d.code = c.code ∧ d.time = c.time ∧ d.diag = c.diag ∧ d.outCount = c.outCount
      ∧ d.goodCount = c.goodCount := by
  cases c; cases d; simp [ChannelState.sameReading]

/-- The rows of R5: a code in range of a channel that stays DIAG, a GOOD one, a code out of range on a DIAG channel, a
SUSPECT one, and the one that takes the channel into DIAG. -/
theorem ChannelState.judge_cases (P : Judged → Prop) (c : ChannelState) (code : Code) (good : Int) (now : Word)
    (stays : (40 ≤ code.toNat ∧ code.toNat ≤ 4055) → c.diag = true → min 3 (c.goodCount + 1) < 3 →
      P ⟨{ c with code := code, time := now, goodCount := min 3 (c.goodCount + 1), outCount := 0, value := 32767 },
        .diag, false⟩)
    (accepted : (40 ≤ code.toNat ∧ code.toNat ≤ 4055) → ¬(c.diag = true ∧ min 3 (c.goodCount + 1) < 3) →
      P ⟨{ c with code := code, time := now, goodCount := min 3 (c.goodCount + 1), outCount := 0, value := good
                  diag := false, freshA := .fresh, freshS := .fresh }, .good, false⟩)
    (silent : ¬(40 ≤ code.toNat ∧ code.toNat ≤ 4055) → c.diag = true →
      P ⟨{ c with code := code, time := now, outCount := min 3 (c.outCount + 1), goodCount := 0, value := 32767 },
        .diag, false⟩)
    (suspect : ¬(40 ≤ code.toNat ∧ code.toNat ≤ 4055) → c.diag = false → min 3 (c.outCount + 1) < 3 →
      P ⟨{ c with code := code, time := now, outCount := min 3 (c.outCount + 1), goodCount := 0 }, .suspect, false⟩)
    (lost : ¬(40 ≤ code.toNat ∧ code.toNat ≤ 4055) → c.diag = false → min 3 (c.outCount + 1) = 3 →
      P ⟨{ c with code := code, time := now, outCount := min 3 (c.outCount + 1), goodCount := 0, value := 32767
                  diag := true, freshA := .diag, freshS := .diag }, .diag, true⟩) :
    P (c.judge code good now) := by
  unfold ChannelState.judge
  simp only [satSucc_eq, codeInRange_iff, diagValue]
  split
  · next inRange =>
    split
    · next h => exact stays inRange h.1 h.2
    · next h => exact accepted inRange h
  · next outside =>
    split
    · next h => exact silent outside h
    · next h =>
      split
      · next few => exact suspect outside (Bool.eq_false_of_not_eq_true h) few
      · next many => exact lost outside (Bool.eq_false_of_not_eq_true h) (by omega)

/-- R5: what a temperature conversion leaves of its channel's reading. -/
theorem ChannelState.judge_judgedTo (c : ChannelState) (code : Code) (good : Int) (now : Word) :
    c.judgedTo (c.judge code good now).channel code good now := by
  apply ChannelState.judge_cases fun j => c.judgedTo j.channel code good now
  · intro inRange diag few
    exact ⟨rfl, rfl, by rw [if_pos inRange]; exact ⟨rfl, rfl, by rw [if_pos ⟨diag, few⟩]; exact ⟨diag, rfl⟩⟩⟩
  · intro inRange awake
    exact ⟨rfl, rfl, by rw [if_pos inRange]; exact ⟨rfl, rfl, by rw [if_neg awake]; exact ⟨rfl, rfl⟩⟩⟩
  · intro outside diag
    exact ⟨rfl, rfl, by rw [if_neg outside]; exact ⟨rfl, rfl, by rw [if_pos (.inl diag)]; exact ⟨diag, rfl⟩⟩⟩
  · intro outside diag few
    have stays : ¬(c.diag = true ∨ min 3 (c.outCount + 1) = 3) := by simp only [diag, Bool.false_eq_true, false_or]; omega
    exact ⟨rfl, rfl, by rw [if_neg outside]; exact ⟨rfl, rfl, by rw [if_neg stays]; exact ⟨diag, rfl⟩⟩⟩
  · intro outside diag many
    exact ⟨rfl, rfl, by rw [if_neg outside]; exact ⟨rfl, rfl, by rw [if_pos (.inr many)]; exact ⟨rfl, rfl⟩⟩⟩

/-- The status of a temperature conversion is that of its channel afterwards. -/
theorem ChannelState.judge_status (c : ChannelState) (code : Code) (good : Int) (now : Word) (ch : Channel)
    (temp : ch = .tIn ∨ ch = .tExh ∨ ch = .tHsg) :
    (c.judge code good now).channel.outcome ch code = (c.judge code good now).status := by
  have outcome (x : ChannelState) : x.outcome ch code =
      if x.diag then .diag else if 40 ≤ code.toNat ∧ code.toNat ≤ 4055 then .good else .suspect := by
    rcases temp with rfl | rfl | rfl <;> rfl
  simp only [outcome]
  apply ChannelState.judge_cases fun j =>
    (if j.channel.diag then TempStatus.diag else if 40 ≤ code.toNat ∧ code.toNat ≤ 4055 then .good else .suspect) = j.status
  · intro inRange diag few; simp [diag]
  · intro inRange diag; simp [inRange]
  · intro outside diag; simp [diag]
  · intro outside diag few; simp [outside, diag]
  · intro outside diag many; simp

theorem ChannelState.judge_entered (c : ChannelState) (code : Code) (good : Int) (now : Word) :
    (c.judge code good now).entered = true ↔ c.diag = false ∧ (c.judge code good now).channel.diag = true := by
  apply ChannelState.judge_cases fun j => j.entered = true ↔ c.diag = false ∧ j.channel.diag = true
  · intro inRange diag few; simp [diag]
  · intro inRange diag; simp
  · intro outside diag; simp [diag]
  · intro outside diag few; simp [diag]
  · intro outside diag many; simp [diag]

/-- A conversion that takes its channel into DIAG is of status DIAG. -/
theorem ChannelState.judge_status_of_entered (c : ChannelState) (code : Code) (good : Int) (now : Word) :
    (c.judge code good now).entered = true → (c.judge code good now).status = .diag := by
  apply ChannelState.judge_cases fun j => j.entered = true → j.status = .diag <;> simp

/-- R10: the freshness that a temperature conversion leaves, before any reply. -/
theorem ChannelState.judge_freshness (c : ChannelState) (code : Code) (good : Int) (now : Word) (l : Link) :
    (c.judge code good now).channel.freshness l =
      if (c.judge code good now).status = .good then .fresh
      else if (c.judge code good now).entered = true then .diag else c.freshness l := by
  apply ChannelState.judge_cases fun j => j.channel.freshness l =
    if j.status = .good then .fresh else if j.entered = true then .diag else c.freshness l
  all_goals intros; cases l <;> rfl

/-! ### A measurement round (R12, R13) -/

/-- The conversions of `chs` at an open round, and its end when none is left (R13). -/
def State.roundMade (s : State) (chs : List Channel) : State := (chs.foldl State.roundDone s).endRound

theorem State.foldl_roundDone (s : State) (chs : List Channel) :
    chs.foldl State.roundDone s = { s with mfe := { s.mfe with
      round := s.mfe.round.map fun r => { r with outstanding := r.outstanding.filter fun c => !chs.contains c } } } := by
  induction chs generalizing s with
  | nil => cases h : s.mfe.round <;> simp [← h]
  | cons c cs ih =>
    rw [List.foldl_cons, ih, State.roundDone]
    cases h : s.mfe.round with
    | none => simp [h]
    | some r => simp [bne, Bool.and_comm, beq_eq_decide]

/-- A round that goes on, or none: only the outstanding channels change. -/
theorem State.roundMade_open (s : State) (chs : List Channel)
    (h : ∀ r ∈ s.mfe.round, (r.outstanding.filter fun c => !chs.contains c) ≠ []) :
    s.roundMade chs = { s with mfe := { s.mfe with
      round := s.mfe.round.map fun r => { r with outstanding := r.outstanding.filter fun c => !chs.contains c } } } := by
  rw [State.roundMade, State.foldl_roundDone, State.endRound]
  cases hr : s.mfe.round with
  | none => rfl
  | some r => exact if_neg (by rw [List.isEmpty_iff]; exact h r hr)

/-- A round that ends for a link that has been reset: no reply (R14). -/
theorem State.roundMade_dropped (s : State) (chs : List Channel) (r : Round) (hr : s.mfe.round = some r)
    (left : (r.outstanding.filter fun c => !chs.contains c) = []) (wanted : r.wanted = false) :
    s.roundMade chs = { s with mfe := { s.mfe with round := none } } := by
  rw [State.roundMade, State.foldl_roundDone, State.endRound, hr]
  dsimp only [Option.map_some]
  rw [left, List.isEmpty_nil, if_pos rfl, if_neg (by rw [wanted]; exact Bool.false_ne_true)]

/-- A round that ends with its reply: the channels are reported on its link (R13). -/
theorem State.roundMade_answered (s : State) (chs : List Channel) (r : Round) (hr : s.mfe.round = some r)
    (left : (r.outstanding.filter fun c => !chs.contains c) = []) (wanted : r.wanted = true) :
    s.roundMade chs = State.answer
      { s with mfe := { s.mfe.mapFreshnessOf r.link Freshness.reported sixChannels with round := none } }
      r.link 0x04 .ok (s.measureContents r.link) := by
  rw [State.roundMade, State.foldl_roundDone, State.endRound, hr]
  dsimp only [Option.map_some]
  rw [left, List.isEmpty_nil, if_pos rfl, if_pos wanted]
  rfl

/-- Conversions at a round touch the front end and the links alone. -/
@[simp] theorem State.roundMade_frame (s : State) (chs : List Channel) :
    (s.roundMade chs).pending = s.pending ∧ (s.roundMade chs).boot = s.boot ∧ (s.roundMade chs).clock = s.clock ∧
    (s.roundMade chs).resetTime = s.resetTime ∧ (s.roundMade chs).pins = s.pins ∧ (s.roundMade chs).dry = s.dry ∧
    (s.roundMade chs).dmc = s.dmc ∧ (s.roundMade chs).tgm = s.tgm ∧ (s.roundMade chs).hsc = s.hsc ∧
    (s.roundMade chs).csq = s.csq ∧ (s.roundMade chs).cap = s.cap ∧ (s.roundMade chs).sst = s.sst := by
  simp [State.roundMade, State.foldl_roundDone]

/-- The cases of a conversion at a round: none ends, one ends unanswered, one ends with its reply. -/
theorem State.roundMade_cases (P : State → Prop) (s : State) (chs : List Channel)
    (runs : (∀ r ∈ s.mfe.round, (r.outstanding.filter fun c => !chs.contains c) ≠ []) →
      P { s with mfe := { s.mfe with
        round := s.mfe.round.map fun r => { r with outstanding := r.outstanding.filter fun c => !chs.contains c } } })
    (dropped : ∀ r, s.mfe.round = some r → (r.outstanding.filter fun c => !chs.contains c) = [] → r.wanted = false →
      P { s with mfe := { s.mfe with round := none } })
    (answered : ∀ r, s.mfe.round = some r → (r.outstanding.filter fun c => !chs.contains c) = [] → r.wanted = true →
      P (State.answer
        { s with mfe := { s.mfe.mapFreshnessOf r.link Freshness.reported sixChannels with round := none } }
        r.link 0x04 .ok (s.measureContents r.link))) :
    P (s.roundMade chs) := by
  by_cases h : ∀ r ∈ s.mfe.round, (r.outstanding.filter fun c => !chs.contains c) ≠ []
  · rw [s.roundMade_open chs h]; exact runs h
  · push Not at h
    obtain ⟨r, hr, left⟩ := h
    cases wanted : r.wanted with
    | false => rw [s.roundMade_dropped chs r hr left wanted]; exact dropped r hr left wanted
    | true => rw [s.roundMade_answered chs r hr left wanted]; exact answered r hr left wanted

/-- The schedule stands at a conversion of a round. -/
@[simp] theorem State.roundMade_schedule (s : State) (chs : List Channel) :
    (s.roundMade chs).mfe.mode = s.mfe.mode ∧ (s.roundMade chs).mfe.rotation = s.mfe.rotation ∧
    (s.roundMade chs).mfe.lastPositive = s.mfe.lastPositive ∧ (s.roundMade chs).mfe.fastDue = s.mfe.fastDue ∧
    (s.roundMade chs).mfe.slowDue = s.mfe.slowDue ∧ (s.roundMade chs).mfe.startupDone = s.mfe.startupDone := by
  apply State.roundMade_cases fun t => t.mfe.mode = s.mfe.mode ∧ t.mfe.rotation = s.mfe.rotation ∧
    t.mfe.lastPositive = s.mfe.lastPositive ∧ t.mfe.fastDue = s.mfe.fastDue ∧ t.mfe.slowDue = s.mfe.slowDue ∧
    t.mfe.startupDone = s.mfe.startupDone
  all_goals simp

theorem State.roundEnds_iff (s : State) (chs : List Channel) (l : Link) :
    s.roundEnds chs l ↔ ∃ r, s.mfe.round = some r ∧ r.link = l ∧ r.wanted = true
      ∧ (r.outstanding.filter fun c => !chs.contains c) = [] := by
  cases h : s.mfe.round with
  | none => simp [State.roundEnds, h]
  | some r => simp [State.roundEnds, h, and_assoc]

/-- The readings stand at a conversion of a round. -/
theorem State.roundMade_reading (s : State) (chs : List Channel) (c : Channel) :
    (s.mfe.channel c).sameReading ((s.roundMade chs).mfe.channel c) := by
  have marked (x : ChannelState) (l : Link) (f : Freshness) : x.sameReading (x.setFreshness l f) := by cases l <;> rfl
  apply State.roundMade_cases fun t => (s.mfe.channel c).sameReading (t.mfe.channel c)
  · intro _; cases c <;> rfl
  · intro _ _ _ _; cases c <;> rfl
  · intro r _ _ _
    have channel : Mfe.channel { s.mfe.mapFreshnessOf r.link Freshness.reported sixChannels with round := none } c
        = (s.mfe.mapFreshnessOf r.link Freshness.reported sixChannels).channel c := by cases c <;> rfl
    rw [(State.answer_frame ..).2.2.2.2.2.1, channel, Mfe.channel_mapFreshnessOf Freshness.reported_reported,
      if_pos (mem_sixChannels c)]
    exact marked ..

/-- R10, R13: the link of a round that ends with its reply has all channels reported. -/
theorem State.roundMade_freshness (s : State) (chs : List Channel) (c : Channel) (l : Link) :
    ((s.roundMade chs).mfe.channel c).freshness l =
      if s.roundEnds chs l then ((s.mfe.channel c).freshness l).reported else (s.mfe.channel c).freshness l := by
  have ends := s.roundEnds_iff chs l
  apply State.roundMade_cases fun t => (t.mfe.channel c).freshness l =
    if s.roundEnds chs l then ((s.mfe.channel c).freshness l).reported else (s.mfe.channel c).freshness l
  · intro runs
    rw [if_neg]
    · cases c <;> rfl
    · rw [ends]
      rintro ⟨r, hr, -, -, left⟩
      exact runs r hr left
  · intro r hr left wanted
    rw [if_neg]
    · cases c <;> rfl
    · rw [ends, hr]
      rintro ⟨_, ⟨⟩, -, wanted', -⟩
      exact absurd wanted' (by simp [wanted])
  · intro r hr left wanted
    have channel : Mfe.channel { s.mfe.mapFreshnessOf r.link Freshness.reported sixChannels with round := none } c
        = (s.mfe.mapFreshnessOf r.link Freshness.reported sixChannels).channel c := by cases c <;> rfl
    rw [(State.answer_frame ..).2.2.2.2.2.1, channel, Mfe.channel_mapFreshnessOf Freshness.reported_reported,
      if_pos (mem_sixChannels c)]
    by_cases h : l = r.link
    · subst h
      rw [if_pos (ends.mpr ⟨r, hr, rfl, wanted, left⟩), ChannelState.freshness_setFreshness_same]
    · rw [if_neg, ChannelState.freshness_setFreshness_other _ _ _ _ h]
      rw [ends, hr]
      rintro ⟨_, ⟨⟩, e, -⟩
      exact h e.symm

theorem State.roundMade_round (s : State) (chs : List Channel) : (s.roundMade chs).mfe.round =
    s.mfe.round.bind fun r =>
      let left := r.outstanding.filter fun c => !chs.contains c
      if left = [] then none else some { r with outstanding := left } := by
  apply State.roundMade_cases fun t => t.mfe.round = s.mfe.round.bind fun r =>
    let left := r.outstanding.filter fun c => !chs.contains c
    if left = [] then none else some { r with outstanding := left }
  · intro runs
    cases hr : s.mfe.round with
    | none => rfl
    | some r => exact (if_neg (runs r hr)).symm
  · intro r hr left _; rw [hr]; exact (if_pos left).symm
  · intro r hr left _; rw [hr, (State.answer_frame ..).2.2.2.2.2.1]; exact (if_pos left).symm

/-- Of the links, a conversion at a round touches the reply and the request in progress alone. -/
theorem State.roundMade_link (s : State) (chs : List Channel) (l : Link) : (s.roundMade chs).link l =
    { s.link l with
      reply := ((s.roundMade chs).link l).reply, inProgress := ((s.roundMade chs).link l).inProgress } := by
  apply State.roundMade_cases fun t => t.link l =
    { s.link l with reply := (t.link l).reply, inProgress := (t.link l).inProgress }
  · intro _; cases l <;> rfl
  · intro _ _ _ _; cases l <;> rfl
  · intro r _ _ _
    generalize hv : ({ s with mfe := _ } : State) = v
    have link : v.link l = s.link l := by subst hv; cases l <;> rfl
    by_cases h : l = r.link
    · subst h
      rw [State.answer, State.link_modLink_same, link, LinkState.placeReply]
      split <;> rfl
    · rw [State.link_answer_other _ _ _ _ _ _ h, link]

/-- The reply of the round that a conversion ends (R13). -/
theorem State.roundMade_reply (s : State) (chs : List Channel) (r : Round) (hr : s.mfe.round = some r)
    (left : (r.outstanding.filter fun c => !chs.contains c) = []) (wanted : r.wanted = true)
    (resetting : (s.link r.link).resetting = false) :
    ((s.roundMade chs).link r.link).inProgress = none
      ∧ (s.roundMade chs).replyIs r.link 0x04 .ok (s.measureContents r.link) := by
  rw [s.roundMade_answered chs r hr left wanted, State.replyIs, State.link_answer_same]
  · exact ⟨rfl, rfl⟩
  · rw [← resetting]; cases r.link <;> rfl

/-! ### The freshness and the round after a conversion, as the statements say it -/

theorem ChannelState.outcome_congr {c d : ChannelState} (h : c.sameReading d) (ch : Channel) (code : Code) :
    d.outcome ch code = c.outcome ch code := by
  have diag := ((c.sameReading_iff d).mp h).2.2.2.1
  cases ch <;> simp [ChannelState.outcome, diag]

theorem State.freshNow_congr {u w t : State} {c : Channel} (h : (w.mfe.channel c).sameReading (t.mfe.channel c))
    (chs : List Channel) (code : Code) (l : Link) : u.freshNow t chs code c l = u.freshNow w chs code c l := by
  have diag := ((ChannelState.sameReading_iff _ _).mp h).2.2.2.1
  simp only [State.freshNow, ChannelState.outcome_congr h, State.entersDiag, diag]

section Made

/- `u` before a conversion of the channels `chs`, `w` with their new readings, `t` after the event. -/
variable {u w t : State} {chs : List Channel} {code : Code} (round : w.mfe.round = u.mfe.round)
  (fresh : ∀ c l, (w.mfe.channel c).freshness l = u.freshNow w chs code c l)
  (channel : ∀ c, t.mfe.channel c = (w.roundMade chs).mfe.channel c)

include channel

theorem State.reading_of_roundMade (c : Channel) : (w.mfe.channel c).sameReading (t.mfe.channel c) := by
  rw [channel]; exact w.roundMade_reading chs c

include round fresh

theorem State.freshened_of_roundMade : u.freshened t chs code := by
  intro c _ l
  have ends : u.roundEnds chs l ↔ w.roundEnds chs l := by rw [State.roundEnds, State.roundEnds, round]
  rw [State.freshNow_congr (State.reading_of_roundMade channel c), channel, w.roundMade_freshness chs c l, fresh]
  simp only [ends]
  split
  · cases u.freshNow w chs code c l <;> rfl
  · rfl

theorem State.roundGoesOn_of_roundMade (roundAfter : t.mfe.round = (w.roundMade chs).mfe.round)
    (link : ∀ l, w.link l = u.link l)
    (talk : ∀ l, (u.csq.pendingTake = true → l = .a) → (t.link l).reply = ((w.roundMade chs).link l).reply
      ∧ (t.link l).inProgress = ((w.roundMade chs).link l).inProgress) : u.roundGoesOn t chs code := by
  rw [w.roundMade_round chs, round] at roundAfter
  refine ⟨fun none => by rw [roundAfter, none]; rfl, fun r hr => ?_⟩
  rw [hr] at roundAfter round
  intro left
  split
  · next none =>
    refine ⟨roundAfter.trans (if_pos none), fun wanted resetting take => ?_⟩
    obtain ⟨done, reply⟩ := w.roundMade_reply chs r round none wanted (by rw [link]; exact resetting)
    obtain ⟨sameReply, sameProgress⟩ := talk r.link take
    refine ⟨sameProgress.trans done, sameReply.trans (reply.trans ?_)⟩
    have entry (c : Channel) : measureEntry (w.mfe.channel c) r.link =
        int16 (t.mfe.channel c).value ++ nat16 (t.mfe.channel c).code.toNat
          ++ [(u.freshNow t chs code c r.link).code] ++ wordBytes (t.mfe.channel c).time := by
      have reading := State.reading_of_roundMade channel c
      obtain ⟨value, code', time, -⟩ := (ChannelState.sameReading_iff _ _).mp reading
      rw [measureEntry, fresh, value, code', time, State.freshNow_congr reading]
    rw [State.measureContents, List.flatMap_congr fun c _ => entry c]
  · next some => exact roundAfter.trans (if_neg some)

end Made

/-! ### What records and notices leave of the links (R140, R141, R148, R170) -/

/-- A left fold moves along a reflexive and transitive relation when each of its steps does. -/
theorem foldl_rel {α β : Type} {R : α → α → Prop} (refl : ∀ a, R a a) (trans : ∀ a b c, R a b → R b c → R a c)
    {f : α → β → α} (h : ∀ a b, R a (f a b)) (l : List β) (a : α) : R a (l.foldl f a) := by
  induction l generalizing a with
  | nil => exact refl a
  | cons x xs ih => exact trans _ _ _ (h a x) (ih (f a x))

/-- From `x` to `y` a link's controller talks on as it was: only records and notices have come in. -/
def LinkState.sameTalk (x y : LinkState) : Prop :=
  y = { x with seq := y.seq, ring := y.ring, posted := y.posted, pending := y.pending, scheduled := y.scheduled }

/-- With no posted block, records have only been added to the ring. -/
def LinkState.ringGrows (x y : LinkState) : Prop := x.posted = [] → y.posted = [] ∧ x.ring <+: y.ring

theorem LinkState.sameTalk_trans {x y z : LinkState} (h : x.sameTalk y) (h' : y.sameTalk z) : x.sameTalk z := by
  unfold LinkState.sameTalk at *
  rw [h', h]

theorem LinkState.sameTalk_reply {x y : LinkState} (h : x.sameTalk y) :
    y.reply = x.reply ∧ y.inProgress = x.inProgress := by
  rw [h]; exact ⟨rfl, rfl⟩

theorem LinkState.ringGrows_refl (x : LinkState) : x.ringGrows x := fun h => ⟨h, [], List.append_nil _⟩

theorem LinkState.ringGrows_trans {x y z : LinkState} (h : x.ringGrows y) (h' : y.ringGrows z) : x.ringGrows z :=
  fun empty => ⟨(h' (h empty).1).1, (h empty).2.trans (h' (h empty).1).2⟩

theorem LinkState.ringGrows_of_eq {x y : LinkState} (ring : y.ring = x.ring) (posted : y.posted = x.posted) :
    x.ringGrows y := by
  intro h; rw [ring, posted]; exact ⟨h, [], List.append_nil _⟩

/-- Records and notices have come in on a link, and nothing else. -/
def LinkState.recorded (x y : LinkState) : Prop := x.sameTalk y ∧ x.ringGrows y

/-- Records and notices have come in on the links, and nothing else. -/
structure State.recorded (s t : State) : Prop where
  link : ∀ l, (s.link l).recorded (t.link l)

theorem State.recorded_refl (s : State) : s.recorded s :=
  ⟨fun _ => ⟨rfl, LinkState.ringGrows_refl _⟩⟩

theorem State.recorded_trans {s t u : State} (h : s.recorded t) (h' : t.recorded u) : s.recorded u :=
  ⟨fun l => ⟨LinkState.sameTalk_trans (h.link l).1 (h'.link l).1, LinkState.ringGrows_trans (h.link l).2 (h'.link l).2⟩⟩

theorem State.recorded_of_links {s t : State} (ha : t.linkA = s.linkA) (hs : t.linkS = s.linkS) : s.recorded t := by
  constructor; intro l; rw [State.link_congr ha hs]; exact s.recorded_refl.link l

theorem State.recorded_modLink (s : State) (l : Link) (f : LinkState → LinkState) (h : ∀ x : LinkState, x.recorded (f x)) :
    s.recorded (s.modLink l f) := by
  constructor
  intro m
  by_cases e : m = l
  · subst e; rw [State.link_modLink_same]; exact h _
  · rw [State.link_modLink_other _ _ _ _ e]; exact s.recorded_refl.link m

theorem LinkState.raise_frame (lk : LinkState) (n : Notice) :
    lk.raise n = { lk with pending := insertNotice n lk.pending, scheduled := (lk.raise n).scheduled } := by
  unfold LinkState.raise LinkState.reschedule
  split
  · rfl
  · split <;> rfl

theorem State.notify_recorded (s : State) (l : Link) (n : Notice) : s.recorded (s.notify l n) :=
  s.recorded_modLink l _ fun x => by
    rw [x.raise_frame]; exact ⟨rfl, LinkState.ringGrows_of_eq rfl rfl⟩

theorem State.notifyBoth_recorded (s : State) (n : Notice) : s.recorded (s.notifyBoth n) :=
  State.recorded_trans (s.notify_recorded .a n) (State.notify_recorded _ .s n)

theorem LinkState.fillNormal_recorded (x : LinkState) : x.recorded x.fillNormal := by
  refine ⟨rfl, fun empty => ?_⟩
  simp [LinkState.fillNormal, LinkState.withFilling, empty, Machine.fillNormal]

theorem State.deliver_recorded (s : State) (l : Link) : s.recorded (s.deliver l) := by
  have normal := s.recorded_modLink l (·.fillNormal) LinkState.fillNormal_recorded
  unfold State.deliver
  dsimp only
  split
  · refine State.recorded_trans normal (State.recorded_modLink _ l _ fun x => ⟨rfl, fun empty => ?_⟩)
    simp [LinkState.withFilling, empty, fillEnd]
  · exact normal

theorem State.endCapture_recorded (s : State) (u : Fin 3) (why : CaptureEnd) : s.recorded (s.endCapture u why) := by
  have ended := State.recorded_of_links (s := s) (State.setUnit_frame s u
    { s.unit u with state := .ended, endReason := some why }).2.2.2.2.2.2.2.2.2.2.2.2.1
    (State.setUnit_frame s u _).2.2.2.2.2.2.2.2.2.2.2.2.2
  unfold State.endCapture
  dsimp only
  split
  · exact ended
  · exact State.recorded_trans ended (State.recorded_trans (State.notify_recorded ..) (State.deliver_recorded ..))

theorem State.endCaptures_recorded (s : State) (p : Fin 3 → CaptureUnit → Bool) (why : CaptureEnd) :
    s.recorded (s.endCaptures p why) :=
  foldl_rel State.recorded_refl (fun _ _ _ => State.recorded_trans) (fun s u => by
    split
    · exact s.endCapture_recorded u why
    · exact s.recorded_refl) three s

theorem State.modTakers_recorded (s : State) (mine : Triple Bool) (f : CaptureUnit → CaptureUnit) :
    s.recorded (s.modTakers mine f) := State.recorded_of_links (by simp) (by simp)

theorem State.takeFor_recorded (s : State) (l : Link) (mine : Triple Bool) (r : Record) :
    s.recorded (s.takeFor l mine r) := by
  unfold State.takeFor
  dsimp only
  refine State.recorded_trans ?_ (State.endCaptures_recorded ..)
  generalize hv : State.modTakers (s.modLink l _) mine _ = v
  have counted : s.recorded v := by
    subst hv
    refine State.recorded_trans ?_ (State.modTakers_recorded ..)
    exact s.recorded_modLink l _ fun x => ⟨rfl, LinkState.ringGrows_of_eq rfl rfl⟩
  refine State.recorded_trans counted ?_
  split
  · exact State.recorded_trans (State.modTakers_recorded ..) (State.endCaptures_recorded ..)
  · refine State.recorded_modLink _ l _ fun x => ⟨rfl, fun empty => ?_⟩
    simp [LinkState.fillNormal, LinkState.withFilling, empty, Machine.fillNormal]

theorem State.offerRecord_recorded (s : State) (r : Record) : s.recorded (s.offerRecord r) := by
  have taken (s : State) (l : Link) (mine : Triple Bool) : s.recorded (if mine.any id then s.takeFor l mine r else s) := by
    split
    · exact s.takeFor_recorded l mine r
    · exact s.recorded_refl
  unfold State.offerRecord
  dsimp only
  generalize s.takersOf .a _ = mineA
  generalize s.takersOf .s _ = mineS
  generalize hv : State.mk .. = v
  have advanced : s.recorded v := by subst hv; exact State.recorded_of_links rfl rfl
  exact State.recorded_trans (State.recorded_trans advanced (taken v .a mineA)) (taken _ .s mineS)

theorem State.offerAround_recorded (s : State) (starts : StartCond → Bool) (ends : EndCond → Bool) (why : CaptureEnd)
    (r : Record) : s.recorded (s.offerAround starts ends why r) := by
  unfold State.offerAround
  dsimp only
  have started : s.recorded (s.startCaptures starts) := State.recorded_of_links rfl rfl
  exact State.recorded_trans (State.recorded_trans started (State.offerRecord_recorded ..))
    (State.endCaptures_recorded ..)

/-! ### What a record is made of (R140, R141) -/

/-- Two links hold the same records. -/
def LinkState.sameRecords (x y : LinkState) : Prop := y.seq = x.seq ∧ y.ring = x.ring ∧ y.posted = x.posted

/-- Two states are alike in all that the taking of a record looks at and changes. -/
structure State.sameRecords (s t : State) : Prop where
  cap : t.cap = s.cap
  clock : t.clock = s.clock
  link : ∀ l, (s.link l).sameRecords (t.link l)

theorem LinkState.sameRecords_trans {x y z : LinkState} (h : x.sameRecords y) (h' : y.sameRecords z) :
    x.sameRecords z := by
  unfold LinkState.sameRecords at *
  simp_all

theorem State.sameRecords_refl (s : State) : s.sameRecords s := ⟨rfl, rfl, fun _ => ⟨rfl, rfl, rfl⟩⟩

theorem State.sameRecords_trans {s t u : State} (h : s.sameRecords t) (h' : t.sameRecords u) : s.sameRecords u :=
  ⟨h'.cap.trans h.cap, h'.clock.trans h.clock, fun l => LinkState.sameRecords_trans (h.link l) (h'.link l)⟩

theorem State.sameRecords_of_links {s t : State} (cap : t.cap = s.cap) (clock : t.clock = s.clock)
    (ha : t.linkA = s.linkA) (hs : t.linkS = s.linkS) : s.sameRecords t :=
  ⟨cap, clock, fun l => by rw [State.link_congr ha hs]; exact ⟨rfl, rfl, rfl⟩⟩

/-- A notice touches no record. -/
theorem State.notify_sameRecords (s : State) (l : Link) (n : Notice) : s.sameRecords (s.notify l n) := by
  refine ⟨by simp, by simp, fun m => ?_⟩
  by_cases e : m = l
  · subst e; rw [State.link_notify_same, LinkState.raise_frame]; exact ⟨rfl, rfl, rfl⟩
  · rw [State.link_notify_other _ _ _ _ e]; exact ⟨rfl, rfl, rfl⟩

theorem State.notifyBoth_sameRecords (s : State) (n : Notice) : s.sameRecords (s.notifyBoth n) :=
  State.sameRecords_trans (s.notify_sameRecords .a n) (State.notify_sameRecords _ .s n)

section Alike

variable {s t : State} (h : s.sameRecords t)

include h

theorem State.sameRecords_unit (u : Fin 3) : t.unit u = s.unit u := by rw [State.unit, State.unit, h.cap]

theorem State.sameRecords_setUnit (u : Fin 3) (x : CaptureUnit) : (s.setUnit u x).sameRecords (t.setUnit u x) := by
  refine ⟨?_, h.clock, fun l => ?_⟩
  · rw [State.setUnit, State.setUnit, h.cap]
  · rw [State.link_congr (s := t) (t := t.setUnit u x) rfl rfl, State.link_congr (s := s) (t := s.setUnit u x) rfl rfl]
    exact h.link l

theorem State.sameRecords_modLink (l : Link) {f g : LinkState → LinkState}
    (hf : ∀ x y : LinkState, x.sameRecords y → (f x).sameRecords (g y)) : (s.modLink l f).sameRecords (t.modLink l g) := by
  refine ⟨by simp [h.cap], by simp [h.clock], fun m => ?_⟩
  by_cases e : m = l
  · subst e; rw [State.link_modLink_same, State.link_modLink_same]; exact hf _ _ (h.link m)
  · rw [State.link_modLink_other _ _ _ _ e, State.link_modLink_other _ _ _ _ e]; exact h.link m

theorem State.sameRecords_notify (l : Link) (n : Notice) : (s.notify l n).sameRecords (t.notify l n) :=
  State.sameRecords_modLink h l fun x y e => by rw [x.raise_frame, y.raise_frame]; exact e

theorem State.sameRecords_deliver (l : Link) : (s.deliver l).sameRecords (t.deliver l) := by
  have filled : (s.modLink l (·.fillNormal)).sameRecords (t.modLink l (·.fillNormal)) :=
    State.sameRecords_modLink h l fun x y ⟨seq, ring, posted⟩ => by
      simp [LinkState.sameRecords, LinkState.fillNormal, LinkState.withFilling, seq, ring, posted]
  unfold State.deliver
  dsimp only
  generalize s.modLink l (·.fillNormal) = v at *
  generalize t.modLink l (·.fillNormal) = w at *
  obtain ⟨seq, ring, posted⟩ := filled.link l
  have ends : w.endOfCapture l = v.endOfCapture l := by
    rw [State.endOfCapture, State.endOfCapture, State.capturing, State.capturing, filled.cap, LinkState.head, LinkState.head,
      ring, posted]
  rw [ends]
  split
  · refine State.sameRecords_modLink filled l fun x y ⟨seq, ring, posted⟩ => ?_
    simp [LinkState.sameRecords, LinkState.withFilling, seq, ring, posted]
  · exact filled

theorem State.sameRecords_endCapture (u : Fin 3) (why : CaptureEnd) : (s.endCapture u why).sameRecords (t.endCapture u why) := by
  unfold State.endCapture
  rw [State.sameRecords_unit h u]
  dsimp only
  have ended := State.sameRecords_setUnit h u { s.unit u with state := .ended, endReason := some why }
  split
  · exact ended
  · exact State.sameRecords_deliver (State.sameRecords_notify ended ..) _

end Alike

/-- Two folds in step stay alike. -/
theorem State.sameRecords_foldl {β : Type} {f : State → β → State}
    (hf : ∀ {s t : State}, s.sameRecords t → ∀ b, (f s b).sameRecords (f t b)) (l : List β) {s t : State}
    (h : s.sameRecords t) : (l.foldl f s).sameRecords (l.foldl f t) := by
  induction l generalizing s t with
  | nil => exact h
  | cons b bs ih => exact ih (hf h b)

section Alike

variable {s t : State} (h : s.sameRecords t)

include h

theorem State.sameRecords_endCaptures (p : Fin 3 → CaptureUnit → Bool) (why : CaptureEnd) :
    (s.endCaptures p why).sameRecords (t.endCaptures p why) :=
  State.sameRecords_foldl (fun e u => by
    rw [State.sameRecords_unit e u]
    split
    · exact State.sameRecords_endCapture e u why
    · exact e) three h

theorem State.sameRecords_modTakers (mine : Triple Bool) (f : CaptureUnit → CaptureUnit) :
    (s.modTakers mine f).sameRecords (t.modTakers mine f) :=
  State.sameRecords_foldl (fun e u => by
    rw [State.sameRecords_unit e u]
    split
    · exact State.sameRecords_setUnit e u _
    · exact e) three h

theorem State.sameRecords_takeFor (l : Link) (mine : Triple Bool) (r : Record) :
    (s.takeFor l mine r).sameRecords (t.takeFor l mine r) := by
  unfold State.takeFor
  dsimp only
  refine State.sameRecords_endCaptures ?_ ..
  have counted := State.sameRecords_modTakers (State.sameRecords_modLink h l
    (f := fun lk => { lk with seq := (s.link l).seq + 1 }) (g := fun lk => { lk with seq := (t.link l).seq + 1 })
    fun x y e => ⟨congrArg (· + 1) (h.link l).1, e.2⟩) mine fun u => { u with taken := satSucc takenTop u.taken }
  generalize State.modTakers (s.modLink l _) mine _ = v at *
  generalize State.modTakers (t.modLink l _) mine _ = w at *
  rw [(counted.link l).2.1]
  split
  · exact State.sameRecords_endCaptures (State.sameRecords_modTakers counted ..) ..
  · refine State.sameRecords_modLink counted l fun x y ⟨seq, ring, posted⟩ => ?_
    simp [LinkState.sameRecords, LinkState.fillNormal, LinkState.withFilling, seq, ring, posted, (h.link l).1, State.refTime,
      counted.clock]

theorem State.sameRecords_offerRecord (r : Record) : (s.offerRecord r).sameRecords (t.offerRecord r) := by
  have taken {s t : State} (e : s.sameRecords t) (l : Link) (mine : Triple Bool) :
      (if mine.any id then s.takeFor l mine r else s).sameRecords (if mine.any id then t.takeFor l mine r else t) := by
    split
    · exact State.sameRecords_takeFor e l mine r
    · exact e
  have mine (l : Link) (takers : Triple Bool) : t.takersOf l takers = s.takersOf l takers := by
    simp only [State.takersOf, State.sameRecords_unit h]
  unfold State.offerRecord
  dsimp only
  rw [h.cap, mine, mine]
  generalize s.takersOf .a _ = mineA
  generalize s.takersOf .s _ = mineS
  generalize hv : State.mk s.pending .. = v
  generalize hw : State.mk t.pending .. = w
  have advanced : v.sameRecords w := by
    subst hv hw
    exact ⟨rfl, h.clock, fun l => by cases l <;> [exact h.link .a; exact h.link .s]⟩
  exact taken (taken advanced .a mineA) .s mineS

end Alike

/-! ### The fast conversion (R2, R8, R51) -/

/-- R8, as the statements say it. -/
theorem State.plainValue_current (s : State) (code : Code) :
    s.plainValue .iMot code = s.scaled 20 code ∧ s.plainValue .iHeat code = s.scaled 22 code := ⟨rfl, rfl⟩

theorem ChannelState.replace_freshness (c : ChannelState) (code : Code) (v : Int) (now : Word) (l : Link) :
    (c.replace code v now).freshness l = .fresh := by cases l <;> rfl

theorem State.endContact_recorded (s : State) (c : Contact) : s.recorded (s.endContact c) := by
  unfold State.endContact
  generalize hv : State.mk s.pending .. = v
  have removed : s.recorded v := by subst hv; exact State.recorded_of_links rfl rfl
  exact State.recorded_trans removed (v.offerRecord_recorded _)

/-- A bar sample of the running schedule leaves the links to their records (R18). -/
theorem State.barSample_recorded (s : State) (g : Nat) : s.recorded (s.barSample g) := by
  have kept (s : State) (c : Contact) : s.recorded (s.keepContact c) := State.recorded_of_links (by simp) (by simp)
  have windowed (s : State) (f : Window → Window) : s.recorded (s.modWindow f) :=
    State.recorded_of_links (by simp) (by simp)
  unfold State.barSample
  dsimp only
  generalize hv : s.modWindow _ = v
  refine State.recorded_trans (t := v) (hv ▸ windowed s _) ?_
  split
  · split
    · exact State.recorded_of_links rfl rfl
    · exact v.recorded_refl
  · split
    · exact kept ..
    · split
      · exact kept ..
      · exact State.recorded_trans (windowed v _) (State.endContact_recorded ..)

/-- The two readings of a fast conversion, before the round and the blocks see them. -/
def State.fastRead (u : State) (bar motor : Code) : State :=
  (((({ u with mfe := { u.mfe with fastDue := some (u.clock + 1) } }).reverseBars).convertPlain .g bar).convertPlain
    .iMot motor)

theorem State.fastRead_channel (u : State) (bar motor : Code) (c : Channel) :
    (u.fastRead bar motor).mfe.channel c =
      if c = .g then (u.mfe.channel .g).replace bar bar.toNat u.refTime
      else if c = .iMot then (u.mfe.channel .iMot).replace motor (u.scaled 20 motor) u.refTime
      else u.mfe.channel c := by
  cases c <;> rfl

theorem State.fastConversion_eq (u : State) (bar motor : Code) : u.fastConversion bar motor =
    ((((u.fastRead bar motor).roundMade [.g, .iMot]).barSample bar.toNat).motorSample (u.scaled 20 motor).toNat) := by
  have current : State.plainValue ((u.fastRead bar motor).roundMade [.g, .iMot]) .iMot motor = u.scaled 20 motor := by
    have sst : ((u.fastRead bar motor).roundMade [.g, .iMot]).sst = u.sst := by simp [State.fastRead]
    rw [(State.plainValue_current _ _).1, State.scaled, State.scaled, State.setting, State.setting, State.setting,
      State.setting, State.word, State.word, State.word, State.word, sst]
  rw [← current]
  rfl

theorem State.fastConversion_mfe (u : State) (bar motor : Code) :
    (u.fastConversion bar motor).mfe = ((u.fastRead bar motor).roundMade [.g, .iMot]).mfe := by
  rw [u.fastConversion_eq]; simp

theorem State.fastConversion_dmc (u : State) (bar motor : Code) : (u.fastConversion bar motor).dmc =
    { u.dmc with revolution := u.dmc.revolution.map (·.sample (u.scaled 20 motor).toNat) } := by
  rw [u.fastConversion_eq]; simp [State.motorSample, State.fastRead]

theorem State.fastConversion_recorded (u : State) (bar motor : Code) :
    ((u.fastRead bar motor).roundMade [.g, .iMot]).recorded (u.fastConversion bar motor) := by
  rw [u.fastConversion_eq]
  exact State.recorded_trans (State.barSample_recorded ..) (State.recorded_of_links rfl rfl)

/-- R10: the bar and the motor current are fresh at once, and no other channel has changed. -/
theorem State.fastRead_freshness (u : State) (bar motor : Code) (c : Channel) (l : Link) :
    ((u.fastRead bar motor).mfe.channel c).freshness l = u.freshNow (u.fastRead bar motor) [.g, .iMot] bar c l := by
  cases c <;> cases l <;> rfl

theorem State.fastConversion_channel (u : State) (bar motor : Code) (c : Channel) :
    (u.fastConversion bar motor).mfe.channel c = ((u.fastRead bar motor).roundMade [.g, .iMot]).mfe.channel c :=
  congrArg (fun m : Mfe => m.channel c) (u.fastConversion_mfe bar motor)

theorem State.fastConversion_reading (u : State) (bar motor : Code) (c : Channel) :
    ((u.fastRead bar motor).mfe.channel c).sameReading ((u.fastConversion bar motor).mfe.channel c) :=
  State.reading_of_roundMade (u.fastConversion_channel bar motor) c

theorem State.fastConversion_freshened (u : State) (bar motor : Code) :
    u.freshened (u.fastConversion bar motor) [.g, .iMot] bar :=
  State.freshened_of_roundMade (w := u.fastRead bar motor) rfl (u.fastRead_freshness bar motor)
    (u.fastConversion_channel bar motor)

theorem State.fastConversion_roundGoesOn (u : State) (bar motor : Code) :
    u.roundGoesOn (u.fastConversion bar motor) [.g, .iMot] bar :=
  State.roundGoesOn_of_roundMade (w := u.fastRead bar motor) rfl (u.fastRead_freshness bar motor)
    (u.fastConversion_channel bar motor) (congrArg Mfe.round (u.fastConversion_mfe bar motor))
    (fun l => by cases l <;> rfl)
    fun l _ => LinkState.sameTalk_reply ((u.fastConversion_recorded bar motor).link l).1

/-- Settles O7: the two readings, the round, and the bar sample at the estimator one after the other. -/
theorem fastConversionReadings : Obligations.FastConversionReadings := by
  intro bar motor s due on fastDue
  have left : s.commandLeft (.fastConversion bar motor) = some (due - s.clock) := congrArg (Option.map _) fastDue
  refine ⟨_, s.timed_some _ _ _ on left, ?_⟩
  have front := (s.moment due).fastConversion_mfe bar motor
  have reading := (s.moment due).fastConversion_reading bar motor
  obtain ⟨barValue, barCode, barTime, -⟩ := (ChannelState.sameReading_iff _ _).mp (reading .g)
  obtain ⟨motorValue, motorCode, motorTime, -⟩ := (ChannelState.sameReading_iff _ _).mp (reading .iMot)
  refine ⟨?_, ?_, ⟨barValue, barCode, barTime⟩, ⟨motorValue, motorCode, motorTime⟩,
    (s.moment due).fastConversion_freshened bar motor, (s.moment due).fastConversion_roundGoesOn bar motor, ?_,
    (s.moment due).fastConversion_dmc bar motor, ?_⟩
  · rw [front, (State.roundMade_schedule ..).2.2.2.1]; rfl
  · rw [front, (State.roundMade_schedule ..).2.2.1]; rfl
  · intro c hc
    have := reading c
    rwa [State.fastRead_channel, if_neg (by rintro rfl; simp at hc), if_neg (by rintro rfl; simp at hc)] at this
  · apply State.ext_blocks <;> simp

/-! ### Stage outputs that go off (R82, R87, R88) -/

/-- From `s` to `t` stage outputs have gone off, and nothing else. -/
structure State.sheds (s t : State) : Prop where
  frame : t = { s with hsc := { s.hsc with stages := t.hsc.stages, lastOn := t.hsc.lastOn } }
  onTime : ∀ n : StageNo, (t.stage n).onTime = (s.stage n).onTime
  openMark : ∀ n : StageNo, (t.stage n).openMark = (s.stage n).openMark
  on : ∀ n : StageNo, (t.stage n).on = true → (s.stage n).on = true
  test : ∀ n : StageNo, (s.stage n).test = none → (t.stage n).test = none

theorem State.sheds_refl (s : State) : s.sheds s := ⟨rfl, fun _ => rfl, fun _ => rfl, fun _ => id, fun _ => id⟩

theorem State.sheds_trans {s t u : State} (h : s.sheds t) (h' : t.sheds u) : s.sheds u where
  frame := by rw [h'.frame, h.frame]
  onTime n := (h'.onTime n).trans (h.onTime n)
  openMark n := (h'.openMark n).trans (h.openMark n)
  on n := h.on n ∘ h'.on n
  test n := h'.test n ∘ h.test n

theorem Stage.dropUnread_eq (st : Stage) : st.dropUnread = { st with test := st.dropUnread.test } := by
  unfold Stage.dropUnread; split <;> [(split <;> rfl); rfl]

/-- R87, R90: what is left of each stage when stage `n` goes off. -/
theorem State.stage_stageOff (s : State) (n m : StageNo) : (s.stageOff n).stage m =
    if (s.stage n).on = false then s.stage m
    else if m = n then { s.stage n with on := false, switchTime := s.clock, offWaived := false, test := none }
    else (s.stage m).dropUnread := by
  unfold State.stageOff
  split
  · next on =>
    rw [if_neg (by simp [on])]
    dsimp only [State.stage]
    split
    · next h => rw [h, Quad.get_set_same, Quad.get_map, Stage.dropUnread_eq]
    · next h => rw [Quad.get_set_other _ _ _ _ h, Quad.get_map]
  · next off => rw [if_pos (Bool.eq_false_of_not_eq_true off)]

theorem State.stageOff_sheds (s : State) (n : StageNo) : s.sheds (s.stageOff n) where
  frame := by unfold State.stageOff; split <;> rfl
  onTime m := by
    rw [s.stage_stageOff]
    split
    · rfl
    split
    · next h => rw [h]
    · rw [Stage.dropUnread_eq]
  openMark m := by
    rw [s.stage_stageOff]
    split
    · rfl
    split
    · next h => rw [h]
    · rw [Stage.dropUnread_eq]
  on m := by
    rw [s.stage_stageOff]
    split
    · exact id
    split
    · nofun
    · rw [Stage.dropUnread_eq]; exact id
  test m none := by
    rw [s.stage_stageOff]
    split
    · exact none
    split
    · rfl
    · rw [Stage.dropUnread, none]; exact none

theorem State.stagesOff_sheds (s : State) (ns : List StageNo) : s.sheds (s.stagesOff ns) :=
  foldl_rel State.sheds_refl (fun _ _ _ => State.sheds_trans) State.stageOff_sheds ns s

theorem State.on_stageOff (s : State) (n m : StageNo) : ((s.stageOff n).stage m).on = ((s.stage m).on && !(m == n)) := by
  rw [s.stage_stageOff]
  split
  · next off => by_cases h : m = n <;> simp [h, off]
  · split
    · next h => simp [h]
    · next h => rw [Stage.dropUnread_eq]; simp [h]

/-- Exactly the stages named go off. -/
theorem State.on_stagesOff (s : State) (ns : List StageNo) (n : StageNo) :
    ((s.stagesOff ns).stage n).on = ((s.stage n).on && !ns.contains n) := by
  induction ns generalizing s with
  | nil => simp [State.stagesOff]
  | cons m ms ih =>
    rw [show s.stagesOff (m :: ms) = (s.stageOff m).stagesOff ms from rfl, ih, s.on_stageOff, List.contains_cons,
      Bool.not_or, Bool.and_assoc]

theorem State.shedAll_heatOff (s : State) : s.shedAll.heatOff := by
  intro n
  rw [State.shedAll, State.on_stagesOff]
  fin_cases n <;> simp [four]

/-- With every output off there is nothing to shed. -/
theorem State.stagesOff_of_heatOff (s : State) (off : s.heatOff) (ns : List StageNo) : s.stagesOff ns = s := by
  induction ns with
  | nil => rfl
  | cons n ns ih =>
    have : s.stageOff n = s := by rw [State.stageOff, off n]; rfl
    rw [show s.stagesOff (n :: ns) = (s.stageOff n).stagesOff ns from rfl, this, ih]

theorem State.enforce_sheds (s : State) : s.sheds s.enforce := by
  unfold State.enforce
  split
  · exact s.stagesOff_sheds _
  · exact s.sheds_refl

theorem State.enforce_heatOff (s : State) (h : s.interlocked = true) : s.enforce.heatOff := by
  rw [State.enforce, if_pos h]; exact s.shedAll_heatOff

theorem State.enforce_of_heatOff (s : State) (off : s.heatOff) : s.enforce = s := by
  rw [State.enforce, State.shedAll, s.stagesOff_of_heatOff off, ite_self]

/-! ### The effective cap and the stages above it (R78, R82) -/

theorem State.effectiveCap_congr {s t : State} (program : t.csq.program = s.csq.program) (sst : t.sst = s.sst)
    (openMark : ∀ n : StageNo, (t.stage n).openMark = (s.stage n).openMark) (inlet : t.hsc.inletCap = s.hsc.inletCap)
    (tangle : t.hsc.tangleCap = s.hsc.tangleCap) : t.effectiveCap = s.effectiveCap := by
  have available (n : StageNo) : t.available n = s.available n := by
    rw [State.available, State.available, State.stageEnabled, State.stageEnabled, State.setting, State.setting,
      State.word, State.word, sst, openMark]
  simp only [State.effectiveCap, State.maxStages, State.nAvailable, program, inlet, tangle, available]

theorem State.sheds_effectiveCap {s t : State} (h : s.sheds t) : t.effectiveCap = s.effectiveCap :=
  State.effectiveCap_congr (by rw [h.frame]) (by rw [h.frame]) h.openMark (by rw [h.frame]) (by rw [h.frame])

/-- One output that goes off takes at most one from the count. -/
theorem State.stagesOn_stageOff (s : State) (n : StageNo) : s.stagesOn ≤ (s.stageOff n).stagesOn + 1 := by
  have count (t : State) : t.stagesOn =
      (t.stage 0).on.toNat + (t.stage 1).on.toNat + (t.stage 2).on.toNat + (t.stage 3).on.toNat := rfl
  have four : ∀ (n : StageNo) (a b c d : Bool), a.toNat + b.toNat + c.toNat + d.toNat ≤ (a && !((0 : StageNo) == n)).toNat
      + (b && !((1 : StageNo) == n)).toNat + (c && !((2 : StageNo) == n)).toNat + (d && !((3 : StageNo) == n)).toNat + 1 := by
    decide
  simp only [count, s.on_stageOff]
  exact four n ..

theorem State.stagesOn_stagesOff (s : State) (ns : List StageNo) : s.stagesOn ≤ (s.stagesOff ns).stagesOn + ns.length := by
  induction ns generalizing s with
  | nil => exact Nat.le_refl _
  | cons n ns ih =>
    have := s.stagesOn_stageOff n
    have := ih (s.stageOff n)
    rw [show s.stagesOff (n :: ns) = (s.stageOff n).stagesOff ns from rfl, List.length_cons]
    omega

/-- The stages above the effective cap go off (R82). -/
theorem State.shedToCap_sheds (s : State) : s.sheds s.shedToCap := s.stagesOff_sheds _

/-- Once the cap has shed a stage there is no room under it (R82). -/
theorem State.shedToCap_full (s : State) : s.shedToCap = s ∨ s.shedToCap.effectiveCap ≤ s.shedToCap.stagesOn := by
  by_cases h : s.stagesOn - s.effectiveCap = 0
  · left; rw [State.shedToCap, h]; rfl
  · right
    have removed := s.stagesOn_stagesOff (s.mostWornOn.take (s.stagesOn - s.effectiveCap))
    have := List.length_take_le (s.stagesOn - s.effectiveCap) s.mostWornOn
    rw [State.sheds_effectiveCap s.shedToCap_sheds]
    rw [State.shedToCap]
    omega

/-! ### The order of wear (R78) -/

/-- In a list in order of an asymmetric relation, the first `k` are those with fewer than `k` before them. -/
theorem mem_take_iff_countP {α : Type} {R : α → α → Prop} [DecidableRel R] (asymm : ∀ a b, R a b → ¬R b a) {l : List α}
    (sorted : l.Pairwise R) {x : α} (hx : x ∈ l) (k : Nat) : x ∈ l.take k ↔ l.countP (fun y => decide (R y x)) < k := by
  induction l generalizing k with
  | nil => simp at hx
  | cons y ys ih =>
    obtain ⟨above, rest⟩ := List.pairwise_cons.mp sorted
    cases k with
    | zero => simp
    | succ k =>
      by_cases e : x = y
      · subst e
        have none : (x :: ys).countP (fun z => decide (R z x)) = 0 := by
          rw [List.countP_eq_zero]
          intro z hz
          rcases List.mem_cons.mp hz with rfl | hz
          · simpa using fun h => asymm _ _ h h
          · simpa using asymm _ _ (above z hz)
        simp [none]
      · have hx' : x ∈ ys := (List.mem_cons.mp hx).resolve_left e
        rw [List.take_succ_cons, List.mem_cons, List.countP_cons, ih rest hx' k]
        simp [e, above x hx']

theorem insertByWear_perm (q : Quad Stage) (n : StageNo) (l : List StageNo) : (insertByWear q n l).Perm (n :: l) := by
  induction l with
  | nil => exact .refl _
  | cons x xs ih =>
    unfold insertByWear
    split
    · exact .refl _
    · exact (ih.cons x).trans (.swap n x xs)

/-- Stage `m` comes before stage `n` in the order of wear (R78). -/
def lessWorn (q : Quad Stage) (m n : StageNo) : Prop :=
  (q.get m).onTime < (q.get n).onTime ∨ (q.get m).onTime = (q.get n).onTime ∧ m < n

/-- A stage of a higher number than those in order is put in its place. -/
theorem insertByWear_sorted (q : Quad Stage) (n : StageNo) {l : List StageNo} (sorted : l.Pairwise (lessWorn q))
    (higher : ∀ m ∈ l, m < n) : (insertByWear q n l).Pairwise (lessWorn q) := by
  induction l with
  | nil => exact List.pairwise_singleton _ _
  | cons x xs ih =>
    obtain ⟨above, rest⟩ := List.pairwise_cons.mp sorted
    unfold insertByWear
    split
    · next less =>
      refine List.pairwise_cons.mpr ⟨fun m hm => .inl ?_, sorted⟩
      rcases List.mem_cons.mp hm with rfl | hm
      · exact less
      · rcases above m hm with h | h <;> omega
    · next notLess =>
      refine List.pairwise_cons.mpr ⟨fun m hm => ?_, ih rest fun m hm => higher m (List.mem_cons_of_mem _ hm)⟩
      rcases List.mem_cons.mp ((insertByWear_perm q n xs).mem_iff.mp hm) with rfl | hm
      · exact (Nat.lt_or_eq_of_le (Nat.le_of_not_lt notLess)).imp_right fun e => ⟨e, higher x List.mem_cons_self⟩
      · exact above m hm

theorem wearOrder_perm (q : Quad Stage) : (wearOrder q).Perm four := by
  have steps := ((((insertByWear_perm q 3 _).trans (((insertByWear_perm q 2 _).trans
    (((insertByWear_perm q 1 _).trans ((insertByWear_perm q 0 []).cons 1)).cons 2)).cons 3))))
  exact steps.trans (by decide)

theorem wearOrder_sorted (q : Quad Stage) : (wearOrder q).Pairwise (lessWorn q) := by
  have zero := insertByWear_sorted q 0 List.Pairwise.nil (by simp)
  have one := insertByWear_sorted q 1 zero fun m hm => by
    simp [insertByWear] at hm; subst hm; decide
  have two := insertByWear_sorted q 2 one fun m hm => by
    have := ((insertByWear_perm q 1 _).trans ((insertByWear_perm q 0 []).cons 1)).mem_iff.mp hm
    fin_cases this <;> decide
  exact insertByWear_sorted q 3 two fun m hm => by
    have := ((insertByWear_perm q 2 _).trans (((insertByWear_perm q 1 _).trans
      ((insertByWear_perm q 0 []).cons 1)).cons 2)).mem_iff.mp hm
    fin_cases this <;> decide

theorem State.mem_mostWornOn (s : State) (n : StageNo) : n ∈ s.mostWornOn ↔ (s.stage n).on = true := by
  rw [State.mostWornOn, List.mem_reverse, List.mem_filter, (wearOrder_perm _).mem_iff]
  exact and_iff_right (by fin_cases n <;> decide)

theorem State.mostWornOn_sorted (s : State) : s.mostWornOn.Pairwise s.moreWorn := by
  rw [State.mostWornOn, List.pairwise_reverse]
  exact (wearOrder_sorted s.hsc.stages).filter _

theorem State.wearRank_eq (s : State) (n : StageNo) :
    s.wearRank n = s.mostWornOn.countP fun m => decide (s.moreWorn m n) := by
  rw [State.mostWornOn, List.countP_reverse, List.countP_filter, (wearOrder_perm _).countP_eq, State.wearRank]
  exact List.countP_congr fun m _ => by simp [and_comm]

/-- Of the stages that are on, those above the cap go off, the most worn ones (R82). -/
theorem State.off_shedToCap_iff (s : State) (n : StageNo) (on : (s.stage n).on = true) :
    (s.shedToCap.stage n).on = false ↔ s.wearRank n < s.stagesOn - s.effectiveCap := by
  have asymm (a b : StageNo) (h : s.moreWorn a b) : ¬s.moreWorn b a := by
    simp only [State.moreWorn, Fin.lt_def] at *; omega
  rw [s.wearRank_eq, ← mem_take_iff_countP asymm s.mostWornOn_sorted ((s.mem_mostWornOn n).mpr on), State.shedToCap,
    State.on_stagesOff, on]
  simp

/-! ### A stage test that comes on (R98) -/

theorem State.stage_stageOn (s : State) (n m : StageNo) :
    (s.stageOn n).stage m = if m = n then s.comesOn n else s.stage m := by
  unfold State.stageOn State.stage
  dsimp only
  split
  · next h => rw [h, Quad.get_set_same]; rfl
  · next h => rw [Quad.get_set_other _ _ _ _ h]

theorem State.settleTests_cases (s : State) :
    s.settleTests = s ∨ ∃ n, s.csq.phase = .service ∧ s.testMayStart n = true ∧ s.settleTests = s.stageOn n := by
  unfold State.settleTests
  split
  · next service =>
    rw [foldl_mayStart]
    split
    · next n found => exact .inr ⟨n, service, List.find?_some found, rfl⟩
    · exact .inl rfl
  · exact .inl rfl

theorem State.settleTests_of_phase (s : State) (h : s.csq.phase ≠ .service) : s.settleTests = s := if_neg h

theorem State.settleTests_of_interlocked (s : State) (h : s.interlocked = true) : s.settleTests = s := by
  rcases s.settleTests_cases with same | ⟨n, -, may, -⟩
  · exact same
  · rw [testMayStart_iff, h] at may
    obtain ⟨-, -, free, -⟩ := may
    exact absurd free (by decide)

theorem State.settleTests_of_full (s : State) (h : s.effectiveCap ≤ s.stagesOn) : s.settleTests = s := by
  rcases s.settleTests_cases with same | ⟨n, -, may, -⟩
  · exact same
  · rw [testMayStart_iff] at may
    obtain ⟨-, -, -, -, room⟩ := may
    omega

/-- Of a stage test that comes on, the on-times, the OPEN marks and the caps see nothing. -/
theorem State.settleTests_keeps (s : State) :
    s.settleTests = { s with hsc := { s.hsc with
        stages := s.settleTests.hsc.stages, stuckArmed := s.settleTests.hsc.stuckArmed } }
      ∧ ∀ n : StageNo, (s.settleTests.stage n).onTime = (s.stage n).onTime
        ∧ (s.settleTests.stage n).openMark = (s.stage n).openMark
        ∧ ((s.stage n).on = true → s.settleTests.stage n = s.stage n)
        ∧ (s.available n = false → s.settleTests.stage n = s.stage n) := by
  rcases s.settleTests_cases with same | ⟨m, -, may, on⟩
  · rw [same]; exact ⟨rfl, fun _ => ⟨rfl, rfl, fun _ => rfl, fun _ => rfl⟩⟩
  · rw [on]
    refine ⟨rfl, fun n => ?_⟩
    obtain ⟨⟨-, off, available, -⟩, -⟩ := (testMayStart_iff s m).mp may
    rw [s.stage_stageOn]
    split
    · next h =>
      subst h
      exact ⟨rfl, rfl, fun on => absurd (off.symm.trans on) Bool.false_ne_true,
        fun not => absurd (not.symm.trans available) Bool.false_ne_true⟩
    · exact ⟨rfl, rfl, fun _ => rfl, fun _ => rfl⟩

theorem State.settleTests_effectiveCap (s : State) : s.settleTests.effectiveCap = s.effectiveCap := by
  obtain ⟨frame, stage⟩ := s.settleTests_keeps
  exact State.effectiveCap_congr (by rw [frame]) (by rw [frame]) (fun n => (stage n).2.1) (by rw [frame]) (by rw [frame])

/-- R82, R98: of the stages that were on, shedding to the cap and then judging the stage tests leaves off those that the
cap sheds: where it sheds any, there is no room for a stage under test. -/
theorem State.settled_shedToCap_stage (s : State) (n : StageNo) (on : (s.stage n).on = true) :
    s.shedToCap.settleTests.stage n = s.shedToCap.stage n := by
  rcases s.shedToCap_full with same | full
  · rw [same]; exact (s.settleTests_keeps.2 n).2.2.1 on
  · rw [s.shedToCap.settleTests_of_full full]

/-! ### What a phase change leaves of the heater (R76, R77, R92, R93) -/

/-- From `s` to `t` no stage output has come on, and on-times, lockout and stuck report stand. -/
structure State.onlyCools (s t : State) : Prop where
  onTime : ∀ n : StageNo, (t.stage n).onTime = (s.stage n).onTime
  on : ∀ n : StageNo, (t.stage n).on = true → (s.stage n).on = true
  lockout : t.hsc.lockout = s.hsc.lockout
  stuckArmed : t.hsc.stuckArmed = s.hsc.stuckArmed

theorem State.onlyCools_trans {s t u : State} (h : s.onlyCools t) (h' : t.onlyCools u) : s.onlyCools u where
  onTime n := (h'.onTime n).trans (h.onTime n)
  on n := h.on n ∘ h'.on n
  lockout := h'.lockout.trans h.lockout
  stuckArmed := h'.stuckArmed.trans h.stuckArmed

theorem State.onlyCools_of_hsc {s t : State} (stages : t.hsc.stages = s.hsc.stages) (lockout : t.hsc.lockout = s.hsc.lockout)
    (stuckArmed : t.hsc.stuckArmed = s.hsc.stuckArmed) : s.onlyCools t := by
  have stage (n : StageNo) : t.stage n = s.stage n := by rw [State.stage, State.stage, stages]
  exact ⟨fun n => by rw [stage], fun n => by rw [stage]; exact id, lockout, stuckArmed⟩

theorem State.onlyCools_of_eq {s t : State} (hsc : t.hsc = s.hsc) : s.onlyCools t :=
  State.onlyCools_of_hsc (by rw [hsc]) (by rw [hsc]) (by rw [hsc])

theorem State.onlyCools_refl (s : State) : s.onlyCools s := State.onlyCools_of_eq rfl

theorem State.onlyCools_of_sheds {s t : State} (h : s.sheds t) : s.onlyCools t :=
  ⟨h.onTime, h.on, by rw [h.frame], by rw [h.frame]⟩

theorem State.heatOff_of_onlyCools {s t : State} (h : s.onlyCools t) (off : s.heatOff) : t.heatOff := fun n => by
  have := h.on n
  rw [off n] at this
  exact Bool.eq_false_of_not_eq_true fun on => Bool.false_ne_true (this on)

/-- A change of the heat stage controller's other fields, with the interlocks enforced after it. -/
theorem State.onlyCools_enforce {s t : State} (h : s.onlyCools t) : s.onlyCools t.enforce :=
  State.onlyCools_trans h (State.onlyCools_of_sheds t.enforce_sheds)

theorem State.setTangleCap_onlyCools (s : State) (flag : Bool) : s.onlyCools (s.setTangleCap flag) :=
  State.onlyCools_trans (State.onlyCools_of_hsc (t := { s with hsc := { s.hsc with tangleCap := if flag then 1 else 4 } })
    rfl rfl rfl) (State.onlyCools_of_sheds (State.shedToCap_sheds _))

theorem State.heatTurningEnds_onlyCools (s : State) : s.onlyCools s.heatTurningEnds := by
  unfold State.heatTurningEnds
  dsimp only
  split
  · exact State.onlyCools_enforce (State.onlyCools_of_hsc rfl rfl rfl)
  · exact State.onlyCools_of_hsc rfl rfl rfl

theorem State.fanOn_onlyCools (s : State) : s.onlyCools s.fanOn := State.onlyCools_of_hsc rfl rfl rfl

theorem State.fanOff_onlyCools (s : State) : s.onlyCools s.fanOff :=
  State.onlyCools_enforce (State.onlyCools_of_hsc rfl rfl rfl)

theorem State.fanDemandEnds_onlyCools (s : State) : s.onlyCools s.fanDemandEnds := by
  unfold State.fanDemandEnds
  split
  · split
    · exact State.onlyCools_of_hsc rfl rfl rfl
    · exact s.fanOff_onlyCools
  · exact s.onlyCools_refl

theorem State.followFan_onlyCools (s : State) (entered : Phase) : s.onlyCools (s.followFan entered) := by
  unfold State.followFan
  split
  · exact s.fanOn_onlyCools
  · exact s.fanOn_onlyCools
  · exact s.fanOn_onlyCools
  · exact s.fanOn_onlyCools
  · exact s.fanDemandEnds_onlyCools
  · exact s.fanDemandEnds_onlyCools
  · exact s.fanDemandEnds_onlyCools
  · split
    · split
      · exact s.fanOn_onlyCools
      · exact s.fanOff_onlyCools
    · exact s.fanOff_onlyCools
  · exact s.onlyCools_refl

theorem State.followAirflow_onlyCools (s : State) (left entered : Phase) : s.onlyCools (s.followAirflow left entered) := by
  unfold State.followAirflow
  refine State.onlyCools_of_hsc ?_ ?_ ?_ <;> (dsimp only; repeat' split) <;> rfl

theorem State.followHeat_onlyCools (s : State) (left entered : Phase) (h : entered ≠ .service) :
    s.onlyCools (s.followHeat left entered) := by
  unfold State.followHeat
  dsimp only
  rw [if_neg h]
  generalize hv : State.mk s.pending .. = v
  have scheduled : s.onlyCools v := by subst hv; exact State.onlyCools_of_hsc rfl rfl rfl
  exact State.onlyCools_enforce (State.onlyCools_trans (State.onlyCools_trans (State.onlyCools_enforce scheduled)
    (State.followFan_onlyCools ..)) (State.followAirflow_onlyCools ..))

/-- The heat stage controller stands, and an operation on it follows. -/
theorem State.onlyCools_after {s t u : State} (h : t.onlyCools u) (hsc : t.hsc = s.hsc) : s.onlyCools u :=
  State.onlyCools_trans (State.onlyCools_of_eq hsc) h

/-! ### The drum and the tangle monitor at the heater (R50, R70, R84, R89) -/

theorem State.refreshCapFlag_onlyCools (s : State) : s.onlyCools s.refreshCapFlag := by
  unfold State.refreshCapFlag
  dsimp only
  split
  · exact s.onlyCools_refl
  · exact State.onlyCools_after (State.setTangleCap_onlyCools ..) rfl

theorem State.burstEnded_onlyCools (s : State) : s.onlyCools s.burstEnded := by
  unfold State.burstEnded
  split
  · exact State.onlyCools_after (State.refreshCapFlag_onlyCools _) rfl
  · exact s.onlyCools_refl

theorem State.followTangle_onlyCools (s : State) (left entered : Phase) : s.onlyCools (s.followTangle left entered) := by
  unfold State.followTangle
  split
  · exact State.onlyCools_of_eq rfl
  · exact State.onlyCools_after (State.refreshCapFlag_onlyCools _) rfl
  · exact State.onlyCools_after (State.refreshCapFlag_onlyCools _) rfl
  · exact s.onlyCools_refl

theorem State.clearTurning_onlyCools (s : State) : s.onlyCools s.clearTurning := by
  unfold State.clearTurning
  split
  · exact State.onlyCools_after (State.heatTurningEnds_onlyCools _) rfl
  · exact s.onlyCools_refl

/-- A change of the drum alone, and the turning report after it. -/
theorem State.onlyCools_clearTurning {s t : State} (hsc : t.hsc = s.hsc) : s.onlyCools t.clearTurning :=
  State.onlyCools_after t.clearTurning_onlyCools hsc

theorem State.enterRest_onlyCools (s : State) (target : Motion) (empty : Bool) : s.onlyCools (s.enterRest target empty) :=
  State.onlyCools_clearTurning (by simp)

theorem State.enterStarting_onlyCools (s : State) (d : Dir) (v : Nat) : s.onlyCools (s.enterStarting d v) :=
  State.onlyCools_clearTurning rfl

theorem State.idleDrum_onlyCools (s : State) : s.onlyCools s.idleDrum := State.onlyCools_clearTurning (by simp)

theorem State.restDrum_onlyCools (s : State) : s.onlyCools s.restDrum := by
  unfold State.restDrum
  split
  · exact State.onlyCools_of_eq rfl
  · exact s.enterRest_onlyCools ..

theorem State.actStep_onlyCools (s : State) (c : CurrentStep) : s.onlyCools (s.actStep c) := by
  have step (c : CurrentStep) (r : Option Nat) : s.onlyCools (s.setStep c r) := State.onlyCools_of_eq rfl
  unfold State.actStep
  split
  · exact State.onlyCools_trans (step ..) (State.restDrum_onlyCools _)
  · split
    · dsimp only
      split
      · exact State.onlyCools_of_eq rfl
      · exact State.onlyCools_trans (step ..) (State.enterStarting_onlyCools ..)
    · exact State.onlyCools_trans (step ..) (State.restDrum_onlyCools _)

theorem State.beginStep_onlyCools (s : State) (k : Nat) : s.onlyCools (s.beginStep k) := by
  unfold State.beginStep
  split
  · exact s.onlyCools_refl
  · split
    · exact s.onlyCools_refl
    · exact State.onlyCools_after (State.actStep_onlyCools ..) rfl

theorem State.startPattern_onlyCools (s : State) (q : Nat) : s.onlyCools (s.startPattern q) := by
  unfold State.startPattern
  dsimp only
  split
  · exact State.onlyCools_after (State.restDrum_onlyCools _) rfl
  · exact State.onlyCools_after (State.beginStep_onlyCools ..) rfl

theorem State.abandonBurst_onlyCools (s : State) : s.onlyCools s.abandonBurst := by
  unfold State.abandonBurst
  split
  · exact State.onlyCools_after (State.burstEnded_onlyCools _) rfl
  · exact s.onlyCools_refl

theorem State.motionDemand_onlyCools (s : State) (left entered : Phase) : s.onlyCools (s.motionDemand left entered) := by
  unfold State.motionDemand
  split
  · exact s.startPattern_onlyCools _
  · exact s.onlyCools_refl
  · split
    · exact s.startPattern_onlyCools _
    · exact s.onlyCools_refl
  · exact s.startPattern_onlyCools _
  · exact State.onlyCools_after (State.restDrum_onlyCools _) rfl
  · exact s.idleDrum_onlyCools
  · exact s.idleDrum_onlyCools
  · exact s.idleDrum_onlyCools
  · split
    · split
      · exact s.startPattern_onlyCools _
      · exact s.idleDrum_onlyCools
    · exact s.idleDrum_onlyCools

theorem State.followDrum_onlyCools (s : State) (left entered : Phase) : s.onlyCools (s.followDrum left entered) :=
  State.onlyCools_trans s.abandonBurst_onlyCools (State.motionDemand_onlyCools ..)

/-! ### The phase change, block by block (R122, log entry 11) -/

/-- The front end and the estimator have followed a phase change. -/
def State.afterFront (s : State) (p : Phase) : State :=
  ({ s with csq := s.csq.setPhase p }.followFront p).followDry s.csq.phase p

/-- The drum and the tangle monitor have followed too. -/
def State.afterDrum (s : State) (p : Phase) : State :=
  ((s.afterFront p).followDrum s.csq.phase p).followTangle s.csq.phase p

theorem State.changePhase_eq (s : State) (p : Phase) (c : Cause) :
    s.changePhase p c = ((if p = .done then ((s.afterDrum p).followHeat s.csq.phase p).wearSave
      else (s.afterDrum p).followHeat s.csq.phase p).offerPhase s.csq.phase p c).notifyBoth (.phase p c) := rfl

@[simp] theorem State.afterFront_frame (s : State) (p : Phase) : (s.afterFront p).pending = s.pending ∧
    (s.afterFront p).boot = s.boot ∧ (s.afterFront p).clock = s.clock ∧ (s.afterFront p).resetTime = s.resetTime ∧
    (s.afterFront p).pins = s.pins ∧ (s.afterFront p).mfe = (s.followFront p).mfe ∧ (s.afterFront p).dmc = s.dmc ∧
    (s.afterFront p).tgm = s.tgm ∧ (s.afterFront p).hsc = s.hsc ∧ (s.afterFront p).csq = s.csq.setPhase p ∧
    (s.afterFront p).sst = s.sst := by
  simp [State.afterFront]
  unfold State.followFront
  dsimp only
  split <;> rfl

@[simp] theorem State.afterDrum_frame (s : State) (p : Phase) : (s.afterDrum p).pending = s.pending ∧
    (s.afterDrum p).boot = s.boot ∧ (s.afterDrum p).clock = s.clock ∧ (s.afterDrum p).resetTime = s.resetTime ∧
    (s.afterDrum p).pins = s.pins ∧ (s.afterDrum p).mfe = (s.followFront p).mfe ∧
    (s.afterDrum p).dry = (s.afterFront p).dry ∧ (s.afterDrum p).dmc = ((s.afterFront p).followDrum s.csq.phase p).dmc ∧
    (s.afterDrum p).csq = s.csq.setPhase p ∧ (s.afterDrum p).sst = s.sst ∧
    (s.afterDrum p).linkA = (s.afterFront p).linkA ∧ (s.afterDrum p).linkS = (s.afterFront p).linkS := by
  simp [State.afterDrum]

theorem State.changePhase_mfe (s : State) (p : Phase) (c : Cause) : (s.changePhase p c).mfe = (s.followFront p).mfe := by
  rw [s.changePhase_eq]; split <;> simp

theorem State.changePhase_dry (s : State) (p : Phase) (c : Cause) : (s.changePhase p c).dry = (s.afterFront p).dry := by
  rw [s.changePhase_eq]; split <;> simp

theorem State.changePhase_dmc (s : State) (p : Phase) (c : Cause) :
    (s.changePhase p c).dmc = ((s.afterFront p).followDrum s.csq.phase p).dmc := by
  rw [s.changePhase_eq]; split <;> simp

theorem State.changePhase_hsc (s : State) (p : Phase) (c : Cause) :
    (s.changePhase p c).hsc = ((s.afterDrum p).followHeat s.csq.phase p).hsc := by
  rw [s.changePhase_eq]; split <;> simp

theorem State.changePhase_sst (s : State) (p : Phase) (c : Cause) (h : p ≠ .done) : (s.changePhase p c).sst = s.sst := by
  rw [s.changePhase_eq, if_neg h]; simp

theorem State.endContactOnLeaving_recorded (s : State) : s.recorded s.endContactOnLeaving := by
  unfold State.endContactOnLeaving
  split
  · exact s.recorded_refl
  · exact s.endContact_recorded _

theorem State.followDry_recorded (s : State) (left p : Phase) : s.recorded (s.followDry left p) := by
  have discards (s : State) : s.recorded (if left = .drying then s.discardWindow else s) := by
    split
    · exact State.recorded_of_links (by simp) (by simp)
    · exact s.recorded_refl
  have leaves (s : State) : s.recorded (if s.mfe.mode = .onRequest then s.endContactOnLeaving else s) := by
    split
    · exact s.endContactOnLeaving_recorded
    · exact s.recorded_refl
  have starts (s : State) : s.recorded (if p = .drying then s.startWindow else s) := by
    split
    · exact State.recorded_of_links (by simp) (by simp)
    · exact s.recorded_refl
  exact State.recorded_trans (State.recorded_trans (discards s) (leaves _)) (starts _)

theorem State.changePhase_recorded (s : State) (p : Phase) (c : Cause) : s.recorded (s.changePhase p c) := by
  rw [s.changePhase_eq]
  refine State.recorded_trans ?_ (State.notifyBoth_recorded ..)
  refine State.recorded_trans ?_ (State.offerAround_recorded ..)
  have front : s.recorded (s.afterFront p) :=
    State.recorded_trans (State.recorded_of_links (by simp) (by simp)) (State.followDry_recorded ..)
  refine State.recorded_trans front ?_
  split <;> exact State.recorded_of_links (by simp) (by simp)

theorem State.changePhase_onlyCools (s : State) (p : Phase) (c : Cause) (h : p ≠ .service) :
    s.onlyCools (s.changePhase p c) := by
  refine State.onlyCools_trans (t := (s.afterDrum p).followHeat s.csq.phase p) ?_
    (State.onlyCools_of_eq (s.changePhase_hsc p c))
  refine State.onlyCools_trans ?_ (State.followHeat_onlyCools _ _ _ h)
  refine State.onlyCools_trans ?_ (State.followTangle_onlyCools ..)
  exact State.onlyCools_after (State.followDrum_onlyCools ..) (by simp)

theorem State.wearSave_sst (s : State) :
    s.wearSave.sst = { s.sst with engine := s.wearSave.sst.engine, wearPending := s.wearSave.sst.wearPending } := by
  unfold State.wearSave
  split <;> rfl

/-! ### What no change of phase, fault or hold touches -/

/-- From `s` to `t` the frame of R9 to R13 is kept: what is outside the blocks, the working copies and on-times; records
and notices come in on the links, and no waiting TAKE_CONTROL but one that `s` held has been answered. -/
structure State.carries (s t : State) : Prop where
  outer : s.outerFrame t
  take : t.csq.pendingTake = true → s.csq.pendingTake = true
  ring : ∀ l, (s.link l).ringGrows (t.link l)
  talk : ∀ l, (s.csq.pendingTake = true → l = .a) → (s.link l).sameTalk (t.link l)

theorem State.outerFrame_trans {s t u : State} (h : s.outerFrame t) (h' : t.outerFrame u) : s.outerFrame u := by
  obtain ⟨p, b, c, r, i, x, y, z, v, o⟩ := h
  obtain ⟨p', b', c', r', i', x', y', z', v', o'⟩ := h'
  exact ⟨p'.trans p, b'.trans b, c'.trans c, r'.trans r, i'.trans i, x'.trans x, y'.trans y, z'.trans z, v'.trans v,
    fun n => (o' n).trans (o n)⟩

theorem State.carries_refl (s : State) : s.carries s where
  outer := ⟨rfl, rfl, rfl, rfl, rfl, rfl, rfl, rfl, rfl, fun _ => rfl⟩
  take := id
  ring _ := LinkState.ringGrows_refl _
  talk _ _ := rfl

theorem State.carries_trans {s t u : State} (h : s.carries t) (h' : t.carries u) : s.carries u where
  outer := State.outerFrame_trans h.outer h'.outer
  take := h.take ∘ h'.take
  ring l := LinkState.ringGrows_trans (h.ring l) (h'.ring l)
  talk l only := LinkState.sameTalk_trans (h.talk l only) (h'.talk l (only ∘ h.take))

/-- An operation that takes in no more than records and notices on the links. -/
theorem State.carries_of_recorded {s t : State} (link : s.recorded t) (outer : s.outerFrame t)
    (take : t.csq.pendingTake = true → s.csq.pendingTake = true) : s.carries t :=
  ⟨outer, take, fun l => (link.link l).2, fun l _ => (link.link l).1⟩

theorem State.outerFrame_of_hsc {s t : State} (pending : t.pending = s.pending) (boot : t.boot = s.boot)
    (clock : t.clock = s.clock) (resetTime : t.resetTime = s.resetTime) (pins : t.pins = s.pins) (sst : t.sst = s.sst)
    (onTime : ∀ n : StageNo, (t.stage n).onTime = (s.stage n).onTime) : s.outerFrame t :=
  ⟨pending, boot, clock, resetTime, pins, by rw [sst], by rw [sst], by rw [sst], by rw [sst], onTime⟩

theorem State.changePhase_carries (s : State) (p : Phase) (c : Cause) (h : p ≠ .service) :
    s.carries (s.changePhase p c) := by
  refine State.carries_of_recorded (s.changePhase_recorded p c) ?_ (by rw [State.changePhase_csq]; exact id)
  have onTime := (s.changePhase_onlyCools p c h).onTime
  by_cases done : p = .done
  · have sst : (s.changePhase p c).sst = ((s.afterDrum p).followHeat s.csq.phase p).wearSave.sst := by
      rw [s.changePhase_eq, if_pos done]; simp
    rw [State.wearSave_sst] at sst
    exact ⟨by simp, by simp, by simp, by simp, by simp, by rw [sst]; simp, by rw [sst]; simp, by rw [sst]; simp,
      by rw [sst]; simp, onTime⟩
  · exact State.outerFrame_of_hsc (by simp) (by simp) (by simp) (by simp) (by simp) (s.changePhase_sst p c done) onTime

/-- The sequencer's own fields change. -/
theorem State.carries_csq (s : State) {c : Csq} (take : c.pendingTake = true → s.csq.pendingTake = true) :
    s.carries { s with csq := c } :=
  State.carries_of_recorded (t := { s with csq := c }) (State.recorded_of_links rfl rfl)
    ⟨rfl, rfl, rfl, rfl, rfl, rfl, rfl, rfl, rfl, fun _ => rfl⟩ take

theorem State.notifyBoth_carries (s : State) (n : Notice) : s.carries (s.notifyBoth n) :=
  State.carries_of_recorded (s.notifyBoth_recorded n) (by simp [State.outerFrame, State.stage]) (by simp)

/-! ### A change of phase at the front end, and a change without one (R1, R122) -/

/-- The phase stands, and with it the front end; no record is made. -/
structure State.stays (s t : State) : Prop where
  phase : t.csq.phase = s.csq.phase
  mfe : t.mfe = s.mfe
  records : s.sameRecords t

/-- The phase has changed, once, and the front end has followed it. -/
structure State.moves (s t : State) : Prop where
  phase : t.csq.phase ≠ s.csq.phase
  mfe : t.mfe = (s.followFront t.csq.phase).mfe

theorem State.stays_refl (s : State) : s.stays s := ⟨rfl, rfl, s.sameRecords_refl⟩

theorem State.stays_trans {s t u : State} (h : s.stays t) (h' : t.stays u) : s.stays u :=
  ⟨h'.phase.trans h.phase, h'.mfe.trans h.mfe, State.sameRecords_trans h.records h'.records⟩

theorem State.followFront_mfe_congr {s t : State} (clock : t.clock = s.clock) (mfe : t.mfe = s.mfe) (p : Phase) :
    (t.followFront p).mfe = (s.followFront p).mfe := by
  unfold State.followFront
  rw [clock, mfe]
  split <;> simp [mfe]

theorem State.moves_after {s t u : State} (phase : t.csq.phase = s.csq.phase) (mfe : t.mfe = s.mfe)
    (clock : t.clock = s.clock) (h : t.moves u) : s.moves u :=
  ⟨phase ▸ h.phase, h.mfe.trans (State.followFront_mfe_congr clock mfe _)⟩

theorem State.moves_before {s t u : State} (h : s.moves t) (phase : u.csq.phase = t.csq.phase) (mfe : u.mfe = t.mfe) :
    s.moves u := ⟨phase ▸ h.phase, by rw [mfe, phase, h.mfe]⟩

theorem State.changePhase_moves {s : State} {p : Phase} (c : Cause) (h : p ≠ s.csq.phase) :
    s.moves (s.changePhase p c) := by
  have phase : (s.changePhase p c).csq.phase = p := by rw [State.changePhase_csq]; rfl
  exact ⟨by rw [phase]; exact h, by rw [phase, State.changePhase_mfe]⟩

theorem State.notifyBoth_stays (s : State) (n : Notice) : s.stays (s.notifyBoth n) :=
  ⟨by simp, by simp, s.notifyBoth_sameRecords n⟩

/-! ### Faults and the ends of the phases (R105 to R108, R117 to R119, R125) -/

theorem State.dropTestDemands_onlyCools (s : State) : s.onlyCools s.dropTestDemands where
  onTime n := by rw [State.dropTestDemands]; dsimp only [State.stage]; rw [Quad.get_map]
  on n := by rw [State.dropTestDemands]; dsimp only [State.stage]; rw [Quad.get_map]; exact id
  lockout := rfl
  stuckArmed := rfl

/-- The sequencer once manual control has ended. -/
def Csq.afterService (c : Csq) : Csq :=
  { c with
    owner := none, silenceDue := none, stageTimers := ⟨none, none, none, none⟩, fanTimer := none
    drumTimer := none, pendingTake := false }

/-- The end of manual control, and the answer to a waiting TAKE_CONTROL. -/
theorem State.endService_eq (s : State) : s.endService =
    if s.csq.pendingTake then
      State.answerStatus { s.dropTestDemands with csq := s.csq.afterService } .s Request.takeControl.kind .wrongPhase
    else { s.dropTestDemands with csq := s.csq.afterService } := rfl

theorem State.endService_hsc (s : State) : s.endService.hsc = s.dropTestDemands.hsc := by
  rw [s.endService_eq]; split <;> simp [State.answerStatus]

theorem State.endService_csq (s : State) : s.endService.csq = s.csq.afterService := by
  rw [s.endService_eq]; split <;> simp [State.answerStatus]

theorem State.endService_onlyCools (s : State) : s.onlyCools s.endService :=
  State.onlyCools_trans s.dropTestDemands_onlyCools (State.onlyCools_of_eq s.endService_hsc)

theorem LinkState.placeReply_ringGrows (x : LinkState) (f : Frame) : x.ringGrows (x.placeReply f) := by
  unfold LinkState.placeReply
  split <;> exact LinkState.ringGrows_of_eq rfl rfl

theorem State.endService_carries (s : State) : s.carries s.endService where
  outer := State.outerFrame_of_hsc (by simp) (by simp) (by simp) (by simp) (by simp) (by simp) s.endService_onlyCools.onTime
  take := by rw [s.endService_csq]; exact fun h => absurd h Bool.false_ne_true
  ring l := by
    have drops : State.link { s.dropTestDemands with csq := s.csq.afterService } l = s.link l := by cases l <;> rfl
    rw [s.endService_eq]
    split
    · cases l
      · rw [State.answerStatus, State.link_answer_other _ _ _ _ _ _ (by decide), drops]; exact LinkState.ringGrows_refl _
      · rw [State.answerStatus, State.answer, State.link_modLink_same, drops]; exact LinkState.placeReply_ringGrows _ _
    · rw [drops]; exact LinkState.ringGrows_refl _
  talk l only := by
    have drops : State.link { s.dropTestDemands with csq := s.csq.afterService } l = s.link l := by cases l <;> rfl
    rw [s.endService_eq]
    split
    · next waits => rw [only waits, State.answerStatus, State.link_answer_other _ _ _ _ _ _ (by decide)]; rfl
    · rw [drops]; rfl

theorem State.modRecord_carries (s : State) (f : CycleRecord → CycleRecord) : s.carries (s.modRecord f) :=
  s.carries_csq (c := { s.csq with record := f s.csq.record }) id

theorem State.modRecord_stays (s : State) (f : CycleRecord → CycleRecord) : s.stays (s.modRecord f) :=
  ⟨rfl, rfl, State.sameRecords_of_links rfl rfl rfl rfl⟩

theorem State.countFault_csq (s : State) : s.countFault.csq = { s.csq with record := { s.csq.record with
    fault := s.csq.record.fault.map fun f => { f with extra := satSucc 255 f.extra } } } := by
  unfold State.countFault
  split
  · next none => rw [none]; cases h : s.csq; cases h' : s.csq.record; simp_all
  · next f some => simp [State.modRecord, some]

theorem State.countFault_stays (s : State) : s.stays s.countFault := by
  unfold State.countFault
  split
  · exact s.stays_refl
  · exact State.stays_trans (s.modRecord_stays _) (State.notifyBoth_stays _ _)

theorem State.countFault_carries (s : State) : s.carries s.countFault := by
  unfold State.countFault
  split
  · exact s.carries_refl
  · exact State.carries_trans (s.modRecord_carries _) (State.notifyBoth_carries _ _)

theorem State.driveInFault_carries (s : State) (before : Motion) : s.carries (s.driveInFault before) := by
  unfold State.driveInFault
  split
  · exact s.countFault_carries
  · exact s.carries_refl

theorem State.driveInFault_stays (s : State) (before : Motion) : s.stays (s.driveInFault before) := by
  unfold State.driveInFault
  split
  · exact s.countFault_stays
  · exact s.stays_refl

theorem State.motionDemand_carries (s : State) (left entered : Phase) : s.carries (s.motionDemand left entered) :=
  State.carries_of_recorded (State.recorded_of_links (by simp) (by simp)) (State.outerFrame_of_hsc (by simp) (by simp)
    (by simp) (by simp) (by simp) (by simp) (s.motionDemand_onlyCools ..).onTime) (by simp)

theorem State.followFan_carries (s : State) (p : Phase) : s.carries (s.followFan p) :=
  State.carries_of_recorded (State.recorded_of_links (by simp) (by simp)) (State.outerFrame_of_hsc (by simp) (by simp)
    (by simp) (by simp) (by simp) (by simp) (s.followFan_onlyCools _).onTime) (by simp)

theorem State.replaceFault_carries (s : State) (f : FaultRecord) : s.carries (s.replaceFault f) := by
  unfold State.replaceFault
  dsimp only
  refine State.carries_trans ?_ (State.driveInFault_carries _ _)
  refine State.carries_trans ?_ (State.notifyBoth_carries _ _)
  exact State.carries_trans (State.carries_trans (s.modRecord_carries _) (State.motionDemand_carries _ _ _))
    (State.followFan_carries _ _)

theorem State.replaceFault_stays (s : State) (f : FaultRecord) : s.stays (s.replaceFault f) := by
  have drum (v : State) : v.stays ((v.motionDemand .fault .fault).followFan .fault) :=
    ⟨by simp, by simp, State.sameRecords_of_links (by simp) (by simp) (by simp) (by simp)⟩
  unfold State.replaceFault
  dsimp only
  refine State.stays_trans ?_ (State.driveInFault_stays _ _)
  refine State.stays_trans ?_ (State.notifyBoth_stays _ _)
  exact State.stays_trans (s.modRecord_stays _) (drum _)

theorem State.faultInFault_carries (s : State) (k : FaultKind) : s.carries (s.faultInFault k) := by
  unfold State.faultInFault
  split
  · exact s.carries_refl
  · split
    · exact s.replaceFault_carries _
    · exact s.countFault_carries

theorem State.faultInFault_stays (s : State) (k : FaultKind) : s.stays (s.faultInFault k) := by
  unfold State.faultInFault
  split
  · exact s.stays_refl
  · split
    · exact s.replaceFault_stays _
    · exact s.countFault_stays

/-- What entry into FAULT sets before the phase changes: manual control ends, and the record is taken. -/
def State.beforeFault (s : State) (k : FaultKind) : State :=
  let v := if s.csq.phase = .service then s.endService else s
  State.modRecord { v with csq := v.csq.clearForFault }
    fun c => { c with fault := some { kind := k, phase := s.csq.phase, time := v.refTime, extra := 0 } }

theorem State.enterFault_eq (s : State) (k : FaultKind) : s.enterFault k =
    (((s.beforeFault k).changePhase .fault .fault).notifyBoth (.fault k s.csq.phase 0)).driveInFault s.dmc.motion := rfl

theorem State.beforeFault_csq (s : State) (k : FaultKind) : (s.beforeFault k).csq =
    let c := (if s.csq.phase = .service then s.csq.afterService else s.csq).clearForFault
    { c with record := { c.record with
        fault := some { kind := k, phase := s.csq.phase, time := s.refTime, extra := 0 } } } := by
  unfold State.beforeFault
  split
  · simp [State.modRecord, State.endService_csq, State.refTime]
  · rfl

@[simp] theorem State.beforeFault_frame (s : State) (k : FaultKind) : (s.beforeFault k).pending = s.pending ∧
    (s.beforeFault k).boot = s.boot ∧ (s.beforeFault k).clock = s.clock ∧ (s.beforeFault k).resetTime = s.resetTime ∧
    (s.beforeFault k).pins = s.pins ∧ (s.beforeFault k).mfe = s.mfe ∧ (s.beforeFault k).dry = s.dry ∧
    (s.beforeFault k).dmc = s.dmc ∧ (s.beforeFault k).tgm = s.tgm ∧ (s.beforeFault k).cap = s.cap ∧
    (s.beforeFault k).sst = s.sst ∧ (s.beforeFault k).csq.phase = s.csq.phase := by
  unfold State.beforeFault
  split <;> simp [State.modRecord, Csq.clearForFault, State.endService_csq, Csq.afterService]

theorem State.beforeFault_onlyCools (s : State) (k : FaultKind) : s.onlyCools (s.beforeFault k) := by
  unfold State.beforeFault
  split
  · exact State.onlyCools_trans s.endService_onlyCools (State.onlyCools_of_eq rfl)
  · exact State.onlyCools_of_eq rfl

theorem State.beforeFault_carries (s : State) (k : FaultKind) : s.carries (s.beforeFault k) := by
  have record (v : State) (f : CycleRecord → CycleRecord) :
      v.carries (State.modRecord { v with csq := v.csq.clearForFault } f) :=
    State.carries_trans (v.carries_csq (c := v.csq.clearForFault) id) (State.modRecord_carries _ _)
  unfold State.beforeFault
  split
  · exact State.carries_trans s.endService_carries (record _ _)
  · exact record _ _

theorem State.enterFault_carries (s : State) (k : FaultKind) : s.carries (s.enterFault k) := by
  rw [s.enterFault_eq]
  refine State.carries_trans ?_ (State.driveInFault_carries _ _)
  exact State.carries_trans (State.carries_trans (s.beforeFault_carries k)
    (State.changePhase_carries _ .fault .fault (by decide))) (State.notifyBoth_carries _ _)

theorem State.enterFault_moves (s : State) (k : FaultKind) (h : s.csq.phase ≠ .fault) : s.moves (s.enterFault k) := by
  have enters : s.moves ((s.beforeFault k).changePhase .fault .fault) :=
    State.moves_after (by simp) (by simp) (by simp) (State.changePhase_moves .fault (by simpa using h.symm))
  rw [s.enterFault_eq]
  exact State.moves_before enters (by rw [(State.driveInFault_stays _ _).phase]; simp) (by simp)

theorem State.takeFault_carries (s : State) (k : FaultKind) : s.carries (s.takeFault k) := by
  unfold State.takeFault
  split
  · exact s.faultInFault_carries k
  · exact s.enterFault_carries k

theorem State.takeFault_front (s : State) (k : FaultKind) : s.stays (s.takeFault k) ∨ s.moves (s.takeFault k) := by
  unfold State.takeFault
  split
  · exact .inl (s.faultInFault_stays k)
  · next h => exact .inr (s.enterFault_moves k h)

theorem State.enterDone_carries (s : State) (c : Cause) : s.carries (s.enterDone c) :=
  State.carries_trans (s.carries_csq (c := s.csq.clearForDone) id) (State.changePhase_carries _ .done c (by decide))

theorem State.enterGuard_carries (s : State) (c : Cause) : s.carries (s.enterGuard c) :=
  State.carries_trans (s.carries_csq (c := { s.csq with guardMs := 0 }) id) (State.changePhase_carries _ .guard c (by decide))

theorem State.endCooling_carries (s : State) (c : Cause) : s.carries (s.endCooling c) := by
  unfold State.endCooling
  split
  · exact s.enterGuard_carries c
  · exact s.enterDone_carries c

theorem State.endCooling_moves (s : State) (c : Cause) (h : s.csq.phase = .cooling) : s.moves (s.endCooling c) := by
  have enters (v : Csq) (same : v.phase = s.csq.phase) (p : Phase) (other : p ≠ .cooling) :
      s.moves ({ s with csq := v }.changePhase p c) :=
    State.moves_after (t := { s with csq := v }) same rfl rfl (State.changePhase_moves c (by rw [same, h]; exact other))
  unfold State.endCooling
  split
  · exact enters { s.csq with guardMs := 0 } rfl .guard (by decide)
  · exact enters s.csq.clearForDone rfl .done (by decide)

theorem State.setEnd_carries (s : State) (r : EndReason) : s.carries (s.setEnd r) := s.modRecord_carries _

theorem State.endDrying_carries (s : State) (r : EndReason) : s.carries (s.endDrying r) := by
  unfold State.endDrying
  split
  · exact State.carries_trans (s.setEnd_carries r) (State.changePhase_carries _ .cooling _ (by decide))
  · exact s.carries_refl

theorem State.endDrying_front (s : State) (r : EndReason) : s.stays (s.endDrying r) ∨ s.moves (s.endDrying r) := by
  unfold State.endDrying
  split
  · next drying =>
    exact .inr (State.moves_after (t := s.setEnd r) rfl rfl rfl
      (State.changePhase_moves _ (by rw [show (s.setEnd r).csq.phase = s.csq.phase from rfl, drying]; decide)))
  · exact .inl s.stays_refl

/-! ### Values offered to the watch units (R110, R136 to R138) -/

theorem State.enterHold_carries (s : State) (r : HoldReason) : s.carries (s.enterHold r) :=
  State.carries_trans (State.carries_trans (s.carries_csq (c := s.csq.forHold r (s.clock + 60000 * s.holdLimit)) id)
    (State.changePhase_carries _ .hold (.held r) (by decide))) (State.notifyBoth_carries _ _)

theorem State.joinHold_carries (s : State) (r : HoldReason) : s.carries (s.joinHold r) := by
  unfold State.joinHold
  split
  · exact s.carries_refl
  · exact State.carries_trans (s.carries_csq (c := { s.csq with
      reasons := s.csq.reasons.add r, record := s.csq.record.countTangle r }) id) (State.notifyBoth_carries _ _)

theorem State.takeHoldCause_carries (s : State) (r : HoldReason) : s.carries (s.takeHoldCause r) := by
  unfold State.takeHoldCause
  split
  · exact s.enterHold_carries r
  · exact s.enterHold_carries r
  · exact s.enterHold_carries r
  · exact s.joinHold_carries r
  · split
    · exact s.carries_refl
    · exact s.enterDone_carries _
  all_goals exact s.carries_refl

/-- A hold cause has been judged: the phase stands, or a supervised phase has given way to one that is not supervised. -/
def State.mayHold (s t : State) : Prop :=
  t.csq.phase = s.csq.phase ∧ t.mfe = s.mfe
    ∨ s.csq.phase.supervised = true ∧ t.csq.phase.supervised = false ∧ t.mfe = (s.followFront t.csq.phase).mfe

theorem State.mayHold_refl (s : State) : s.mayHold s := .inl ⟨rfl, rfl⟩

theorem State.mayHold_trans {s t u : State} (clock : t.clock = s.clock) (h : s.mayHold t) (h' : t.mayHold u) : s.mayHold u := by
  rcases h with ⟨phase, mfe⟩ | ⟨left, entered, front⟩
  · rw [State.mayHold, phase, mfe, State.followFront_mfe_congr clock mfe] at h'
    exact h'
  · rcases h' with ⟨phase', mfe'⟩ | ⟨left', -⟩
    · exact .inr ⟨left, by rw [phase']; exact entered, by rw [mfe', phase', front]⟩
    · exact absurd (entered.symm.trans left') Bool.false_ne_true

theorem State.takeHoldCause_mayHold (s : State) (r : HoldReason) : s.mayHold (s.takeHoldCause r) := by
  have holds (supervised : s.csq.phase.supervised = true) : s.mayHold (s.enterHold r) := by
    refine .inr ⟨supervised, by rw [State.enterHold_csq]; rfl, ?_⟩
    rw [State.enterHold_csq, State.enterHold, (State.notifyBoth_frame ..).2.2.2.2.2.1, State.changePhase_mfe]
    exact State.followFront_mfe_congr (by rfl) (by rfl) _
  unfold State.takeHoldCause
  split
  · next h => exact holds (by rw [h]; rfl)
  · next h => exact holds (by rw [h]; rfl)
  · next h => exact holds (by rw [h]; rfl)
  · refine .inl ⟨?_, by simp⟩
    unfold State.joinHold; split <;> simp
  · next h =>
    split
    · exact s.mayHold_refl
    · refine .inr ⟨by rw [h]; rfl, by rw [State.enterDone_csq]; rfl, ?_⟩
      rw [State.enterDone_csq, State.enterDone, State.changePhase_mfe]
      exact State.followFront_mfe_congr (by rfl) (by rfl) _
  all_goals exact s.mayHold_refl

/-! ### Records reach no watch unit -/

theorem State.endCapture_watches (s : State) (u : Fin 3) (why : CaptureEnd) :
    (s.endCapture u why).cap.watches = s.cap.watches := by
  unfold State.endCapture
  dsimp only
  split
  · rfl
  · simp; rfl

theorem State.endCaptures_watches (s : State) (p : Fin 3 → CaptureUnit → Bool) (why : CaptureEnd) :
    (s.endCaptures p why).cap.watches = s.cap.watches :=
  foldl_rel (R := fun s t : State => t.cap.watches = s.cap.watches) (fun _ => rfl) (fun _ _ _ h h' => h'.trans h)
    (fun s u => by
      split
      · exact s.endCapture_watches u why
      · rfl) three s

theorem State.modTakers_watches (s : State) (mine : Triple Bool) (f : CaptureUnit → CaptureUnit) :
    (s.modTakers mine f).cap.watches = s.cap.watches :=
  foldl_rel (R := fun s t : State => t.cap.watches = s.cap.watches) (fun _ => rfl) (fun _ _ _ h h' => h'.trans h)
    (fun s u => by split <;> rfl) three s

theorem State.takeFor_watches (s : State) (l : Link) (mine : Triple Bool) (r : Record) :
    (s.takeFor l mine r).cap.watches = s.cap.watches := by
  unfold State.takeFor
  dsimp only
  rw [State.endCaptures_watches]
  split
  · rw [State.endCaptures_watches, State.modTakers_watches, State.modTakers_watches]; simp
  · simp [State.modTakers_watches]

theorem State.offerRecord_watches (s : State) (r : Record) : (s.offerRecord r).cap.watches = s.cap.watches := by
  unfold State.offerRecord
  dsimp only
  split
  · rw [State.takeFor_watches]
    split
    · rw [State.takeFor_watches]
    · rfl
  · split
    · rw [State.takeFor_watches]
    · rfl

theorem State.offerAround_watches (s : State) (starts : StartCond → Bool) (ends : EndCond → Bool) (why : CaptureEnd)
    (r : Record) : (s.offerAround starts ends why r).cap.watches = s.cap.watches := by
  unfold State.offerAround
  dsimp only
  rw [State.endCaptures_watches, State.offerRecord_watches]
  rfl

/-! ### A value at the watch units, as a whole (R136 to R138) -/

/-- No watch unit of `t` is armed that is not in `s` with the same settings. -/
def State.armsLess (s t : State) : Prop :=
  ∀ w : Fin 4, (t.watch w).state = .armed → (s.watch w).state = .armed ∧ (t.watch w).settings = (s.watch w).settings

theorem State.armsLess_of_watches {s t : State} (h : t.cap.watches = s.cap.watches) : s.armsLess t := fun w armed => by
  have same : t.watch w = s.watch w := by rw [State.watch, State.watch, h]
  rw [same] at armed ⊢
  exact ⟨armed, rfl⟩

theorem State.noHoldWatch_of_armsLess {s t : State} (h : s.armsLess t) (no : s.noHoldWatch) : t.noHoldWatch :=
  fun w armed => by
    obtain ⟨was, settings⟩ := h w armed
    rw [settings]; exact no w was

theorem State.noWatch_of_armsLess {s t : State} (h : s.armsLess t) (no : s.noWatch) : t.noWatch :=
  fun w armed => no w (h w armed).1

theorem WatchUnit.judge_armed (x : WatchUnit) (c : WatchSettings) (v : Int) :
    (x.judge c v).1.settings = x.settings ∧ ((x.judge c v).1.state = .armed → x.state = .armed) := by
  unfold WatchUnit.judge
  dsimp only
  split
  · split
    · exact ⟨rfl, nofun⟩
    · exact ⟨rfl, id⟩
  · exact ⟨rfl, id⟩

/-- Only the capture pool, the watch units and the links have changed, and no unit has been armed. -/
structure State.observes (s t : State) : Prop where
  frame : t = { s with cap := t.cap, linkA := t.linkA, linkS := t.linkS }
  armed : s.armsLess t

theorem State.observes_refl (s : State) : s.observes s := ⟨rfl, State.armsLess_of_watches rfl⟩

theorem State.observes_trans {s t u : State} (h : s.observes t) (h' : t.observes u) : s.observes u where
  frame := by rw [h'.frame, h.frame]
  armed w armed := by
    obtain ⟨was, settings⟩ := h'.armed w armed
    obtain ⟨was', settings'⟩ := h.armed w was
    exact ⟨was', settings.trans settings'⟩

theorem State.offerRecord_observes (s : State) (r : Record) : s.observes (s.offerRecord r) :=
  ⟨by apply State.ext_blocks <;> simp, State.armsLess_of_watches (s.offerRecord_watches r)⟩

theorem State.offerAround_observes (s : State) (starts : StartCond → Bool) (ends : EndCond → Bool) (why : CaptureEnd)
    (r : Record) : s.observes (s.offerAround starts ends why r) :=
  ⟨by apply State.ext_blocks <;> simp, State.armsLess_of_watches (s.offerAround_watches starts ends why r)⟩

theorem State.notify_observes (s : State) (l : Link) (n : Notice) : s.observes (s.notify l n) :=
  ⟨by apply State.ext_blocks <;> simp, State.armsLess_of_watches (by simp)⟩

theorem State.setWatch_observes (s : State) (w : Fin 4) (x : WatchUnit)
    (h : x.state = .armed → (s.watch w).state = .armed ∧ x.settings = (s.watch w).settings) : s.observes (s.setWatch w x) where
  frame := rfl
  armed v armed := by
    by_cases e : v = w
    · subst e; rw [State.watch_setWatch_same] at *; exact h armed
    · rw [State.watch_setWatch_other _ _ _ _ e] at *; exact ⟨armed, rfl⟩

/-- A hit with an action other than HOLD stays with the links. -/
theorem State.watchAction_observes (s : State) (w : Fin 4) (action : WatchAction) (v : Int) (h : action ≠ .hold) :
    s.observes (s.watchAction w action v) := by
  unfold State.watchAction
  dsimp only
  split
  · exact s.observes_refl
  · split
    · exact s.observes_refl
    · exact s.notify_observes _ _
  · exact absurd rfl h

theorem State.offerTo_observes (s : State) (q : Quantity) (v : Int) (w : Fin 4) (no : s.noHoldWatch) :
    s.observes (s.offerTo q v w) := by
  unfold State.offerTo
  dsimp only
  split
  · exact s.observes_refl
  · next c settings =>
    split
    · next h =>
      obtain ⟨same, armed⟩ := (s.watch w).judge_armed c v
      have judged := s.setWatch_observes w ((s.watch w).judge c v).1 fun a => ⟨armed a, same⟩
      split
      · have action : c.action ≠ .hold := by simpa [settings] using no w h.1
        exact State.observes_trans judged (State.observes_trans (State.offerAround_observes ..)
          (State.watchAction_observes _ _ _ _ action))
      · exact judged
    · exact s.observes_refl

theorem State.offerValue_observes (s : State) (q : Quantity) (v : Int) (no : s.noHoldWatch) :
    s.observes (s.offerValue q v) := by
  have walk (l : List (Fin 4)) (s : State) (no : s.noHoldWatch) : s.observes (l.foldl (fun s w => s.offerTo q v w) s) := by
    induction l generalizing s with
    | nil => exact s.observes_refl
    | cons w ws ih =>
      have first := s.offerTo_observes q v w no
      exact State.observes_trans first (ih _ (State.noHoldWatch_of_armsLess first.armed no))
  exact walk four s no

/-- With no unit armed a value changes nothing. -/
theorem State.offerValue_of_noWatch (s : State) (q : Quantity) (v : Int) (no : s.noWatch) : s.offerValue q v = s := by
  have stands (w : Fin 4) : s.offerTo q v w = s := by
    unfold State.offerTo
    dsimp only
    split
    · rfl
    · exact if_neg fun h => no w h.1
  simp [State.offerValue, four, stands]

/-- What a value can do to the machine: what the phase change leaves, and a HOLD. -/
structure State.offersMade (s t : State) : Prop where
  carries : s.carries t
  front : s.mayHold t

theorem State.offersMade_refl (s : State) : s.offersMade s := ⟨s.carries_refl, s.mayHold_refl⟩

theorem State.offersMade_trans {s t u : State} (h : s.offersMade t) (h' : t.offersMade u) : s.offersMade u := by
  obtain ⟨-, -, clock, -⟩ := h.carries.outer
  exact ⟨State.carries_trans h.carries h'.carries, State.mayHold_trans clock h.front h'.front⟩

theorem State.offersMade_of_observes {s t : State} (h : s.observes t) (link : s.recorded t) : s.offersMade t where
  carries := State.carries_of_recorded link (by rw [h.frame]; exact ⟨rfl, rfl, rfl, rfl, rfl, rfl, rfl, rfl, rfl, fun _ => rfl⟩)
    (by rw [h.frame]; exact id)
  front := by rw [h.frame]; exact .inl ⟨rfl, rfl⟩

theorem State.watchAction_offersMade (s : State) (w : Fin 4) (action : WatchAction) (v : Int) :
    s.offersMade (s.watchAction w action v) := by
  have told : s.offersMade (match (s.watch w).owner with | none => s | some l => s.notify l (.watch w v)) := by
    split
    · exact s.offersMade_refl
    · exact State.offersMade_of_observes (s.notify_observes _ _) (s.notify_recorded _ _)
  unfold State.watchAction
  dsimp only
  split
  · exact s.offersMade_refl
  · exact told
  · split
    · exact State.offersMade_trans told ⟨State.takeHoldCause_carries _ _, State.takeHoldCause_mayHold _ _⟩
    · exact told

theorem State.offerTo_offersMade (s : State) (q : Quantity) (v : Int) (w : Fin 4) : s.offersMade (s.offerTo q v w) := by
  unfold State.offerTo
  dsimp only
  split
  · exact s.offersMade_refl
  · next c settings =>
    split
    · obtain ⟨same, armed⟩ := (s.watch w).judge_armed c v
      have judged := State.offersMade_of_observes
        (s.setWatch_observes w ((s.watch w).judge c v).1 fun a => ⟨armed a, same⟩) (State.recorded_of_links rfl rfl)
      split
      · exact State.offersMade_trans judged (State.offersMade_trans (State.offersMade_of_observes
          (State.offerAround_observes ..) (State.offerAround_recorded ..)) (State.watchAction_offersMade _ _ _ _))
      · exact judged
    · exact s.offersMade_refl

theorem State.offerValue_offersMade (s : State) (q : Quantity) (v : Int) : s.offersMade (s.offerValue q v) :=
  foldl_rel State.offersMade_refl (fun _ _ _ => State.offersMade_trans) (fun s w => s.offerTo_offersMade q v w) four s

theorem State.offerTemperature_offersMade (s : State) (ch : Channel) (j : Judged) :
    s.offersMade (s.offerTemperature ch j) := by
  unfold State.offerTemperature
  split
  · exact s.offerValue_offersMade _ _
  · exact s.offersMade_refl

theorem State.offerTemperature_observes (s : State) (ch : Channel) (j : Judged) (no : s.noHoldWatch) :
    s.observes (s.offerTemperature ch j) := by
  unfold State.offerTemperature
  split
  · exact s.offerValue_observes _ _ no
  · exact s.observes_refl

theorem State.offerTemperature_of_noWatch (s : State) (ch : Channel) (j : Judged) (no : s.noWatch) :
    s.offerTemperature ch j = s := by
  unfold State.offerTemperature
  split
  · exact s.offerValue_of_noWatch _ _ no
  · rfl

/-! ### The heat stage controller alone (R76 to R98) -/

/-- Of the machine only the heat stage controller differs, and its on-times stand. -/
structure State.heats (s t : State) : Prop where
  frame : t = { s with hsc := t.hsc }
  onTime : ∀ n : StageNo, (t.stage n).onTime = (s.stage n).onTime

theorem State.heats_refl (s : State) : s.heats s := ⟨rfl, fun _ => rfl⟩

theorem State.heats_trans {s t u : State} (h : s.heats t) (h' : t.heats u) : s.heats u :=
  ⟨by rw [h'.frame, h.frame], fun n => (h'.onTime n).trans (h.onTime n)⟩

theorem State.heats_of_sheds {s t : State} (h : s.sheds t) : s.heats t := ⟨by rw [h.frame], h.onTime⟩

theorem State.carries_of_heats {s t : State} (h : s.heats t) : s.carries t :=
  State.carries_of_recorded (by rw [h.frame]; exact State.recorded_of_links rfl rfl)
    (by rw [h.frame]; exact ⟨rfl, rfl, rfl, rfl, rfl, rfl, rfl, rfl, rfl, h.onTime⟩) (by rw [h.frame]; exact id)

theorem State.stays_of_heats {s t : State} (h : s.heats t) : s.stays t := by
  rw [h.frame]; exact ⟨rfl, rfl, State.sameRecords_of_links rfl rfl rfl rfl⟩

theorem State.settleTests_heats (s : State) : s.heats s.settleTests := by
  obtain ⟨frame, stage⟩ := s.settleTests_keeps
  exact ⟨by rw [frame], fun n => (stage n).1⟩

theorem State.setInletCap_heats (s : State) (c : Nat) : s.heats (s.setInletCap c) :=
  State.heats_trans (t := { s with hsc := { s.hsc with inletCap := c } }) ⟨rfl, fun _ => rfl⟩
    (State.heats_of_sheds (State.shedToCap_sheds _))

theorem State.updateInletCap_heats (s : State) : s.heats s.updateInletCap := s.setInletCap_heats _

theorem State.recordAfter_heats (s : State) (v : Int) : s.heats (s.recordAfter v) := by
  refine ⟨rfl, fun n => ?_⟩
  rw [State.recordAfter]
  dsimp only [State.stage]
  rw [Quad.get_map, Stage.readAfter]
  split
  · split <;> rfl
  · rfl

theorem State.afterStuckCheck_heats (s : State) (v : Int) : s.heats (s.afterStuckCheck v) := by
  unfold State.afterStuckCheck
  split
  · exact s.heats_refl
  · split
    · exact ⟨rfl, fun _ => rfl⟩
    · split
      · exact s.heats_refl
      · exact ⟨rfl, fun _ => rfl⟩

theorem State.setStage_heats (s : State) (n : StageNo) (x : Stage) (h : x.onTime = (s.stage n).onTime) :
    s.heats (s.setStage n x) := by
  refine ⟨rfl, fun m => ?_⟩
  by_cases e : m = n
  · subst e; rw [State.stage_setStage_same, h]
  · rw [State.stage_setStage_other _ _ _ _ e]

/-- A step that leaves the phase: what it carries, and that no record is made. -/
structure State.quiet (s t : State) : Prop where
  carries : s.carries t
  stays : s.stays t

theorem State.quiet_refl (s : State) : s.quiet s := ⟨s.carries_refl, s.stays_refl⟩

theorem State.quiet_trans {s t u : State} (h : s.quiet t) (h' : t.quiet u) : s.quiet u :=
  ⟨State.carries_trans h.carries h'.carries, State.stays_trans h.stays h'.stays⟩

theorem State.quiet_of_heats {s t : State} (h : s.heats t) : s.quiet t :=
  ⟨State.carries_of_heats h, State.stays_of_heats h⟩

theorem State.notifyBoth_quiet (s : State) (n : Notice) : s.quiet (s.notifyBoth n) :=
  ⟨s.notifyBoth_carries n, s.notifyBoth_stays n⟩

theorem State.judgeTest_quiet (s : State) (n : StageNo) : s.quiet (s.judgeTest n) := by
  unfold State.judgeTest
  split
  · exact s.quiet_refl
  · split
    · exact s.quiet_refl
    · dsimp only
      split
      · exact State.quiet_of_heats (s.setStage_heats n _ rfl)
      · refine State.quiet_trans (State.quiet_of_heats (State.heats_trans ?_ (State.heats_of_sheds
          (State.stageOff_sheds _ n)))) (State.notifyBoth_quiet _ _)
        exact s.setStage_heats n _ rfl

theorem State.judgeTests_quiet (s : State) : s.quiet s.judgeTests :=
  State.quiet_trans (foldl_rel State.quiet_refl (fun _ _ _ => State.quiet_trans) State.judgeTest_quiet four s)
    (State.quiet_of_heats (State.heats_of_sheds (State.shedToCap_sheds _)))

/-! ### The reactions to a conversion (R83, R88, R90 to R93, R106, R117) -/

/-- A step after which the phase stands with the front end, or has changed once. -/
structure State.reacts (s t : State) : Prop where
  carries : s.carries t
  front : s.stays t ∨ s.moves t

theorem State.reacts_of_quiet {s t : State} (h : s.quiet t) : s.reacts t := ⟨h.carries, .inl h.stays⟩

theorem State.takeFault_reacts (s : State) (k : FaultKind) : s.reacts (s.takeFault k) :=
  ⟨s.takeFault_carries k, s.takeFault_front k⟩

theorem State.reacts_after {s t u : State} (h : s.quiet t) (h' : t.reacts u) : s.reacts u where
  carries := State.carries_trans h.carries h'.carries
  front := by
    obtain ⟨-, -, clock, -⟩ := h.carries.outer
    exact h'.front.imp (State.stays_trans h.stays) (State.moves_after h.stays.phase h.stays.mfe clock)

theorem State.reacts_before {s t u : State} (h : s.reacts t) (h' : t.quiet u) : s.reacts u where
  carries := State.carries_trans h.carries h'.carries
  front := h.front.imp (fun e => State.stays_trans e h'.stays)
    fun e => State.moves_before e h'.stays.phase h'.stays.mfe

/-- T_exh or T_hsg has entered DIAG: the interlock sheds, and where heat is needed it is a fault. -/
def State.losesSensor (s : State) : State :=
  s.enforce.faultIf (s.csq.phase == .prep || s.csq.phase == .drying) .sensor

/-- T_exh is GOOD and at or below the cool target in COOLING (R106). -/
def State.coolReached (s : State) (j : Judged) : Prop :=
  s.csq.phase = .cooling ∧ j.status = .good ∧ j.channel.value ≤ (s.program.coolTarget : Int)

theorem State.reaction_tIn (s : State) (j : Judged) :
    (s.heatTemperature .tIn j).cycleTemperature .tIn j = s.heatTemperature .tIn j := by
  unfold State.cycleTemperature
  simp [State.faultIf]

theorem State.reaction_lost (s : State) (ch : Channel) (j : Judged) (loop : ch = .tExh ∨ ch = .tHsg)
    (entered : j.entered = true) (bad : j.status ≠ .good) :
    (s.heatTemperature ch j).cycleTemperature ch j = s.losesSensor := by
  have heat : s.heatTemperature ch j = s.enforce := by
    rcases loop with rfl | rfl
    · exact if_pos entered
    · unfold State.heatTemperature; dsimp only; rw [if_pos entered, if_neg bad]
  have either : (ch == .tExh || ch == .tHsg) = true := by rcases loop with rfl | rfl <;> rfl
  rw [heat, State.cycleTemperature, if_neg fun h => bad h.2.2.1, entered, either]
  simp [State.losesSensor]

theorem State.reaction_tExh_cools (s : State) (j : Judged) (entered : j.entered = false) (cools : s.coolReached j) :
    (s.heatTemperature .tExh j).cycleTemperature .tExh j = s.endCooling .coolTarget := by
  have heat : s.heatTemperature .tExh j = s := if_neg (by rw [entered]; exact Bool.false_ne_true)
  obtain ⟨cooling, good, low⟩ := cools
  rw [heat, State.cycleTemperature, entered]
  simp [State.faultIf, cooling, good, low]

theorem State.reaction_tExh_stands (s : State) (j : Judged) (entered : j.entered = false) (warm : ¬s.coolReached j) :
    (s.heatTemperature .tExh j).cycleTemperature .tExh j = s := by
  have heat : s.heatTemperature .tExh j = s := if_neg (by rw [entered]; exact Bool.false_ne_true)
  rw [heat, State.cycleTemperature, entered]
  exact if_neg fun h => warm ⟨h.1, h.2.2⟩

theorem State.reaction_tHsg (s : State) (j : Judged) (entered : j.entered = false) :
    (s.heatTemperature .tHsg j).cycleTemperature .tHsg j =
      if j.status = .good then s.housingCheck j.channel.value else s := by
  unfold State.cycleTemperature State.heatTemperature
  simp [State.faultIf, entered]

/-- The inlet cap once a loss of T_in has been seen (R83). -/
def State.inletSeen (s : State) (j : Judged) : State := if j.entered then s.setInletCap 2 else s

theorem State.inletSeen_heats (s : State) (j : Judged) : s.heats (s.inletSeen j) := by
  unfold State.inletSeen
  split
  · exact s.setInletCap_heats 2
  · exact s.heats_refl

theorem State.heatTemperature_tIn (s : State) (j : Judged) : s.heatTemperature .tIn j =
    if s.csq.phase = .service then (s.inletSeen j).updateInletCap else s.inletSeen j := by
  rw [← (State.stays_of_heats (s.inletSeen_heats j)).phase]; rfl

/-- The heat stage controller's part of a conversion of T_in. -/
theorem State.heatTemperature_tIn_heats (s : State) (j : Judged) : s.heats (s.heatTemperature .tIn j) := by
  rw [s.heatTemperature_tIn]
  split
  · exact State.heats_trans (s.inletSeen_heats j) (State.updateInletCap_heats _)
  · exact s.inletSeen_heats j

theorem State.losesSensor_reacts (s : State) : s.reacts s.losesSensor := by
  have sheds := State.quiet_of_heats (State.heats_of_sheds s.enforce_sheds)
  unfold State.losesSensor State.faultIf
  split
  · exact State.reacts_after sheds (State.takeFault_reacts _ _)
  · exact State.reacts_of_quiet sheds

/-- The housing limit reached: lockout, interlock and notice, before DRYING ends (R93). -/
def State.locksOut (s : State) (value : Int) : State :=
  (State.enforce { s with hsc := { s.hsc with lockout := true } }).notifyBoth (.stage 0 true value)

theorem State.locksOut_quiet (s : State) (value : Int) : s.quiet (s.locksOut value) := by
  refine State.quiet_trans (State.quiet_of_heats ?_) (State.notifyBoth_quiet _ _)
  exact State.heats_trans (t := { s with hsc := { s.hsc with lockout := true } }) ⟨rfl, fun _ => rfl⟩
    (State.heats_of_sheds (State.enforce_sheds _))

theorem State.housingCheck_eq (s : State) (value : Int) : s.housingCheck value =
    if s.mfe.mode = .running ∧ !s.hsc.lockout ∧ (s.housingLimit : Int) ≤ value then
      (s.locksOut value).endDrying .overheat else s := rfl

theorem State.housingCheck_reacts (s : State) (value : Int) : s.reacts (s.housingCheck value) := by
  rw [s.housingCheck_eq]
  split
  · exact State.reacts_after (s.locksOut_quiet value) ⟨State.endDrying_carries _ _, State.endDrying_front _ _⟩
  · exact State.reacts_of_quiet s.quiet_refl

theorem State.reaction_reacts (s : State) (ch : Channel) (temp : ch = .tIn ∨ ch = .tExh ∨ ch = .tHsg) (j : Judged)
    (bad : j.entered = true → j.status ≠ .good) :
    s.reacts ((s.heatTemperature ch j).cycleTemperature ch j) := by
  rcases temp with rfl | rfl | rfl
  · rw [s.reaction_tIn]; exact State.reacts_of_quiet (State.quiet_of_heats (s.heatTemperature_tIn_heats j))
  · cases entered : j.entered with
    | true => rw [s.reaction_lost _ j (.inl rfl) entered (bad entered)]; exact s.losesSensor_reacts
    | false =>
      by_cases cools : s.coolReached j
      · rw [s.reaction_tExh_cools j entered cools]
        exact ⟨s.endCooling_carries _, .inr (s.endCooling_moves _ cools.1)⟩
      · rw [s.reaction_tExh_stands j entered cools]; exact State.reacts_of_quiet s.quiet_refl
  · cases entered : j.entered with
    | true => rw [s.reaction_lost _ j (.inr rfl) entered (bad entered)]; exact s.losesSensor_reacts
    | false =>
      rw [s.reaction_tHsg j entered]
      split
      · exact s.housingCheck_reacts _
      · exact State.reacts_of_quiet s.quiet_refl

/-- Outside the supervised phases a temperature changes no phase. -/
theorem State.reaction_quiet (s : State) (ch : Channel) (temp : ch = .tIn ∨ ch = .tExh ∨ ch = .tHsg) (j : Judged)
    (bad : j.entered = true → j.status ≠ .good) (unsupervised : s.csq.phase.supervised = false) :
    s.stays ((s.heatTemperature ch j).cycleTemperature ch j) := by
  have not (p : Phase) (h : p.supervised = true) : s.csq.phase ≠ p := fun e =>
    Bool.false_ne_true (unsupervised.symm.trans (e ▸ h))
  have lost : s.stays s.losesSensor := by
    rw [State.losesSensor, State.faultIf, if_neg (by simp [not .prep rfl, not .drying rfl])]
    exact State.stays_of_heats (State.heats_of_sheds s.enforce_sheds)
  rcases temp with rfl | rfl | rfl
  · rw [s.reaction_tIn]; exact State.stays_of_heats (s.heatTemperature_tIn_heats j)
  · cases entered : j.entered with
    | true => rw [s.reaction_lost _ j (.inl rfl) entered (bad entered)]; exact lost
    | false => rw [s.reaction_tExh_stands j entered fun cools => not .cooling rfl cools.1]; exact s.stays_refl
  · cases entered : j.entered with
    | true => rw [s.reaction_lost _ j (.inr rfl) entered (bad entered)]; exact lost
    | false =>
      rw [s.reaction_tHsg j entered]
      split
      · rw [s.housingCheck_eq]
        split
        · rw [State.endDrying, if_neg (by rw [(s.locksOut_quiet _).stays.phase]; exact not .drying rfl)]
          exact (s.locksOut_quiet _).stays
        · exact s.stays_refl
      · exact s.stays_refl

/-- A conversion of I_heat, up to the fault: readings after, tests in SERVICE, and the stuck report. -/
def State.heatRead (s : State) (value : Int) : State :=
  if s.csq.phase = .service then (s.recordAfter value).judgeTests else s.recordAfter value

theorem State.heatRead_quiet (s : State) (value : Int) : s.quiet (s.heatRead value) := by
  have reads := State.quiet_of_heats (s.recordAfter_heats value)
  unfold State.heatRead
  split
  · exact State.quiet_trans reads (State.judgeTests_quiet _)
  · exact reads

theorem State.heatCurrent_eq (s : State) (value : Int) : s.heatCurrent value =
    if s.mfe.mode = .running then
      ((s.heatRead value).afterStuckCheck value).faultIf ((s.heatRead value).stuck value) .heatStuck
    else s.heatRead value := by
  have service : (s.recordAfter value).csq.phase = s.csq.phase := by simp
  have mode : (s.heatRead value).mfe.mode = s.mfe.mode := by rw [(s.heatRead_quiet value).stays.mfe]
  rw [← mode]
  unfold State.heatCurrent State.stuckCheck State.heatRead
  simp only [service]

theorem State.heatCurrent_reacts (s : State) (value : Int) : s.reacts (s.heatCurrent value) := by
  rw [s.heatCurrent_eq]
  split
  · refine State.reacts_after (s.heatRead_quiet value) (State.reacts_after
      (State.quiet_of_heats (State.afterStuckCheck_heats _ value)) ?_)
    unfold State.faultIf
    split
    · exact State.takeFault_reacts _ _
    · exact State.reacts_of_quiet (State.quiet_refl _)
  · exact State.reacts_of_quiet (s.heatRead_quiet value)

/-! ### A conversion outside the fast schedule, step by step (R3 to R8, R10, R15) -/

/-- The machine with its slow schedule moved on, as the three events of a conversion begin. -/
def State.scheduled (u : State) (rotation : Channel) (slowDue : Option Nat) (startupDone : Nat) : State :=
  { u with mfe := { u.mfe with rotation := rotation, slowDue := slowDue, startupDone := startupDone } }

/-- The channel after its conversion. -/
def State.newReading (s : State) (ch : Channel) (code : Code) : ChannelState :=
  match ch with
  | .tIn | .tExh | .tHsg => (s.judged ch code).channel
  | .iHeat | .g | .iMot => (s.mfe.channel ch).replace code (s.plainValue ch code) s.refTime

/-- The new reading alone, before the round and the blocks see it; a bar sample reverses the bars. -/
def State.readOf (s : State) (ch : Channel) (code : Code) : State :=
  match ch with
  | .g => s.reverseBars.setChannel .g (s.newReading .g code)
  | ch => s.setChannel ch (s.newReading ch code)

/-- The conversion as the round has seen it. -/
def State.readingMade (s : State) (ch : Channel) (code : Code) : State := (s.readOf ch code).roundMade [ch]

/-- The conversion as the capture units have seen it: the TEMP record of a slow channel (R15). -/
def State.told (s : State) (ch : Channel) (code : Code) : State :=
  match ch with
  | .g | .iMot => s.readingMade ch code
  | ch => (s.readingMade ch code).offerRecord ((s.newReading ch code).tempRecord ch code)

theorem State.told_slow (s : State) (ch : Channel) (code : Code) (slow : ch ∈ [Channel.tIn, .tExh, .tHsg, .iHeat]) :
    s.told ch code = (s.readingMade ch code).offerRecord ((s.newReading ch code).tempRecord ch code) := by
  cases ch <;> simp at slow <;> rfl

/-- The reactions to a temperature. -/
def State.reaction (s : State) (ch : Channel) (j : Judged) : State :=
  ((s.heatTemperature ch j).cycleTemperature ch j).settleTests

theorem State.convert_temperature (s : State) (ch : Channel) (code : Code) (temp : ch = .tIn ∨ ch = .tExh ∨ ch = .tHsg) :
    s.convert ch code = ((s.told ch code).offerTemperature ch (s.judged ch code)).reaction ch (s.judged ch code) := by
  have status := (s.mfe.channel ch).judge_status code (s.temperature ch code) s.refTime ch temp
  have told : s.told ch code = (s.readingMade ch code).offerRecord
      (.temp ch (s.judged ch code).status (s.judged ch code).channel.value code) := by
    rw [State.judged, ← status]
    rcases temp with rfl | rfl | rfl <;> rfl
  rw [told]
  rcases temp with rfl | rfl | rfl <;> rfl

theorem State.convert_iHeat (s : State) (code : Code) : s.convert .iHeat code =
    ((s.told .iHeat code).heatCurrent (s.plainValue .iHeat code)).settleTests := rfl

theorem State.convert_plain (s : State) (ch : Channel) (code : Code) (plain : ch = .g ∨ ch = .iMot) :
    s.convert ch code = s.told ch code := by
  rcases plain with rfl | rfl <;> rfl

section Read

variable (u : State) (rotation : Channel) (slowDue : Option Nat) (startupDone : Nat) (ch : Channel) (code : Code)

theorem State.scheduled_channel (c : Channel) :
    (u.scheduled rotation slowDue startupDone).mfe.channel c = u.mfe.channel c := by cases c <;> rfl

theorem State.scheduled_newReading :
    (u.scheduled rotation slowDue startupDone).newReading ch code = u.newReading ch code := by cases ch <;> rfl

theorem State.scheduled_judged : (u.scheduled rotation slowDue startupDone).judged ch code = u.judged ch code := by
  cases ch <;> rfl

@[simp] theorem State.readOf_frame : (u.readOf ch code).pending = u.pending ∧ (u.readOf ch code).boot = u.boot ∧
    (u.readOf ch code).clock = u.clock ∧ (u.readOf ch code).resetTime = u.resetTime ∧
    (u.readOf ch code).pins = u.pins ∧ (u.readOf ch code).dry = u.dry ∧ (u.readOf ch code).dmc = u.dmc ∧
    (u.readOf ch code).tgm = u.tgm ∧ (u.readOf ch code).hsc = u.hsc ∧ (u.readOf ch code).csq = u.csq ∧
    (u.readOf ch code).cap = u.cap ∧ (u.readOf ch code).sst = u.sst ∧ (u.readOf ch code).linkA = u.linkA ∧
    (u.readOf ch code).linkS = u.linkS := by
  cases ch <;> exact ⟨rfl, rfl, rfl, rfl, rfl, rfl, rfl, rfl, rfl, rfl, rfl, rfl, rfl, rfl⟩

/-- R2: the bars reverse with a bar sample alone. -/
@[simp] theorem State.readOf_schedule : (u.readOf ch code).mfe.mode = u.mfe.mode ∧
    (u.readOf ch code).mfe.rotation = u.mfe.rotation ∧ (u.readOf ch code).mfe.round = u.mfe.round ∧
    (u.readOf ch code).mfe.fastDue = u.mfe.fastDue ∧ (u.readOf ch code).mfe.slowDue = u.mfe.slowDue ∧
    (u.readOf ch code).mfe.startupDone = u.mfe.startupDone ∧
    (u.readOf ch code).mfe.lastPositive = (if ch = .g then !u.mfe.lastPositive else u.mfe.lastPositive) := by
  cases ch <;> exact ⟨rfl, rfl, rfl, rfl, rfl, rfl, rfl⟩

theorem State.readOf_channel (c : Channel) :
    (u.readOf ch code).mfe.channel c = if c = ch then u.newReading ch code else u.mfe.channel c := by
  cases ch <;> cases c <;> rfl

/-- R10: the freshness that a conversion leaves, before any reply. -/
theorem State.readOf_freshness (c : Channel) (l : Link) :
    ((u.readOf ch code).mfe.channel c).freshness l = u.freshNow (u.readOf ch code) [ch] code c l := by
  simp only [State.freshNow, State.entersDiag, State.readOf_channel, List.mem_singleton]
  by_cases h : c = ch
  · subst h
    simp only [if_pos]
    by_cases temp : c = .tIn ∨ c = .tExh ∨ c = .tHsg
    · have reading : u.newReading c code = (u.judged c code).channel := by rcases temp with rfl | rfl | rfl <;> rfl
      rw [reading, State.judged, ChannelState.judge_freshness, ChannelState.judge_status _ _ _ _ _ temp]
      simp only [ChannelState.judge_entered]
    · have plain : u.newReading c code = (u.mfe.channel c).replace code (u.plainValue c code) u.refTime
          ∧ (u.newReading c code).outcome c code = .good := by
        cases c <;> simp at temp <;> exact ⟨rfl, rfl⟩
      rw [if_pos plain.2, plain.1, ChannelState.replace_freshness]
  · simp only [if_neg h]

end Read

/-- R4, R5, R8: the reading in the terms of the statements. -/
theorem State.newReading_converted (u : State) (ch : Channel) (code : Code) {t : State}
    (reading : ∀ c, (if c = ch then u.newReading ch code else u.mfe.channel c).sameReading (t.mfe.channel c)) :
    u.converted t ch code u.refTime := by
  refine ⟨fun c _ other => by simpa only [if_neg other] using reading c, ?_⟩
  have own : (u.newReading ch code).sameReading (t.mfe.channel ch) := by simpa only [if_pos] using reading ch
  obtain ⟨value, code', time, diag, out, good⟩ := (ChannelState.sameReading_iff _ _).mp own
  have judged (c : Channel) (h : u.newReading c code = (u.judged c code).channel)
      (linear : u.linearised c code = u.temperature c code) (e : c = ch) :
      (u.mfe.channel c).judgedTo (t.mfe.channel c) code (u.linearised c code) u.refTime := by
    subst e
    have := (u.mfe.channel c).judge_judgedTo code (u.temperature c code) u.refTime
    rw [show (u.mfe.channel c).judge code (u.temperature c code) u.refTime = u.judged c code from rfl, ← h] at this
    simp only [ChannelState.judgedTo, value, code', time, diag, out, good]
    rw [linear]; exact this
  cases ch
  case tIn => exact judged .tIn rfl rfl rfl
  case tExh => exact judged .tExh rfl rfl rfl
  case tHsg => exact judged .tHsg rfl rfl rfl
  case iHeat => exact ⟨(ChannelState.sameReading_iff _ _).mpr ⟨rfl, rfl, rfl, diag, out, good⟩, value, code', time⟩
  case g => exact ⟨value, code', time⟩
  case iMot => exact ⟨value, code', time⟩

/-! ### What every conversion leaves, whatever it brings about (R10, R13, R15) -/

/-- From the record of a conversion `s` to the end of its event `t`: what is carried, the front end after at most one
change of phase, and the records where no watch unit judges and the phase stands. -/
structure State.concludes (s t : State) : Prop where
  carries : s.carries t
  front : t.csq.phase = s.csq.phase ∧ t.mfe = s.mfe ∨ s.moves t
  records : s.noWatch → t.csq.phase = s.csq.phase → s.sameRecords t

theorem State.concludes_refl (s : State) : s.concludes s := ⟨s.carries_refl, .inl ⟨rfl, rfl⟩, fun _ _ => s.sameRecords_refl⟩

theorem State.concludes_of_reacts {s t : State} (h : s.reacts t) : s.concludes t where
  carries := h.carries
  front := h.front.imp_left fun stays => ⟨stays.phase, stays.mfe⟩
  records _ same := (h.front.resolve_right fun moves => moves.phase same).records

theorem State.reaction_concludes (s : State) (ch : Channel) (j : Judged) (temp : ch = .tIn ∨ ch = .tExh ∨ ch = .tHsg)
    (bad : j.entered = true → j.status ≠ .good) : s.concludes ((s.offerTemperature ch j).reaction ch j) := by
  have offered := s.offerTemperature_offersMade ch j
  obtain ⟨-, -, clock, -⟩ := offered.carries.outer
  have settles (v : State) : v.quiet v.settleTests := State.quiet_of_heats v.settleTests_heats
  have reacts := State.reacts_before ((s.offerTemperature ch j).reaction_reacts ch temp j bad) (settles _)
  refine ⟨State.carries_trans offered.carries reacts.carries, ?_, fun no same => ?_⟩
  · rcases offered.front with ⟨phase, mfe⟩ | ⟨left, entered, front⟩
    · rcases reacts.front with stays | moves
      · exact .inl ⟨stays.phase.trans phase, stays.mfe.trans mfe⟩
      · exact .inr (State.moves_after phase mfe clock moves)
    · have stays := State.stays_trans ((s.offerTemperature ch j).reaction_quiet ch temp j bad entered) (settles _).stays
      have moved : s.moves (s.offerTemperature ch j) :=
        ⟨fun e => Bool.false_ne_true (by rw [← entered, e, left]), front⟩
      exact .inr (State.moves_before moved stays.phase stays.mfe)
  · rw [s.offerTemperature_of_noWatch ch j no] at reacts same ⊢
    exact (reacts.front.resolve_right fun moves => moves.phase same).records

theorem State.judged_bad (s : State) (ch : Channel) (code : Code) :
    (s.judged ch code).entered = true → (s.judged ch code).status ≠ .good := fun entered good => by
  have := (s.mfe.channel ch).judge_status_of_entered code (s.temperature ch code) s.refTime entered
  rw [State.judged, this] at good
  exact absurd good (by decide)

theorem State.convert_concludes (s : State) (ch : Channel) (code : Code) :
    (s.told ch code).concludes (s.convert ch code) := by
  have temperature (temp : ch = .tIn ∨ ch = .tExh ∨ ch = .tHsg) : (s.told ch code).concludes (s.convert ch code) := by
    rw [s.convert_temperature ch code temp]
    exact State.reaction_concludes _ ch _ temp (s.judged_bad ch code)
  cases ch
  case tIn => exact temperature (.inl rfl)
  case tExh => exact temperature (.inr (.inl rfl))
  case tHsg => exact temperature (.inr (.inr rfl))
  case iHeat =>
    exact State.concludes_of_reacts (State.reacts_before (State.heatCurrent_reacts ..)
      (State.quiet_of_heats (State.settleTests_heats _)))
  case g => exact State.concludes_refl _
  case iMot => exact State.concludes_refl _

theorem State.followFront_keeps (s : State) (p : Phase) : (∀ c, (s.followFront p).mfe.channel c = s.mfe.channel c)
    ∧ (s.followFront p).mfe.round = s.mfe.round ∧ (s.followFront p).mfe.lastPositive = s.mfe.lastPositive
    ∧ (s.followFront p).mfe.startupDone = s.mfe.startupDone := by
  unfold State.followFront
  split <;> exact ⟨fun c => by cases c <;> rfl, rfl, rfl, rfl⟩

/-- Readings, round, bar polarity and start-up position stand from the record on. -/
theorem State.concludes_keeps {s t : State} (h : s.concludes t) : (∀ c, t.mfe.channel c = s.mfe.channel c)
    ∧ t.mfe.round = s.mfe.round ∧ t.mfe.lastPositive = s.mfe.lastPositive ∧ t.mfe.startupDone = s.mfe.startupDone := by
  rcases h.front with ⟨-, mfe⟩ | moves
  · rw [mfe]; exact ⟨fun _ => rfl, rfl, rfl, rfl⟩
  · rw [moves.mfe]; exact s.followFront_keeps _

theorem State.told_mfe (s : State) (ch : Channel) (code : Code) : (s.told ch code).mfe = (s.readingMade ch code).mfe := by
  unfold State.told
  split <;> simp

theorem State.told_carries (s : State) (ch : Channel) (code : Code) : (s.readingMade ch code).carries (s.told ch code) := by
  unfold State.told
  split
  · exact State.carries_refl _
  · exact State.carries_refl _
  · exact (State.offersMade_of_observes (State.offerRecord_observes _ _) (State.offerRecord_recorded _ _)).carries

@[simp] theorem State.told_frame (s : State) (ch : Channel) (code : Code) : (s.told ch code).pending = s.pending ∧
    (s.told ch code).boot = s.boot ∧ (s.told ch code).clock = s.clock ∧ (s.told ch code).resetTime = s.resetTime ∧
    (s.told ch code).pins = s.pins ∧ (s.told ch code).dry = s.dry ∧ (s.told ch code).dmc = s.dmc ∧
    (s.told ch code).tgm = s.tgm ∧ (s.told ch code).hsc = s.hsc ∧ (s.told ch code).csq = s.csq ∧
    (s.told ch code).sst = s.sst := by
  unfold State.told
  split <;> simp [State.readingMade]

/-- The round touches the reply and the request in progress, so records find the links as they were. -/
theorem State.readingMade_sameRecords (s : State) (ch : Channel) (code : Code) :
    s.sameRecords (s.readingMade ch code) := by
  refine ⟨by simp [State.readingMade], by simp [State.readingMade], fun l => ?_⟩
  have link : (s.readOf ch code).link l = s.link l := State.link_congr (by simp) (by simp) l
  rw [State.readingMade, State.roundMade_link, link]
  exact ⟨rfl, rfl, rfl⟩

theorem State.told_sameRecords (s : State) (ch : Channel) (code : Code) (slow : ch ∈ [Channel.tIn, .tExh, .tHsg, .iHeat]) :
    (s.offerRecord ((s.newReading ch code).tempRecord ch code)).sameRecords (s.told ch code) := by
  rw [s.told_slow ch code slow]
  exact State.sameRecords_offerRecord (s.readingMade_sameRecords ch code) _

theorem State.told_noWatch (s : State) (ch : Channel) (code : Code) :
    s.armsLess (s.told ch code) := by
  have made : (s.readingMade ch code).cap.watches = s.cap.watches := by simp [State.readingMade]
  unfold State.told
  split
  · exact State.armsLess_of_watches made
  · exact State.armsLess_of_watches made
  · exact State.armsLess_of_watches ((State.offerRecord_watches _ _).trans made)

theorem State.convert_channel (s : State) (ch : Channel) (code : Code) (c : Channel) :
    (s.convert ch code).mfe.channel c = ((s.readOf ch code).roundMade [ch]).mfe.channel c := by
  rw [(State.concludes_keeps (s.convert_concludes ch code)).1, s.told_mfe]; rfl

theorem State.convert_round (s : State) (ch : Channel) (code : Code) :
    (s.convert ch code).mfe.round = ((s.readOf ch code).roundMade [ch]).mfe.round := by
  rw [(State.concludes_keeps (s.convert_concludes ch code)).2.1, s.told_mfe]; rfl

theorem State.convert_lastPositive (s : State) (ch : Channel) (code : Code) : (s.convert ch code).mfe.lastPositive =
    if ch = .g then !s.mfe.lastPositive else s.mfe.lastPositive := by
  rw [(State.concludes_keeps (s.convert_concludes ch code)).2.2.1, s.told_mfe, State.readingMade]; simp

theorem State.convert_startupDone (s : State) (ch : Channel) (code : Code) :
    (s.convert ch code).mfe.startupDone = s.mfe.startupDone := by
  rw [(State.concludes_keeps (s.convert_concludes ch code)).2.2.2, s.told_mfe, State.readingMade]; simp

/-- The schedule after a conversion that leaves the phase. -/
theorem State.convert_schedule (s : State) (ch : Channel) (code : Code)
    (same : (s.convert ch code).csq.phase = s.csq.phase) : (s.convert ch code).mfe.mode = s.mfe.mode
      ∧ (s.convert ch code).mfe.rotation = s.mfe.rotation ∧ (s.convert ch code).mfe.fastDue = s.mfe.fastDue
      ∧ (s.convert ch code).mfe.slowDue = s.mfe.slowDue := by
  have told : (s.told ch code).csq.phase = s.csq.phase := by simp
  have mfe : (s.convert ch code).mfe = (s.told ch code).mfe := by
    rcases (s.convert_concludes ch code).front with stands | moves
    · exact stands.2
    · exact absurd (same.trans told.symm) moves.phase
  rw [mfe, s.told_mfe, State.readingMade]
  simp

/-- In RUNNING the rotation goes on through any change of phase, and the schedule while RUNNING lasts (R1, R3). -/
theorem State.convert_running (s : State) (ch : Channel) (code : Code) (running : s.mfe.mode = .running) :
    (s.convert ch code).mfe.rotation = s.mfe.rotation
      ∧ ((s.convert ch code).mfe.mode = .running → (s.convert ch code).mfe.slowDue = s.mfe.slowDue) := by
  have told : (s.told ch code).mfe.mode = s.mfe.mode ∧ (s.told ch code).mfe.rotation = s.mfe.rotation
      ∧ (s.told ch code).mfe.slowDue = s.mfe.slowDue := by rw [s.told_mfe, State.readingMade]; simp
  obtain ⟨mode, rotation, slowDue⟩ := told
  rcases (s.convert_concludes ch code).front with ⟨-, mfe⟩ | moves
  · rw [mfe]; exact ⟨rotation, fun _ => slowDue⟩
  · rw [moves.mfe]
    unfold State.followFront
    split
    · next off _ => exact absurd (off.symm.trans (mode.trans running)) (by decide)
    · exact ⟨rotation, fun on => absurd on FrontMode.noConfusion⟩
    · exact ⟨rotation, fun _ => slowDue⟩

section Convert

/- A conversion of `ch` in `u`, once the event has moved the slow schedule on to `v`. -/
variable {u v : State} {rotation : Channel} {slowDue : Option Nat} {startupDone : Nat}
  (hv : v = u.scheduled rotation slowDue startupDone) (ch : Channel) (code : Code)

include hv

theorem State.scheduled_readOf_freshness (c : Channel) (l : Link) :
    ((v.readOf ch code).mfe.channel c).freshness l = u.freshNow (v.readOf ch code) [ch] code c l := by
  rw [State.readOf_freshness]
  simp only [State.freshNow, State.entersDiag, hv, State.scheduled_channel]

theorem State.scheduled_reading (c : Channel) : (if c = ch then u.newReading ch code else u.mfe.channel c).sameReading
    ((v.convert ch code).mfe.channel c) := by
  have := State.reading_of_roundMade (v.convert_channel ch code) c
  rwa [State.readOf_channel, hv, State.scheduled_newReading, State.scheduled_channel, ← hv] at this

theorem State.scheduled_converted : u.converted (v.convert ch code) ch code u.refTime :=
  u.newReading_converted ch code (State.scheduled_reading hv ch code)

theorem State.scheduled_round : (v.readOf ch code).mfe.round = u.mfe.round := by rw [hv]; simp [State.scheduled]

theorem State.scheduled_freshened : u.freshened (v.convert ch code) [ch] code :=
  State.freshened_of_roundMade (State.scheduled_round hv ch code) (State.scheduled_readOf_freshness hv ch code)
    (v.convert_channel ch code)

theorem State.scheduled_roundGoesOn : u.roundGoesOn (v.convert ch code) [ch] code := by
  have carries := State.carries_trans (v.told_carries ch code) (v.convert_concludes ch code).carries
  refine State.roundGoesOn_of_roundMade (State.scheduled_round hv ch code) (State.scheduled_readOf_freshness hv ch code)
    (v.convert_channel ch code) (v.convert_round ch code) (fun l => ?_)
    fun l only => LinkState.sameTalk_reply (carries.talk l ?_)
  · rw [State.link_congr (s := v) (by simp) (by simp) l, hv]; cases l <;> rfl
  · simpa [State.readingMade, hv, State.scheduled] using only

theorem State.scheduled_outerFrame : u.outerFrame (v.convert ch code) := by
  have made : u.outerFrame (v.readingMade ch code) := by
    simp [State.outerFrame, State.stage, State.readingMade, hv, State.scheduled]
  have carries := State.carries_trans (v.told_carries ch code) (v.convert_concludes ch code).carries
  exact State.outerFrame_trans made carries.outer

theorem State.scheduled_records (slow : ch ∈ [Channel.tIn, .tExh, .tHsg, .iHeat]) :
    (u.offerRecord (((v.convert ch code).mfe.channel ch).tempRecord ch code)).sameRecords (v.told ch code) := by
  have reading := State.scheduled_reading hv ch code ch
  rw [if_pos rfl] at reading
  have record : ((v.convert ch code).mfe.channel ch).tempRecord ch code = (v.newReading ch code).tempRecord ch code := by
    rw [ChannelState.tempRecord, ChannelState.outcome_congr reading, ((ChannelState.sameReading_iff _ _).mp reading).1, hv,
      State.scheduled_newReading]
    rfl
  have same : u.sameRecords v := by rw [hv]; exact State.sameRecords_of_links rfl rfl rfl rfl
  rw [record]
  exact State.sameRecords_trans (State.sameRecords_offerRecord same _) (v.told_sameRecords ch code slow)

theorem State.scheduled_producedFirst (slow : ch ∈ [Channel.tIn, .tExh, .tHsg, .iHeat]) :
    u.producedFirst (v.convert ch code) (((v.convert ch code).mfe.channel ch).tempRecord ch code) := by
  intro l empty
  obtain ⟨-, ring, posted⟩ := (State.scheduled_records hv ch code slow).link l
  have first := ((u.offerRecord_recorded (((v.convert ch code).mfe.channel ch).tempRecord ch code)).link l).2 empty
  have grows := (v.convert_concludes ch code).carries.ring l (posted.trans first.1)
  rw [← ring]; exact grows.2

theorem State.scheduled_produced (slow : ch ∈ [Channel.tIn, .tExh, .tHsg, .iHeat]) (no : u.noWatch)
    (same : (v.convert ch code).csq.phase = u.csq.phase) :
    u.produced (v.convert ch code) (((v.convert ch code).mfe.channel ch).tempRecord ch code) := by
  have told : (v.told ch code).csq.phase = u.csq.phase := by rw [hv]; simp [State.scheduled]
  have silent : (v.told ch code).noWatch := State.noWatch_of_armsLess (v.told_noWatch ch code) (by rw [hv]; exact no)
  have all := State.sameRecords_trans (State.scheduled_records hv ch code slow)
    ((v.convert_concludes ch code).records silent (same.trans told.symm))
  exact ⟨all.cap, all.link⟩

/-- Everything that a conversion is said to make, once its reaction is known. -/
theorem State.scheduled_conversionMade (reaction : u.noHoldWatch → u.slowReaction (v.convert ch code) ch code) :
    u.conversionMade (v.convert ch code) ch code :=
  ⟨State.scheduled_converted hv ch code, State.scheduled_freshened hv ch code, State.scheduled_roundGoesOn hv ch code,
    State.scheduled_outerFrame hv ch code,
    fun slow => ⟨State.scheduled_producedFirst hv ch code slow, State.scheduled_produced hv ch code slow⟩, reaction⟩

end Convert

/-! ### The inlet cap at a conversion of T_in (R82, R83) -/

theorem State.stagesOn_countP (s : State) : s.stagesOn = (wearOrder s.hsc.stages).countP fun n => (s.stage n).on := by
  rw [(wearOrder_perm _).countP_eq, State.stagesOn, Quad.count]
  simp [four, List.countP_cons, State.stage, Quad.get, Bool.toNat, Bool.cond_eq_ite]
  omega

theorem State.stagesOn_eq (s : State) : s.stagesOn = s.mostWornOn.length := by
  rw [s.stagesOn_countP, State.mostWornOn, List.length_reverse, List.countP_eq_length_filter]

theorem State.mostWornOn_countP (s : State) (p : StageNo → Bool) :
    s.mostWornOn.countP p = (wearOrder s.hsc.stages).countP fun n => p n && (s.stage n).on := by
  rw [State.mostWornOn, List.countP_reverse, List.countP_filter]

/-- Shedding to the cap brings the number of stages on under it. -/
theorem State.shedToCap_within (s : State) : s.shedToCap.stagesOn ≤ s.shedToCap.effectiveCap := by
  rw [State.sheds_effectiveCap s.shedToCap_sheds]
  generalize hk : s.stagesOn - s.effectiveCap = k
  have off (n : StageNo) : (s.shedToCap.stage n).on = ((s.stage n).on && !(s.mostWornOn.take k).contains n) := by
    rw [State.shedToCap, State.on_stagesOff, hk]
  have left : s.shedToCap.stagesOn = s.mostWornOn.countP fun n => !(s.mostWornOn.take k).contains n := by
    rw [s.mostWornOn_countP, State.stagesOn_countP, (wearOrder_perm _).countP_eq, (wearOrder_perm _).countP_eq]
    exact List.countP_congr fun n _ => by rw [off n, Bool.and_comm]
  have parts := List.countP_append (p := fun n => !(s.mostWornOn.take k).contains n) (l₁ := s.mostWornOn.take k)
    (l₂ := s.mostWornOn.drop k)
  have gone : (s.mostWornOn.take k).countP (fun n => !(s.mostWornOn.take k).contains n) = 0 := by
    simp [List.countP_eq_zero]
  have rest := List.countP_le_length (p := fun n => !(s.mostWornOn.take k).contains n) (l := s.mostWornOn.drop k)
  rw [List.take_append_drop] at parts
  rw [List.length_drop, ← s.stagesOn_eq] at rest
  omega

theorem State.shedToCap_of_within (s : State) (h : s.stagesOn ≤ s.effectiveCap) : s.shedToCap = s := by
  rw [State.shedToCap, Nat.sub_eq_zero_of_le h]; rfl

/-- A cap already held is kept by its update. -/
theorem State.setInletCap_twice (s : State) (c : Nat) : (s.setInletCap c).setInletCap c = s.setInletCap c := by
  have cap : (s.setInletCap c).hsc.inletCap = c := by rw [State.setInletCap, (State.shedToCap_sheds _).frame]
  have same (v : State) (h : v.hsc.inletCap = c) : ({ v with hsc := { v.hsc with inletCap := c } } : State) = v := by
    subst h; rfl
  rw [State.setInletCap, same _ cap]
  exact State.shedToCap_of_within _ (State.shedToCap_within _)

/-- An inlet cap set, and the stage tests judged: the cap stands, and it sheds the most worn stages (R82). -/
theorem State.settled_setInletCap (s : State) (c : Nat) : (s.setInletCap c).settleTests.hsc.inletCap = c
    ∧ s.shedsTo (s.setInletCap c).settleTests := by
  generalize hv : ({ s with hsc := { s.hsc with inletCap := c } } : State) = v
  have set : s.setInletCap c = v.shedToCap := by rw [← hv]; rfl
  have rank (n : StageNo) : s.wearRank n = v.wearRank n := by rw [← hv]; rfl
  have on : s.stagesOn = v.stagesOn := by rw [← hv]; rfl
  have stage (n : StageNo) : s.stage n = v.stage n := by rw [← hv]; rfl
  rw [set]
  refine ⟨?_, fun n hn => ?_⟩
  · rw [v.shedToCap.settleTests_keeps.1, v.shedToCap_sheds.frame, ← hv]
  · rw [stage n] at hn
    rw [v.settled_shedToCap_stage n hn, v.off_shedToCap_iff n hn, State.settleTests_effectiveCap,
      State.sheds_effectiveCap v.shedToCap_sheds, rank, on]

section Seen

/- `u` before the conversion; `u.readInto x` once its reading, its record and its offers are made. -/
variable (u x : State)

/-- What only the heat stage controller follows. -/
theorem State.heatFrame_of_heats {t : State} (h : (u.readInto x).heats t) : u.heatFrame t := by
  rw [h.frame]

theorem State.readInto_inletConverted {j : Judged} (entered : j.entered = true ↔ u.entersDiag x .tIn) :
    u.inletConverted ((u.readInto x).reaction .tIn j) := by
  have mfe : ((u.readInto x).reaction .tIn j).mfe = x.mfe := by
    rw [State.reaction, State.reaction_tIn, (State.settleTests_frame _).2.2.2.2.2.1,
      (State.stays_of_heats (State.heatTemperature_tIn_heats _ j)).mfe]
  have loss : u.entersDiag ((u.readInto x).reaction .tIn j) .tIn ↔ j.entered = true := by
    rw [entered, State.entersDiag, mfe]
  refine ⟨State.heatFrame_of_heats u x ?_, ?_⟩
  · rw [State.reaction, State.reaction_tIn]
    exact State.heats_trans (State.heatTemperature_tIn_heats _ j) (State.settleTests_heats _)
  · simp only [loss, mfe]
    rw [State.reaction, State.reaction_tIn, State.heatTemperature_tIn, State.inletSeen]
    cases lost : j.entered with
    | true =>
      have diag : x.mfe.tIn.diag = true := (entered.mp lost).2
      have next : ((u.readInto x).setInletCap 2).nextInletCap = 2 := by
        rw [State.nextInletCap]; simp [diag]
      rw [if_pos rfl, if_pos rfl, State.updateInletCap, next, State.setInletCap_twice, ite_self]
      exact (u.readInto x).settled_setInletCap 2
    | false =>
      rw [if_neg Bool.false_ne_true, if_neg Bool.false_ne_true]
      by_cases service : u.csq.phase = .service
      · rw [if_pos service, if_pos (show (u.readInto x).csq.phase = .service from service)]
        obtain ⟨cap, sheds⟩ := (u.readInto x).settled_setInletCap (u.readInto x).nextInletCap
        exact ⟨sheds, cap⟩
      · rw [if_neg service, if_neg (show (u.readInto x).csq.phase ≠ .service from service),
          (u.readInto x).settleTests_of_phase service]

end Seen

/-! ### Notices that stand (R170) -/

theorem mem_insertNotice (n : Notice) (l : List Notice) : n ∈ insertNotice n l := by
  induction l with
  | nil => exact List.mem_singleton.mpr rfl
  | cons x xs ih =>
    unfold insertNotice
    split
    · exact List.mem_cons_self
    · split
      · exact List.mem_cons_self
      · exact List.mem_cons_of_mem _ ih

/-- A raise leaves the pending notices of other kinds. -/
theorem mem_insertNotice_of_mem {m n : Notice} {l : List Notice} (h : m ∈ l) (other : n.code ≠ m.code) :
    m ∈ insertNotice n l := by
  induction l with
  | nil => exact absurd h List.not_mem_nil
  | cons x xs ih =>
    unfold insertNotice
    split
    · exact List.mem_cons_of_mem _ h
    · split
      · next same =>
        rcases List.mem_cons.mp h with rfl | h
        · exact absurd same other
        · exact List.mem_cons_of_mem _ h
      · rcases List.mem_cons.mp h with rfl | h
        · exact List.mem_cons_self
        · exact List.mem_cons_of_mem _ (ih h)

theorem State.notifyBoth_pending (s : State) (n : Notice) (l : Link) :
    ((s.notifyBoth n).link l).pending = insertNotice n (s.link l).pending := by
  cases l
  · rw [State.notifyBoth, State.link_notify_other _ _ _ _ (by decide), State.link_notify_same, LinkState.raise_frame]
  · rw [State.notifyBoth, State.link_notify_same, LinkState.raise_frame, State.link_notify_other _ _ _ _ (by decide)]

theorem State.notifyBoth_tells (s : State) (n : Notice) (l : Link) : n ∈ ((s.notifyBoth n).link l).pending := by
  rw [s.notifyBoth_pending]; exact mem_insertNotice n _

theorem State.notifyBoth_keeps (s : State) {m n : Notice} (other : n.code ≠ m.code) (l : Link)
    (h : m ∈ (s.link l).pending) : m ∈ ((s.notifyBoth n).link l).pending := by
  rw [s.notifyBoth_pending]; exact mem_insertNotice_of_mem h other

theorem State.changePhase_tells (s : State) (p : Phase) (c : Cause) (l : Link) :
    Notice.phase p c ∈ ((s.changePhase p c).link l).pending := State.notifyBoth_tells _ _ l

theorem State.changePhase_hasEntered (s : State) (p : Phase) (c : Cause) : (s.changePhase p c).hasEntered p c :=
  ⟨by rw [State.changePhase_csq]; rfl, s.changePhase_tells p c⟩

/-! ### The drum after a phase change (R45, R46) -/

theorem State.clearTurning_dmc (s : State) :
    s.clearTurning.dmc = { s.dmc with turning := s.clearTurning.dmc.turning } := by
  unfold State.clearTurning
  split
  · simp
  · rfl

theorem State.idleDrum_motion (s : State) : s.idleDrum.dmc.motion = .idle := by
  rw [State.idleDrum, State.clearTurning_dmc]

theorem State.enterRest_drum (s : State) (target : Motion) (empty : Bool) :
    (s.enterRest target empty).dmc.motion = target ∧ (s.enterRest target empty).dmc.pattern = s.dmc.pattern := by
  rw [State.enterRest, State.clearTurning_dmc]
  refine ⟨rfl, ?_⟩
  unfold State.drumOff
  split <;> rfl

theorem State.restDrum_drum (s : State) : s.restDrum.dmc.motion = .rest ∧ s.restDrum.dmc.pattern = s.dmc.pattern := by
  unfold State.restDrum
  split
  · exact ⟨rfl, rfl⟩
  · exact s.enterRest_drum ..

theorem State.actStep_drum (s : State) (c : CurrentStep) :
    (s.actStep c).dmc.motion ≠ .idle ∧ (s.actStep c).dmc.pattern = s.dmc.pattern := by
  have rests (c : CurrentStep) (r : Option Nat) :
      (s.setStep c r).restDrum.dmc.motion ≠ .idle ∧ (s.setStep c r).restDrum.dmc.pattern = s.dmc.pattern := by
    obtain ⟨motion, pattern⟩ := (s.setStep c r).restDrum_drum
    exact ⟨by rw [motion]; exact Motion.noConfusion, pattern⟩
  have running (m : Motion) (d : Dir) (drives : m.drives d = true) : m ≠ .idle := by
    rintro rfl; exact Bool.false_ne_true drives
  unfold State.actStep
  split
  · exact rests ..
  · next d _ =>
    split
    · dsimp only
      split
      · next drives => exact ⟨running _ d drives, rfl⟩
      · rw [State.enterStarting, State.clearTurning_dmc]; exact ⟨Motion.noConfusion, rfl⟩
    · exact rests ..

theorem State.startPattern_drum (s : State) (q : Nat) :
    (s.startPattern q).dmc.motion ≠ .idle ∧ (s.startPattern q).dmc.pattern = some (s.patternSteps q) := by
  unfold State.startPattern
  dsimp only
  generalize hv : State.mk s.pending .. = v
  have pattern : v.dmc.pattern = some (s.patternSteps q) := by rw [← hv]
  split
  · obtain ⟨motion, kept⟩ := v.restDrum_drum
    exact ⟨by rw [motion]; exact Motion.noConfusion, kept.trans pattern⟩
  · next some =>
    unfold State.beginStep
    rw [pattern]
    dsimp only
    cases h : (s.patternSteps q)[0]? with
    | none => rw [List.getElem?_eq_none_iff] at h; simp at some h; exact absurd h some
    | some st =>
      obtain ⟨motion, kept⟩ := State.actStep_drum { v with dmc := { v.dmc with staged := _ } }
        { index := Option.some 0, step := st, waiting := false }
      exact ⟨motion, kept.trans pattern⟩

/-- What the demand of FAULT makes of the drum (R45, R118). -/
theorem State.motionDemand_fault (s : State) (left : Phase) : s.motionDemand left .fault =
    if s.csq.record.fault.any (fun f => f.kind == .heatStuck) = true then s.startPattern s.faultPattern else s.idleDrum := by
  unfold State.motionDemand
  cases h : s.csq.record.fault with
  | none => simp
  | some f => simp

theorem State.followFan_fault (s : State) : s.followFan .fault =
    if s.csq.record.fault.any (fun f => f.kind == .heatStuck) = true then s.fanOn else s.fanOff := by
  unfold State.followFan
  cases h : s.csq.record.fault with
  | none => simp
  | some f => simp

/-! ### The heat stage controller after a phase change (R79, R88, R94 to R96) -/

/-- The control periods follow the phase. -/
def State.withPeriods (s : State) (p : Phase) : State :=
  { s with hsc := { s.hsc with periodDue := if p = Phase.drying then some (s.clock + 2000) else none } }

theorem State.followHeat_eq (s : State) (left p : Phase) (h : p ≠ .service) : s.followHeat left p =
    (((s.withPeriods p).enforce.followFan p).followAirflow left p).enforce := by
  unfold State.followHeat
  dsimp only
  rw [if_neg h]
  rfl

theorem State.interlocked_of_phase (s : State) (h : s.csq.phase.mayHeat = false) : s.interlocked = true := by
  simp [State.interlocked, h]

theorem State.followHeat_heatOff (s : State) (left p : Phase) (h : p ≠ .service) (phase : s.csq.phase.mayHeat = false) :
    (s.followHeat left p).heatOff := by
  rw [s.followHeat_eq left p h]
  exact State.enforce_heatOff _ (State.interlocked_of_phase _ (by simpa [State.withPeriods] using phase))

/-- The fan stands from the demand of the phase on. -/
theorem State.followHeat_fan (s : State) (left p : Phase) (h : p ≠ .service) (prep : p ≠ .prep) :
    let v := (s.withPeriods p).enforce.followFan p
    (s.followHeat left p).hsc.fanOn = v.hsc.fanOn ∧ (s.followHeat left p).hsc.fanDemand = v.hsc.fanDemand
      ∧ (s.followHeat left p).hsc.afterRun = v.hsc.afterRun ∧ (s.followHeat left p).hsc.airflow = v.hsc.airflow
      ∧ (s.followHeat left p).hsc.periodDue = v.hsc.periodDue := by
  intro v
  rw [s.followHeat_eq left p h, (State.enforce_sheds _).frame]
  unfold State.followAirflow
  dsimp only
  rw [if_neg prep]
  split <;> split <;> exact ⟨rfl, rfl, rfl, rfl, rfl⟩

theorem State.fanOff_fan (s : State) : s.fanOff.hsc.fanOn = false ∧ s.fanOff.hsc.fanDemand = false
    ∧ s.fanOff.hsc.afterRun = none ∧ s.fanOff.hsc.airflow = .off ∧ s.fanOff.hsc.periodDue = s.hsc.periodDue := by
  rw [State.fanOff, (State.enforce_sheds _).frame]
  exact ⟨rfl, rfl, rfl, rfl, rfl⟩

theorem State.fanDemandEnds_fan (s : State) : s.fanDemandEnds.hsc.fanDemand = false := by
  unfold State.fanDemandEnds
  split
  · split
    · rfl
    · exact s.fanOff_fan.2.1
  · next none => exact Bool.eq_false_of_not_eq_true none

theorem State.enforce_periodDue (s : State) : s.enforce.hsc.periodDue = s.hsc.periodDue := by
  rw [s.enforce_sheds.frame]

/-! ### FAULT entered (R58, R118, R119) -/

theorem State.countFault_tells (s : State) (f : FaultRecord) (h : s.csq.record.fault = some f) :
    s.countFault.hasFault { f with extra := satSucc 255 f.extra }
      ∧ ∀ l, ∀ m ∈ (s.link l).pending, m.code ≠ 4 → m ∈ (s.countFault.link l).pending := by
  have counted : s.countFault = (s.modRecord fun c => { c with fault := some { f with extra := satSucc 255 f.extra } }).notifyBoth
      (.fault f.kind f.phase (satSucc 255 f.extra)) := by
    unfold State.countFault; rw [h]
  have record : s.countFault.csq.record.fault = some { f with extra := satSucc 255 f.extra } := by
    rw [State.countFault_csq, h]; rfl
  refine ⟨⟨record, fun l => ?_⟩, fun l m hm other => ?_⟩
  · rw [counted]; exact State.notifyBoth_tells _ _ l
  · rw [counted]
    have link (f : CycleRecord → CycleRecord) : (s.modRecord f).link l = s.link l := by cases l <;> rfl
    refine State.notifyBoth_keeps _ (fun same => other same.symm) l ?_
    rw [link]; exact hm

theorem State.countFault_faulted (s : State) (k : FaultKind) (left : Phase) (extra : Nat) (h : s.faulted k left extra) :
    s.countFault.faulted k left (satSucc 255 extra) := by
  obtain ⟨⟨phase, entered⟩, ⟨record, -⟩, reasons, held, supervision, hold, prep⟩ := h
  obtain ⟨counted, kept⟩ := s.countFault_tells _ record
  have time : s.countFault.refTime = s.refTime := by simp [State.refTime]
  rw [State.faulted, time]
  refine ⟨⟨?_, fun l => kept l _ (entered l) (by decide)⟩, counted, ?_⟩
  · rw [State.countFault_csq]; exact phase
  · rw [State.countFault_csq]; exact ⟨reasons, held, supervision, hold, prep⟩

/-- DRIVE on the way into FAULT counts one additional fault (R58, R119). -/
theorem State.driveInFault_faulted (s : State) (k : FaultKind) (left : Phase) (before : Motion) (h : s.faulted k left) :
    (s.driveInFault before).faulted k left (s.leftIdleFaulted before).toNat := by
  unfold State.driveInFault
  split
  · next drives => rw [drives]; exact s.countFault_faulted k left 0 h
  · next not => rw [Bool.eq_false_of_not_eq_true not]; exact h

/-- FAULT entered, before the drum is looked at once more. -/
def State.inFault (s : State) (k : FaultKind) : State :=
  ((s.beforeFault k).changePhase .fault .fault).notifyBoth (.fault k s.csq.phase 0)

theorem State.enterFault_inFault (s : State) (k : FaultKind) :
    s.enterFault k = (s.inFault k).driveInFault s.dmc.motion := rfl

theorem State.inFault_faulted (s : State) (k : FaultKind) : (s.inFault k).faulted k s.csq.phase := by
  obtain ⟨phase, entered⟩ := (s.beforeFault k).changePhase_hasEntered .fault .fault
  have csq : (s.inFault k).csq = (s.beforeFault k).csq.setPhase .fault := by
    rw [State.inFault, (State.notifyBoth_frame _ _).2.2.2.2.2.2.2.2.2.2.1, State.changePhase_csq]
  have time : (s.inFault k).refTime = s.refTime := by simp [State.refTime, State.inFault]
  refine ⟨⟨by rw [csq]; rfl, fun l => State.notifyBoth_keeps _ (by simp [Notice.code]) l (entered l)⟩,
    ⟨?_, fun l => State.notifyBoth_tells _ _ l⟩, ?_⟩
  · rw [csq, time, State.beforeFault_csq]; rfl
  · rw [csq, State.beforeFault_csq]; exact ⟨rfl, rfl, rfl, rfl, rfl⟩

theorem State.inFault_onlyCools (s : State) (k : FaultKind) : s.onlyCools (s.inFault k) :=
  State.onlyCools_trans (State.onlyCools_trans (s.beforeFault_onlyCools k)
    (State.changePhase_onlyCools _ .fault .fault (by decide)))
    (State.onlyCools_of_eq (State.notifyBoth_frame _ _).2.2.2.2.2.2.2.2.2.1)

theorem State.inFault_dmc (s : State) (k : FaultKind) :
    (s.inFault k).dmc = (((s.beforeFault k).afterFront .fault).followDrum s.csq.phase .fault).dmc := by
  rw [State.inFault, (State.notifyBoth_frame _ _).2.2.2.2.2.2.2.1, State.changePhase_dmc]; simp

theorem State.inFault_hsc (s : State) (k : FaultKind) :
    (s.inFault k).hsc = (((s.beforeFault k).afterDrum .fault).followHeat s.csq.phase .fault).hsc := by
  rw [State.inFault, (State.notifyBoth_frame _ _).2.2.2.2.2.2.2.2.2.1, State.changePhase_hsc]; simp

theorem State.beforeFault_kind (s : State) (k : FaultKind) : (s.beforeFault k).csq.record.fault =
    some { kind := k, phase := s.csq.phase, time := s.refTime, extra := 0 } := by rw [State.beforeFault_csq]

/-- Heat is off in FAULT of any kind (R88, R118). -/
theorem State.inFault_heatOff (s : State) (k : FaultKind) : (s.inFault k).heatOff := fun n => by
  rw [State.stage, s.inFault_hsc]
  exact State.followHeat_heatOff ((s.beforeFault k).afterDrum .fault) s.csq.phase .fault (by decide) (by simp; rfl) n

/-- Drum and fan stop in FAULT of a kind other than HEAT_STUCK (R118). -/
theorem State.inFault_stopped (s : State) (k : FaultKind) (h : k ≠ .heatStuck) : (s.inFault k).stopped := by
  have other (v : State) (same : v.csq.record = (s.beforeFault k).csq.record) :
      ¬v.csq.record.fault.any (fun f => f.kind == .heatStuck) = true := by
    rw [same, s.beforeFault_kind]; simpa using h
  refine ⟨?_, ?_⟩
  · rw [s.inFault_dmc, State.followDrum, State.motionDemand_fault, if_neg (other _ (by simp)), State.idleDrum_motion]
  · obtain ⟨on, -, after, air, -⟩ := State.followHeat_fan ((s.beforeFault k).afterDrum .fault) s.csq.phase .fault (by decide)
      (by decide)
    rw [s.inFault_hsc, on, after, air, State.followFan_fault, if_neg (other _ (by simp [State.withPeriods]))]
    obtain ⟨on, -, after, air, -⟩ := State.fanOff_fan ((State.withPeriods ((s.beforeFault k).afterDrum .fault) .fault).enforce)
    exact ⟨on, after, air, s.inFault_heatOff k⟩

/-- Drum and fan cool in FAULT of kind HEAT_STUCK (R45, R94). -/
theorem State.inFault_cools (s : State) : s.coolsInFault (s.inFault .heatStuck) ∧ (s.inFault .heatStuck).dmc.motion ≠ .idle := by
  have stuck (v : State) (same : v.csq.record = (s.beforeFault .heatStuck).csq.record) :
      v.csq.record.fault.any (fun f => f.kind == .heatStuck) = true := by
    rw [same, s.beforeFault_kind]; rfl
  have program : (s.beforeFault .heatStuck).csq.program = s.csq.program := by
    rw [State.beforeFault_csq]; dsimp only; split <;> rfl
  have steps (q : Nat) : (s.inFault .heatStuck).patternSteps q =
      (((s.beforeFault .heatStuck).afterFront .fault).abandonBurst).patternSteps q := by
    simp [State.patternSteps, State.setting, State.word, State.inFault, State.changePhase_sst]
  have drum : (s.inFault .heatStuck).dmc = ((((s.beforeFault .heatStuck).afterFront .fault).abandonBurst).startPattern
      (State.faultPattern s)).dmc := by
    have own : (((s.beforeFault .heatStuck).afterFront .fault).abandonBurst).csq.program = s.csq.program := by
      rw [← program]; simp; rfl
    rw [s.inFault_dmc, State.followDrum, State.motionDemand_fault, if_pos (stuck _ (by simp)), State.faultPattern,
      State.faultPattern, own]
  obtain ⟨motion, pattern⟩ := State.startPattern_drum (((s.beforeFault .heatStuck).afterFront .fault).abandonBurst)
    (State.faultPattern s)
  obtain ⟨on, demand, -⟩ := State.followHeat_fan ((s.beforeFault .heatStuck).afterDrum .fault) s.csq.phase .fault (by decide)
    (by decide)
  refine ⟨⟨?_, ?_, ?_⟩, by rw [drum]; exact motion⟩
  · rw [s.inFault_hsc, on, State.followFan_fault, if_pos (stuck _ (by simp [State.withPeriods]))]; rfl
  · rw [s.inFault_hsc, demand, State.followFan_fault, if_pos (stuck _ (by simp [State.withPeriods]))]; rfl
  · rw [drum, pattern, steps]; rfl

/-- With the drum stopped, no drive fault joins. -/
theorem State.enterFault_eq_inFault (s : State) (k : FaultKind) (h : k ≠ .heatStuck) : s.enterFault k = s.inFault k := by
  have still : (s.inFault k).leftIdleFaulted s.dmc.motion = false := by
    rw [State.leftIdleFaulted, (s.inFault_stopped k h).1]; simp
  rw [s.enterFault_inFault, State.driveInFault, still]; rfl

/-- FAULT of another kind than HEAT_STUCK, whole (R118). -/
theorem State.enterFault_stopped (s : State) (k : FaultKind) (h : k ≠ .heatStuck) :
    (s.enterFault k).faulted k s.csq.phase ∧ (s.enterFault k).stopped := by
  rw [s.enterFault_eq_inFault k h]
  exact ⟨s.inFault_faulted k, s.inFault_stopped k h⟩

theorem State.driveInFault_heatOff (s : State) (before : Motion) (h : s.heatOff) : (s.driveInFault before).heatOff := fun n => by
  rw [State.stage]; simpa [State.stage] using h n

/-- FAULT of kind HEAT_STUCK, with DRIVE when the drum leaves IDLE under an active fault line (R58, R118). -/
theorem State.enterFault_stuck (s : State) :
    (s.enterFault .heatStuck).faulted .heatStuck s.csq.phase (s.pins.ivf && s.dmc.motion == .idle).toNat
      ∧ s.coolsInFault (s.enterFault .heatStuck) ∧ (s.enterFault .heatStuck).heatOff
      ∧ (s.enterFault .heatStuck).hsc.stuckArmed = s.hsc.stuckArmed := by
  obtain ⟨⟨on, demand, pattern⟩, moves⟩ := s.inFault_cools
  have faulted := State.driveInFault_faulted _ _ _ s.dmc.motion (s.inFault_faulted .heatStuck)
  have drive : (s.inFault .heatStuck).leftIdleFaulted s.dmc.motion = (s.pins.ivf && s.dmc.motion == .idle) := by
    have pins : (s.inFault .heatStuck).pins = s.pins := by simp [State.inFault]
    rw [State.leftIdleFaulted, pins, bne_iff_ne.mpr moves, Bool.and_true, Bool.and_comm]
  rw [drive] at faulted
  rw [s.enterFault_inFault]
  refine ⟨faulted, ⟨by simpa using on, by simpa using demand, ?_⟩, State.driveInFault_heatOff _ _ (s.inFault_heatOff _), ?_⟩
  · have steps (q : Nat) : ((s.inFault .heatStuck).driveInFault s.dmc.motion).patternSteps q =
        (s.inFault .heatStuck).patternSteps q := by simp [State.patternSteps, State.setting, State.word]
    rw [steps, ← pattern]; simp
  · rw [(State.driveInFault_frame _ _).2.2.2.2.2.2.2.2.2.1]; exact (s.inFault_onlyCools _).stuckArmed

/-! ### DONE, GUARD and COOLING entered (R105 to R108, R161) -/

theorem State.followFront_onRequest (s : State) (p : Phase) (h : p.frontMode = .onRequest) :
    (s.followFront p).mfe.mode = .onRequest := by
  unfold State.followFront
  rw [h]
  split
  · next e => exact absurd e (by decide)
  · rfl
  · next _ off =>
    cases mode : s.mfe.mode with
    | onRequest => rfl
    | running => exact absurd rfl (off mode)

theorem State.followFront_running (s : State) (p : Phase) (h : p.frontMode = .running) :
    (s.followFront p).mfe.mode = .running := by
  unfold State.followFront
  rw [h]
  split
  · rfl
  · next e => exact absurd e (by decide)
  · next on _ =>
    cases mode : s.mfe.mode with
    | onRequest => exact absurd rfl (on mode)
    | running => rfl

theorem State.stage_congr {s t : State} (h : t.hsc = s.hsc) (n : StageNo) : t.stage n = s.stage n := by
  rw [State.stage, State.stage, h]

theorem State.heatOff_of_hsc {s t : State} (h : t.hsc = s.hsc) (off : s.heatOff) : t.heatOff := fun n => by
  rw [State.stage_congr h]; exact off n

/-- Heat is off in every phase but DRYING and SERVICE (R88). -/
theorem State.changePhase_heatOff (s : State) (p : Phase) (c : Cause) (h : p.mayHeat = false) :
    (s.changePhase p c).heatOff := by
  refine State.heatOff_of_hsc (s.changePhase_hsc p c) (State.followHeat_heatOff _ _ p ?_ ?_)
  · rintro rfl; exact Bool.noConfusion h
  · simpa using h

theorem State.changePhase_patternSteps (s : State) (p : Phase) (c : Cause) (h : p ≠ .done) (q : Nat) :
    (s.changePhase p c).patternSteps q = s.patternSteps q := by
  simp only [State.patternSteps, State.setting, State.word, s.changePhase_sst p c h]

/-- The drum of a phase that starts a pattern (R45, R46). -/
theorem State.changePhase_pattern (s : State) (p : Phase) (c : Cause) (q : Nat)
    (demand : ∀ v : State, v.csq = s.csq.setPhase p → v.motionDemand s.csq.phase p = v.startPattern q) :
    (s.changePhase p c).dmc.pattern = some (s.patternSteps q) := by
  have steps : ((s.afterFront p).abandonBurst).patternSteps q = s.patternSteps q := by
    simp [State.patternSteps, State.setting, State.word]
  rw [s.changePhase_dmc, State.followDrum, demand _ (by simp), (State.startPattern_drum _ _).2, steps]

theorem State.wearSave_savesWear (s : State) : s.savesWear s.wearSave := by
  unfold State.savesWear State.wearSave
  cases h : s.sst.engine with
  | none => exact ⟨rfl, rfl⟩
  | some j => simp [h]

/-- The wear save looks at the engine before and at the on-times after. -/
theorem State.savesWear_congr {s s' t t' : State} (h : s.savesWear t) (engine : s'.sst.engine = s.sst.engine)
    (pending : s'.sst.wearPending = s.sst.wearPending) (sst : t'.sst = t.sst) (hsc : t'.hsc = t.hsc) : s'.savesWear t' := by
  unfold State.savesWear at *
  rw [engine]
  have image (n : StageNo) : (t'.stage n).onTime = (t.stage n).onTime := by rw [State.stage_congr hsc]
  simp only [sst, pending, image]
  exact h

theorem State.changePhase_savesWear (s : State) (c : Cause) : s.savesWear (s.changePhase .done c) := by
  refine State.savesWear_congr (((s.afterDrum .done).followHeat s.csq.phase .done).wearSave_savesWear) (by simp) (by simp) ?_ ?_
  · rw [s.changePhase_eq, if_pos rfl]; simp
  · rw [s.changePhase_hsc]; simp

theorem State.enterDone_isDone (s : State) (c : Cause) : s.isDone (s.enterDone c) c := by
  generalize hv : ({ s with csq := s.csq.clearForDone } : State) = v
  have done : s.enterDone c = v.changePhase .done c := by rw [← hv]; rfl
  have csq : (s.enterDone c).csq = s.csq.clearForDone.setPhase .done := s.enterDone_csq c
  have saves : s.savesWear (v.changePhase .done c) :=
    State.savesWear_congr (v.changePhase_savesWear c) (by rw [← hv]) (by rw [← hv]) rfl rfl
  have idle : (v.changePhase .done c).dmc.motion = .idle := by
    rw [State.changePhase_dmc, State.followDrum]; exact State.idleDrum_motion _
  have mode : (v.changePhase .done c).mfe.mode = .onRequest := by
    rw [State.changePhase_mfe]; exact State.followFront_onRequest _ .done rfl
  have fan : (v.changePhase .done c).hsc.fanDemand = false := by
    rw [State.changePhase_hsc, (State.followHeat_fan _ _ .done (by decide) (by decide)).2.1]
    exact State.fanDemandEnds_fan _
  rw [State.isDone, csq, done]
  exact ⟨v.changePhase_hasEntered .done c, rfl, rfl, rfl, rfl, v.changePhase_heatOff .done c rfl, idle, mode, fan, saves⟩

theorem State.enterGuard_program (s : State) (c : Cause) : (s.enterGuard c).program = s.program := by
  rw [State.program, State.enterGuard_csq]; rfl

/-- The cool target ends COOLING for GUARD or for DONE (R106, R107). -/
theorem State.endCooling_ends (s : State) (c : Cause) : (s.endCooling c).csq.record.endReason = s.csq.record.endReason
    ∧ if 0 < s.program.guardTime then
        (s.endCooling c).hasEntered .guard c ∧ (s.endCooling c).csq.guardMs = 0 ∧ (s.endCooling c).heatOff
          ∧ (s.endCooling c).dmc.pattern = some ((s.endCooling c).patternSteps (s.endCooling c).program.guardPattern)
      else s.isDone (s.endCooling c) c := by
  unfold State.endCooling
  split
  · refine ⟨by rw [State.enterGuard_csq]; rfl, State.changePhase_hasEntered _ _ c, by rw [State.enterGuard_csq]; rfl,
      State.changePhase_heatOff _ .guard c rfl, ?_⟩
    rw [State.enterGuard_program, State.enterGuard, State.changePhase_patternSteps _ _ _ (by decide)]
    refine State.changePhase_pattern _ .guard c _ fun v hv => ?_
    rw [State.motionDemand, State.program, hv]; rfl
  · exact ⟨by rw [State.enterDone_csq]; rfl, s.enterDone_isDone c⟩

theorem State.changePhase_window (s : State) (c : Cause) (drying : s.csq.phase = .drying) :
    (s.changePhase .cooling c).dry.window = none := by
  have mode : (State.followFront { s with csq := s.csq.setPhase .cooling } .cooling).discardWindow.mfe.mode = .running := by
    rw [State.discardWindow]; exact State.followFront_running _ .cooling rfl
  rw [s.changePhase_dry, State.afterFront, drying, State.followDry, if_pos rfl, mode, if_neg (by decide), if_neg (by decide)]
  rfl

/-- The end of DRYING is the entry into COOLING (R105, R106). -/
theorem State.endDrying_isCooling (s : State) (r : EndReason) (drying : s.csq.phase = .drying) :
    (s.endDrying r).isCooling r := by
  have phase : (s.setEnd r).csq.phase = .drying := drying
  rw [State.endDrying, if_pos drying]
  refine ⟨State.changePhase_hasEntered _ _ _, by rw [State.changePhase_csq]; rfl, State.changePhase_heatOff _ .cooling _ rfl,
    State.changePhase_window _ _ phase, ?_, ?_⟩
  · rw [State.changePhase_hsc, (State.followHeat_fan _ _ .cooling (by decide) (by decide)).2.2.2.2]
    exact State.enforce_periodDue _
  · have program : (State.changePhase (s.setEnd r) .cooling (.ended r)).program = s.program := by
      rw [State.program, State.changePhase_csq]; rfl
    rw [State.changePhase_patternSteps _ _ _ (by decide), program]
    refine State.changePhase_pattern _ .cooling _ _ fun v hv => ?_
    rw [State.motionDemand, phase, if_pos rfl, State.program, hv]; rfl

/-! ### A fault taken in FAULT (R119) -/

theorem State.countFault_again (s : State) (f : FaultRecord) (fault : s.csq.phase = .fault) (h : s.csq.record.fault = some f) :
    s.countFault.faultedAgain f ∧ s.countFault.dmc = s.dmc := by
  refine ⟨⟨by rw [State.countFault_csq]; exact fault, ?_⟩, by simp⟩
  have := (s.countFault_tells f h).1
  rwa [satSucc_eq] at this

/-- A fault that has just been replaced by HEAT_STUCK, before the drum is looked at once more. -/
def State.replaced (s : State) (f : FaultRecord) : State :=
  (((s.modRecord fun c => { c with fault := some f }).motionDemand .fault .fault).followFan .fault).notifyBoth
    (.fault f.kind f.phase f.extra)

theorem State.replaceFault_eq (s : State) (f : FaultRecord) : s.replaceFault f = (s.replaced { f with
    kind := .heatStuck, time := s.refTime, extra := satSucc 255 f.extra }).driveInFault s.dmc.motion := rfl

theorem State.replaced_cools (s : State) (f : FaultRecord) (stuck : f.kind = .heatStuck) :
    s.coolsInFault (s.replaced f) ∧ (s.replaced f).dmc.motion ≠ .idle ∧ s.onlyCools (s.replaced f)
      ∧ (s.replaced f).hasFault f := by
  have kind (v : State) (same : v.csq.record.fault = some f) : v.csq.record.fault.any (fun g => g.kind == .heatStuck) = true := by
    rw [same]; simpa using stuck
  generalize hv : (s.modRecord fun c => { c with fault := some f }) = v
  have csq : v.csq = { s.csq with record := { s.csq.record with fault := some f } } := by rw [← hv]; rfl
  have demand : v.motionDemand .fault .fault = v.startPattern s.faultPattern := by
    rw [State.motionDemand_fault, if_pos (kind v (by rw [csq])), State.faultPattern, State.faultPattern, csq]
  have fan : ((v.startPattern s.faultPattern).followFan .fault) = (v.startPattern s.faultPattern).fanOn := by
    rw [State.followFan_fault, if_pos (kind _ (by rw [(State.startPattern_frame _ _).2.2.2.2.2.2.2.2.1, csq]))]
  have made : s.replaced f = (v.startPattern s.faultPattern).fanOn.notifyBoth (.fault f.kind f.phase f.extra) := by
    rw [State.replaced, hv, demand, fan]
  obtain ⟨motion, pattern⟩ := v.startPattern_drum s.faultPattern
  have steps (q : Nat) : (s.replaced f).patternSteps q = v.patternSteps q := by
    simp [made, State.patternSteps, State.setting, State.word]
  refine ⟨⟨by rw [made]; simp [State.fanOn], by rw [made]; simp [State.fanOn], ?_⟩, by rw [made]; simpa using motion, ?_, ?_, fun l => ?_⟩
  · rw [steps, made, (State.notifyBoth_frame _ _).2.2.2.2.2.2.2.1, (State.fanOn_frame _).2.2.2.2.2.2.2.1]; exact pattern
  · rw [made]
    refine State.onlyCools_after (t := v) (State.onlyCools_trans (State.onlyCools_trans (v.startPattern_onlyCools _)
      (State.fanOn_onlyCools _)) (State.onlyCools_of_eq (State.notifyBoth_frame _ _).2.2.2.2.2.2.2.2.2.1)) (by rw [← hv]; rfl)
  · rw [made]; simp [csq]
  · rw [made]; exact State.notifyBoth_tells _ _ l

theorem State.driveInFault_onlyCools (s : State) (before : Motion) : s.onlyCools (s.driveInFault before) :=
  State.onlyCools_of_eq (by simp)

/-- DRIVE after a replaced fault counts one more (R58, R119). -/
theorem State.driveInFault_hasFault (s : State) (f : FaultRecord) (before : Motion) (h : s.hasFault f) (room : f.extra ≤ 255) :
    (s.driveInFault before).hasFault { f with extra := min 255 (f.extra + (s.leftIdleFaulted before).toNat) } := by
  unfold State.driveInFault
  split
  · next drives =>
    have := (s.countFault_tells f h.1).1
    rw [satSucc_eq] at this
    rw [drives]; exact this
  · next not =>
    rw [Bool.eq_false_of_not_eq_true not, show min 255 (f.extra + false.toNat) = f.extra from Nat.min_eq_right room]
    exact h

/-- HEAT_STUCK replaces another kind (R119). -/
theorem State.replaceFault_cools (s : State) (f : FaultRecord) :
    s.coolsInFault (s.replaceFault f) ∧ s.onlyCools (s.replaceFault f) ∧ (s.replaceFault f).hasFault { f with
      kind := .heatStuck, time := s.refTime
      extra := min 255 (f.extra + 1 + (s.pins.ivf && s.dmc.motion == .idle).toNat) } := by
  obtain ⟨⟨on, demand, pattern⟩, motion, cools, fault⟩ := s.replaced_cools { f with
    kind := .heatStuck, time := s.refTime, extra := satSucc 255 f.extra } rfl
  rw [s.replaceFault_eq]
  generalize hv : s.replaced _ = v at *
  have pins : v.pins = s.pins := by rw [← hv]; simp [State.replaced]
  have drive : v.leftIdleFaulted s.dmc.motion = (s.pins.ivf && s.dmc.motion == .idle) := by
    rw [State.leftIdleFaulted, pins, bne_iff_ne.mpr motion, Bool.and_true, Bool.and_comm]
  have record := v.driveInFault_hasFault _ s.dmc.motion fault (by simp only [satSucc_eq]; omega)
  refine ⟨⟨by simpa using on, by simpa using demand, ?_⟩, State.onlyCools_trans cools (v.driveInFault_onlyCools _), ?_⟩
  · have steps (q : Nat) : (v.driveInFault s.dmc.motion).patternSteps q = v.patternSteps q := by
      simp [State.patternSteps, State.setting, State.word]
    rw [steps, ← pattern]; simp
  · have extra : min 255 (satSucc 255 f.extra + (v.leftIdleFaulted s.dmc.motion).toNat) =
        min 255 (f.extra + 1 + (s.pins.ivf && s.dmc.motion == .idle).toNat) := by
      rw [drive, satSucc_eq]; omega
    rw [← extra]; exact record

/-! ### Notices that records leave (R132, R170) -/

/-- Every pending notice but that of a capture unit stands. -/
structure State.keepsNotices (s t : State) : Prop where
  link : ∀ l m, m.code ≠ 7 → m ∈ (s.link l).pending → m ∈ (t.link l).pending

theorem State.keepsNotices_refl (s : State) : s.keepsNotices s := ⟨fun _ _ _ h => h⟩

theorem State.keepsNotices_trans {s t u : State} (h : s.keepsNotices t) (h' : t.keepsNotices u) : s.keepsNotices u :=
  ⟨fun l m other hm => h'.link l m other (h.link l m other hm)⟩

theorem State.keepsNotices_of_links {s t : State} (ha : t.linkA = s.linkA) (hs : t.linkS = s.linkS) : s.keepsNotices t :=
  ⟨fun l m _ hm => by rwa [State.link_congr ha hs l]⟩

theorem State.modLink_keepsNotices (s : State) (l : Link) (f : LinkState → LinkState)
    (h : ∀ x m, m.code ≠ 7 → m ∈ x.pending → m ∈ (f x).pending) : s.keepsNotices (s.modLink l f) := by
  refine ⟨fun l' m other hm => ?_⟩
  by_cases e : l' = l
  · subst e; rw [State.link_modLink_same]; exact h _ m other hm
  · rwa [State.link_modLink_other _ _ _ _ e]

theorem State.deliver_keepsNotices (s : State) (l : Link) : s.keepsNotices (s.deliver l) := by
  have filled := s.modLink_keepsNotices l (·.fillNormal) fun _ _ _ hm => hm
  unfold State.deliver
  dsimp only
  split
  · exact State.keepsNotices_trans filled (State.modLink_keepsNotices _ l _ fun _ _ _ hm => hm)
  · exact filled

theorem State.endCapture_keepsNotices (s : State) (u : Fin 3) (why : CaptureEnd) : s.keepsNotices (s.endCapture u why) := by
  have ended (x : CaptureUnit) : s.keepsNotices (s.setUnit u x) := State.keepsNotices_of_links rfl rfl
  have told (v : State) (l : Link) (a b : Nat) : v.keepsNotices (v.notify l (.capture u why a b)) :=
    v.modLink_keepsNotices l _ fun x m other hm => by
      rw [LinkState.raise_frame]; exact mem_insertNotice_of_mem hm (Ne.symm other)
  unfold State.endCapture
  dsimp only
  split
  · exact ended _
  · exact State.keepsNotices_trans (ended _) (State.keepsNotices_trans (told _ _ _ _) (State.deliver_keepsNotices _ _))

theorem State.endCaptures_keepsNotices (s : State) (p : Fin 3 → CaptureUnit → Bool) (why : CaptureEnd) :
    s.keepsNotices (s.endCaptures p why) :=
  foldl_rel State.keepsNotices_refl (fun _ _ _ => State.keepsNotices_trans) (fun s u => by
    split
    · exact s.endCapture_keepsNotices u why
    · exact s.keepsNotices_refl) three s

theorem State.modTakers_keepsNotices (s : State) (mine : Triple Bool) (f : CaptureUnit → CaptureUnit) :
    s.keepsNotices (s.modTakers mine f) := State.keepsNotices_of_links (by simp) (by simp)

theorem State.takeFor_keepsNotices (s : State) (l : Link) (mine : Triple Bool) (r : Record) :
    s.keepsNotices (s.takeFor l mine r) := by
  unfold State.takeFor
  dsimp only
  refine State.keepsNotices_trans ?_ (State.endCaptures_keepsNotices _ _ _)
  generalize hv : State.modTakers (s.modLink l _) mine _ = v
  have counted : s.keepsNotices v := by
    rw [← hv]
    refine State.keepsNotices_trans ?_ (State.modTakers_keepsNotices _ mine _)
    exact State.modLink_keepsNotices _ l _ fun _ _ _ hm => hm
  refine State.keepsNotices_trans counted ?_
  split
  · exact State.keepsNotices_trans (State.modTakers_keepsNotices _ _ _) (State.endCaptures_keepsNotices _ _ _)
  · exact State.modLink_keepsNotices _ l _ fun _ _ _ hm => hm

theorem State.offerRecord_keepsNotices (s : State) (r : Record) : s.keepsNotices (s.offerRecord r) := by
  have taken (s : State) (l : Link) (mine : Triple Bool) :
      s.keepsNotices (if mine.any id then s.takeFor l mine r else s) := by
    split
    · exact s.takeFor_keepsNotices l mine r
    · exact s.keepsNotices_refl
  unfold State.offerRecord
  dsimp only
  generalize s.takersOf .a _ = mineA
  generalize s.takersOf .s _ = mineS
  generalize hv : State.mk .. = v
  have advanced : s.keepsNotices v := by subst hv; exact State.keepsNotices_of_links rfl rfl
  exact State.keepsNotices_trans (State.keepsNotices_trans advanced (taken v .a mineA)) (taken _ .s mineS)

theorem State.offerAround_keepsNotices (s : State) (starts : StartCond → Bool) (ends : EndCond → Bool) (why : CaptureEnd)
    (r : Record) : s.keepsNotices (s.offerAround starts ends why r) := by
  have started : s.keepsNotices (s.startCaptures starts) := State.keepsNotices_of_links rfl rfl
  unfold State.offerAround
  exact State.keepsNotices_trans (State.keepsNotices_trans started (State.offerRecord_keepsNotices _ _))
    (State.endCaptures_keepsNotices _ _ _)

theorem State.followDry_keepsNotices (s : State) (left p : Phase) : s.keepsNotices (s.followDry left p) := by
  have discards (s : State) : s.keepsNotices (if left = .drying then s.discardWindow else s) := by
    split
    · exact State.keepsNotices_of_links rfl rfl
    · exact s.keepsNotices_refl
  have leaves (s : State) : s.keepsNotices (if s.mfe.mode = .onRequest then s.endContactOnLeaving else s) := by
    split
    · unfold State.endContactOnLeaving
      split
      · exact s.keepsNotices_refl
      · unfold State.endContact
        generalize hv : State.mk s.pending .. = v
        exact State.keepsNotices_trans (t := v) (State.keepsNotices_of_links (by rw [← hv]) (by rw [← hv]))
          (State.offerRecord_keepsNotices _ _)
    · exact s.keepsNotices_refl
  have starts (s : State) : s.keepsNotices (if p = .drying then s.startWindow else s) := by
    split
    · exact State.keepsNotices_of_links rfl rfl
    · exact s.keepsNotices_refl
  exact State.keepsNotices_trans (State.keepsNotices_trans (discards s) (leaves _)) (starts _)

/-- A phase change leaves every notice but those of the phase and of capture units. -/
theorem State.changePhase_keeps (s : State) (p : Phase) (c : Cause) (l : Link) (m : Notice) (phase : m.code ≠ 0)
    (capture : m.code ≠ 7) (hm : m ∈ (s.link l).pending) : m ∈ ((s.changePhase p c).link l).pending := by
  rw [s.changePhase_eq]
  refine State.notifyBoth_keeps _ (Ne.symm phase) l ((State.offerAround_keepsNotices _ _ _ _ _).link l m capture ?_)
  have front : s.keepsNotices (s.afterFront p) :=
    State.keepsNotices_trans (State.keepsNotices_of_links (by simp) (by simp)) (State.followDry_keepsNotices _ _ p)
  have blocks : (s.afterFront p).keepsNotices (if p = .done then ((s.afterDrum p).followHeat s.csq.phase p).wearSave
      else (s.afterDrum p).followHeat s.csq.phase p) := by
    split <;> exact State.keepsNotices_of_links (by simp) (by simp)
  exact (State.keepsNotices_trans front blocks).link l m capture hm

/-! ### What a temperature brings about (R88, R93, R106, R117) -/

theorem State.reaction_channel (s : State) (ch : Channel) (temp : ch = .tIn ∨ ch = .tExh ∨ ch = .tHsg) (j : Judged)
    (bad : j.entered = true → j.status ≠ .good) (c : Channel) : (s.reaction ch j).mfe.channel c = s.mfe.channel c := by
  have settled : (s.reaction ch j).mfe = ((s.heatTemperature ch j).cycleTemperature ch j).mfe :=
    (State.settleTests_frame _).2.2.2.2.2.1
  rw [settled]
  rcases (s.reaction_reacts ch temp j bad).front with stays | moves
  · rw [stays.mfe]
  · rw [moves.mfe]; exact (s.followFront_keeps _).1 c

theorem State.enforce_interlocked (s : State) : s.enforce.interlocked = s.interlocked := by
  rw [s.enforce_sheds.frame]; rfl

/-- The loss of T_exh or T_hsg (R88, R117). -/
theorem State.losesSensor_settled (s : State) (lost : s.mfe.tExh.diag = true ∨ s.mfe.tHsg.diag = true) :
    s.losesSensor.settleTests.heatOff
      ∧ if s.csq.phase = .prep ∨ s.csq.phase = .drying then
          s.losesSensor.settleTests.faulted .sensor s.csq.phase ∧ s.losesSensor.settleTests.stopped
        else s.heats s.losesSensor.settleTests := by
  have locked : s.interlocked = true := by
    rcases lost with h | h <;> simp [State.interlocked, h]
  have phase : s.enforce.csq.phase = s.csq.phase := by simp
  by_cases needed : s.csq.phase = .prep ∨ s.csq.phase = .drying
  · have running : s.enforce.csq.phase ≠ .fault := by
      rw [phase]; rcases needed with h | h <;> rw [h] <;> decide
    have fault : s.losesSensor = s.enforce.enterFault .sensor := by
      rw [State.losesSensor, State.faultIf, if_pos (by simpa using needed), State.takeFault, if_neg running]
    obtain ⟨faulted, stopped⟩ := s.enforce.enterFault_stopped .sensor (by decide)
    have inFault : (s.enforce.enterFault .sensor).csq.phase = .fault := faulted.1.1
    rw [if_pos needed, fault, State.settleTests_of_phase _ (by rw [inFault]; decide), ← phase]
    exact ⟨stopped.2.2.2.2, faulted, stopped⟩
  · have stands : s.losesSensor = s.enforce := by
      rw [State.losesSensor, State.faultIf, if_neg (by simpa using needed)]
    rw [if_neg needed, stands, State.settleTests_of_interlocked _ (s.enforce_interlocked.trans locked)]
    exact ⟨s.enforce_heatOff locked, State.heats_of_sheds s.enforce_sheds⟩

theorem State.housingCheck_limit (s : State) (value : Int) (mode : s.mfe.mode = .running) (unlocked : s.hsc.lockout = false)
    (hot : (s.housingLimit : Int) ≤ value) : s.housingCheck value = (s.locksOut value).endDrying .overheat := by
  rw [s.housingCheck_eq, if_pos ⟨mode, by simp [unlocked], hot⟩]

theorem State.locksOut_lockout (s : State) (value : Int) : (s.locksOut value).hsc.lockout = true
    ∧ (s.locksOut value).heatOff ∧ (s.locksOut value).interlocked = true
    ∧ ∀ l, Notice.stage 0 true value ∈ ((s.locksOut value).link l).pending := by
  generalize hv : ({ s with hsc := { s.hsc with lockout := true } } : State) = v
  have lockout : v.hsc.lockout = true := by rw [← hv]
  have locked : v.interlocked = true := by simp [State.interlocked, lockout]
  have made : s.locksOut value = v.enforce.notifyBoth (.stage 0 true value) := by rw [← hv]; rfl
  have hsc : (s.locksOut value).hsc = v.enforce.hsc := by rw [made]; simp
  have still : (s.locksOut value).hsc.lockout = true := by rw [hsc, v.enforce_sheds.frame]; exact lockout
  refine ⟨still, State.heatOff_of_hsc hsc (v.enforce_heatOff locked), by simp [State.interlocked, still], fun l => ?_⟩
  rw [made]; exact State.notifyBoth_tells _ _ l

/-- The housing limit (R93). -/
theorem State.housing_settled (s : State) (value : Int) :
    let t := ((s.locksOut value).endDrying .overheat).settleTests
    t.hsc.lockout = true ∧ t.heatOff ∧ (∀ l : Link, Notice.stage 0 true value ∈ (t.link l).pending)
      ∧ if s.csq.phase = .drying then t.isCooling .overheat else t = { s with hsc := t.hsc, linkA := t.linkA, linkS := t.linkS } := by
  intro t
  obtain ⟨lockout, off, locked, tells⟩ := s.locksOut_lockout value
  have phase : (s.locksOut value).csq.phase = s.csq.phase := (s.locksOut_quiet value).stays.phase
  by_cases drying : s.csq.phase = .drying
  · have cooling := (s.locksOut value).endDrying_isCooling .overheat (phase.trans drying)
    have entered : ((s.locksOut value).endDrying .overheat).csq.phase = .cooling := cooling.1.1
    have same : t = (s.locksOut value).endDrying .overheat := State.settleTests_of_phase _ (by rw [entered]; decide)
    have change : (s.locksOut value).endDrying .overheat =
        ((s.locksOut value).setEnd .overheat).changePhase .cooling (.ended .overheat) := if_pos (phase.trans drying)
    rw [if_pos drying, same]
    refine ⟨?_, cooling.2.2.1, fun l => ?_, cooling⟩
    · rw [change, (State.changePhase_onlyCools _ .cooling _ (by decide)).lockout]; exact lockout
    · rw [change]
      refine State.changePhase_keeps _ _ _ l _ (by simp [Notice.code]) (by simp [Notice.code]) ?_
      have link : ((s.locksOut value).setEnd .overheat).link l = (s.locksOut value).link l := by cases l <;> rfl
      rw [link]; exact tells l
  · have same : t = s.locksOut value := by
      have ends : (s.locksOut value).endDrying .overheat = s.locksOut value := if_neg (by rw [phase]; exact drying)
      exact (congrArg State.settleTests ends).trans (State.settleTests_of_interlocked _ locked)
    rw [if_neg drying, same]
    refine ⟨lockout, off, tells, ?_⟩
    rw [State.locksOut]
    apply State.ext_blocks <;> simp

section Seen

variable (u x : State) (code : Code) {j : Judged} (bad : j.entered = true → j.status ≠ .good)

include bad

theorem State.readInto_sensorLost (ch : Channel) (loop : ch = .tExh ∨ ch = .tHsg) (entered : j.entered = true)
    (diag : (x.mfe.channel ch).diag = true) : u.sensorLost ((u.readInto x).reaction ch j) := by
  have lost : (u.readInto x).mfe.tExh.diag = true ∨ (u.readInto x).mfe.tHsg.diag = true := by
    rcases loop with rfl | rfl
    · exact .inl diag
    · exact .inr diag
  obtain ⟨off, rest⟩ := (u.readInto x).losesSensor_settled lost
  rw [State.reaction, (u.readInto x).reaction_lost ch j loop entered (bad entered)]
  refine ⟨off, ?_⟩
  split
  · next needed => rw [if_pos (show (u.readInto x).csq.phase = _ ∨ _ from needed)] at rest; exact rest
  · next not =>
    rw [if_neg (show ¬((u.readInto x).csq.phase = _ ∨ _) from not)] at rest
    exact State.heatFrame_of_heats u x rest

omit bad in
/-- With no reaction the stage tests are judged on the readings. -/
theorem State.readInto_testsJudged {ch : Channel} (h : (u.readInto x).reaction ch j = (u.readInto x).settleTests) :
    (u.readInto ((u.readInto x).reaction ch j)).testsJudged ((u.readInto x).reaction ch j) := by
  have heats := (u.readInto x).settleTests_heats
  have same : u.readInto (u.readInto x).settleTests = u.readInto x := by rw [heats.frame]
  rw [h, same]
  exact (u.readInto x).settleTests_judged

theorem State.readInto_exhaustConverted (entered : j.entered = true ↔ u.entersDiag x .tExh)
    (status : j.status = x.mfe.tExh.outcome .tExh code) (value : j.channel.value = x.mfe.tExh.value) :
    u.exhaustConverted ((u.readInto x).reaction .tExh j) code := by
  have reading := (u.readInto x).reaction_channel .tExh (.inr (.inl rfl)) j bad .tExh
  have channel : ((u.readInto x).reaction .tExh j).mfe.tExh = x.mfe.tExh := reading
  have loss : u.entersDiag ((u.readInto x).reaction .tExh j) .tExh ↔ j.entered = true := by
    rw [entered, State.entersDiag, State.entersDiag, reading]
  unfold State.exhaustConverted
  simp only [loss, channel, ← status, ← value]
  split
  · next lost => exact State.readInto_sensorLost u x bad .tExh (.inl rfl) lost (entered.mp lost).2
  · next safe =>
    have safe := Bool.eq_false_of_not_eq_true safe
    split
    · next cools =>
      have ends : (u.readInto x).reaction .tExh j = (u.readInto x).endCooling .coolTarget := by
        rw [State.reaction, (u.readInto x).reaction_tExh_cools j safe cools]
        refine State.settleTests_of_phase _ ?_
        obtain ⟨-, rest⟩ := (u.readInto x).endCooling_ends .coolTarget
        split at rest
        · rw [rest.1.1]; decide
        · rw [rest.1.1]; decide
      rw [ends]
      exact (u.readInto x).endCooling_ends .coolTarget
    · next warm =>
      refine State.readInto_testsJudged u x ?_
      rw [State.reaction, (u.readInto x).reaction_tExh_stands j safe warm]

theorem State.readInto_housingConverted (entered : j.entered = true ↔ u.entersDiag x .tHsg)
    (status : j.status = x.mfe.tHsg.outcome .tHsg code) (value : j.channel.value = x.mfe.tHsg.value)
    (mode : x.mfe.mode = u.mfe.mode) : u.housingConverted ((u.readInto x).reaction .tHsg j) code := by
  have reading := (u.readInto x).reaction_channel .tHsg (.inr (.inr rfl)) j bad .tHsg
  have channel : ((u.readInto x).reaction .tHsg j).mfe.tHsg = x.mfe.tHsg := reading
  have loss : u.entersDiag ((u.readInto x).reaction .tHsg j) .tHsg ↔ j.entered = true := by
    rw [entered, State.entersDiag, State.entersDiag, reading]
  unfold State.housingConverted
  simp only [loss, channel, ← status, ← value]
  split
  · next lost => exact State.readInto_sensorLost u x bad .tHsg (.inr rfl) lost (entered.mp lost).2
  · next safe =>
    have safe := Bool.eq_false_of_not_eq_true safe
    split
    · next hot =>
      obtain ⟨running, good, unlocked, limit⟩ := hot
      have reacts : (u.readInto x).reaction .tHsg j =
          (((u.readInto x).locksOut j.channel.value).endDrying .overheat).settleTests := by
        rw [State.reaction, (u.readInto x).reaction_tHsg j safe, if_pos good,
          (u.readInto x).housingCheck_limit _ (mode.trans running) unlocked limit]
      obtain ⟨lockout, off, tells, rest⟩ := (u.readInto x).housing_settled j.channel.value
      rw [reacts]
      refine ⟨lockout, off, tells, ?_⟩
      split
      · next drying => rw [if_pos (show (u.readInto x).csq.phase = .drying from drying)] at rest; exact rest
      · next not =>
        rw [if_neg (show (u.readInto x).csq.phase ≠ .drying from not)] at rest
        rw [State.heatFrame, rest]
    · next cool =>
      refine State.readInto_testsJudged u x ?_
      rw [State.reaction, (u.readInto x).reaction_tHsg j safe]
      split
      · next good =>
        rw [(u.readInto x).housingCheck_eq, if_neg]
        rintro ⟨running, unlocked, limit⟩
        exact cool ⟨mode.symm.trans running, good, by simpa using unlocked, limit⟩
      · rfl

end Seen

/-! ### The stuck check (R92) -/

section Smallest

/- A fold for the smallest of a list. -/
variable {f : Option Nat → Nat → Option Nat} (hf : ∀ m x, f m x = some (m.elim x (min x)))

include hf

/-- The smallest of a list is at most a bound exactly when one of them is. -/
theorem foldl_smallest_le (v : Int) (l : List Nat) (m : Option Nat) :
    (l.foldl f m).any (fun x => decide (((x / 2 : Nat) : Int) ≤ v)) = true
      ↔ m.any (fun x => decide (((x / 2 : Nat) : Int) ≤ v)) = true ∨ ∃ x ∈ l, ((x / 2 : Nat) : Int) ≤ v := by
  induction l generalizing m with
  | nil => simp
  | cons x xs ih =>
    rw [List.foldl_cons, ih, hf]
    cases m with
    | none => simp
    | some y =>
      have least : ((min x y / 2 : Nat) : Int) ≤ v ↔ ((x / 2 : Nat) : Int) ≤ v ∨ ((y / 2 : Nat) : Int) ≤ v := by omega
      simp only [Option.elim_some, Option.any_some, decide_eq_true_eq, List.mem_cons, exists_eq_or_imp, least]
      tauto

theorem foldl_smallest_isNone (l : List Nat) (m : Option Nat) : (l.foldl f m).isNone = true ↔ m = none ∧ l = [] := by
  induction l generalizing m with
  | nil => simp
  | cons x xs ih => rw [List.foldl_cons, ih, hf]; simp

end Smallest

/-- An enabled stage whose expected current the value reaches by half (R92). -/
def State.currentMet (s : State) (v : Int) : Prop :=
  ∃ n : StageNo, s.word 3 n.val ≠ 0 ∧ (((s.word 3 (8 + n.val)).toNat / 2 : Nat) : Int) ≤ v

theorem State.stageEnabled_iff (s : State) (n : StageNo) : s.stageEnabled n = true ↔ s.word 3 n.val ≠ 0 := by
  rw [State.stageEnabled, State.setting, bne_iff_ne, ne_eq, ne_eq, ← BitVec.toNat_inj]; rfl

theorem mem_four (n : StageNo) : n ∈ four := by fin_cases n <;> decide

theorem State.stuckCurrent_iff (s : State) (v : Int) : s.stuckCurrent v = true ↔ s.currentMet v := by
  have any : s.stuckCurrent v = s.smallestExpected.any (fun x => decide (((x / 2 : Nat) : Int) ≤ v)) := by
    unfold State.stuckCurrent
    cases s.smallestExpected <;> rfl
  rw [any, State.smallestExpected, foldl_smallest_le fun m x => by cases m <;> rfl]
  simp [mem_four, s.stageEnabled_iff, State.currentMet, State.expectedCurrent, State.setting]

theorem State.smallestExpected_isNone (s : State) :
    s.smallestExpected.isNone = true ↔ ¬∃ n : StageNo, s.word 3 n.val ≠ 0 := by
  rw [State.smallestExpected, foldl_smallest_isNone fun m x => by cases m <;> rfl]
  simp [List.filter_eq_nil_iff, mem_four, s.stageEnabled_iff]

theorem State.anyOn_eq_false_iff (s : State) : s.hsc.stages.any Stage.on = false ↔ s.heatOff := by
  simp [Quad.any, State.heatOff, State.stage, Fin.forall_fin_succ, Quad.get, and_assoc]

/-- The conditions of a stuck report, with the report armed (R92). -/
def State.stuckNow (s : State) (v : Int) : Prop :=
  s.heatOff ∧ 4000 ≤ s.clock - s.hsc.lastOn.getD s.resetTime ∧ s.currentMet v ∧ s.hsc.stuckArmed = true

theorem State.stuck_iff (s : State) (v : Int) : s.stuck v = true ↔ s.stuckNow v := by
  rw [State.stuck, State.longOff, Bool.and_eq_true, Bool.and_eq_true, Bool.and_eq_true, Bool.not_eq_true', decide_eq_true_iff,
    s.anyOn_eq_false_iff, s.stuckCurrent_iff, State.stuckNow, and_assoc, and_assoc]

/-- From `s` to `t` the outputs stand, or the last of them has gone off just now. -/
structure State.switchesNow (s t : State) : Prop where
  clock : t.clock = s.clock
  resetTime : t.resetTime = s.resetTime
  sst : t.sst = s.sst
  stuckArmed : t.hsc.stuckArmed = s.hsc.stuckArmed
  outputs : (∀ n : StageNo, (t.stage n).on = (s.stage n).on) ∧ t.hsc.lastOn = s.hsc.lastOn
    ∨ ¬s.heatOff ∧ t.hsc.lastOn = some s.clock

theorem State.switchesNow_refl (s : State) : s.switchesNow s := ⟨rfl, rfl, rfl, rfl, .inl ⟨fun _ => rfl, rfl⟩⟩

theorem State.switchesNow_trans {s t u : State} (h : s.switchesNow t) (h' : t.switchesNow u) : s.switchesNow u where
  clock := h'.clock.trans h.clock
  resetTime := h'.resetTime.trans h.resetTime
  sst := h'.sst.trans h.sst
  stuckArmed := h'.stuckArmed.trans h.stuckArmed
  outputs := by
    have clock := h.clock
    rcases h.outputs with ⟨on, last⟩ | ⟨heated, last⟩
    · rcases h'.outputs with ⟨on', last'⟩ | ⟨heated', last'⟩
      · exact .inl ⟨fun n => (on' n).trans (on n), last'.trans last⟩
      · exact .inr ⟨fun off => heated' fun n => (on n).trans (off n), by rw [last', clock]⟩
    · rcases h'.outputs with ⟨on', last'⟩ | ⟨-, last'⟩
      · exact .inr ⟨heated, last'.trans last⟩
      · exact .inr ⟨heated, by rw [last', clock]⟩

/-- What went off just now is not long off, so the stuck check finds what it found before. -/
theorem State.stuckNow_of_switchesNow {s t : State} (h : s.switchesNow t) (v : Int) : t.stuckNow v ↔ s.stuckNow v := by
  have met : t.currentMet v ↔ s.currentMet v := by
    simp only [State.currentMet, State.word, h.sst]
  rw [State.stuckNow, State.stuckNow, met, h.clock, h.resetTime, h.stuckArmed]
  rcases h.outputs with ⟨on, last⟩ | ⟨heated, last⟩
  · rw [last]; simp only [State.heatOff, on]
  · rw [last]
    refine ⟨fun long => ?_, fun long => absurd long.1 heated⟩
    have := long.2.1
    simp at this

theorem State.stageOff_switchesNow (s : State) (n : StageNo) : s.switchesNow (s.stageOff n) := by
  have frame := (s.stageOff_sheds n).frame
  refine ⟨by rw [frame], by rw [frame], by rw [frame], by rw [frame], ?_⟩
  unfold State.stageOff
  split
  · next on => exact .inr ⟨fun off => Bool.false_ne_true ((off n).symm.trans on), rfl⟩
  · exact .inl ⟨fun _ => rfl, rfl⟩

theorem State.stagesOff_switchesNow (s : State) (ns : List StageNo) : s.switchesNow (s.stagesOff ns) :=
  foldl_rel State.switchesNow_refl (fun _ _ _ => State.switchesNow_trans) State.stageOff_switchesNow ns s

theorem State.setStage_switchesNow (s : State) (n : StageNo) (x : Stage) (h : x.on = (s.stage n).on) :
    s.switchesNow (s.setStage n x) := by
  refine ⟨rfl, rfl, rfl, rfl, .inl ⟨fun m => ?_, rfl⟩⟩
  by_cases e : m = n
  · subst e; rw [State.stage_setStage_same, h]
  · rw [State.stage_setStage_other _ _ _ _ e]

theorem State.notifyBoth_switchesNow (s : State) (n : Notice) : s.switchesNow (s.notifyBoth n) :=
  ⟨by simp, by simp, by simp, by simp, .inl ⟨fun m => by rw [State.stage_congr (s := s) (by simp)], by simp⟩⟩

theorem State.judgeTest_switchesNow (s : State) (n : StageNo) : s.switchesNow (s.judgeTest n) := by
  unfold State.judgeTest
  split
  · exact s.switchesNow_refl
  · split
    · exact s.switchesNow_refl
    · dsimp only
      split
      · exact s.setStage_switchesNow n _ rfl
      · refine State.switchesNow_trans (State.switchesNow_trans ?_ (State.stageOff_switchesNow _ n))
          (State.notifyBoth_switchesNow _ _)
        exact s.setStage_switchesNow n _ rfl

theorem State.judgeTests_switchesNow (s : State) : s.switchesNow s.judgeTests :=
  State.switchesNow_trans (foldl_rel State.switchesNow_refl (fun _ _ _ => State.switchesNow_trans)
    State.judgeTest_switchesNow four s) (State.stagesOff_switchesNow _ _)

/-- R90: the reading after of a pending test. -/
theorem Stage.readAfter_eq (st : Stage) (v : Int) : st.readAfter v = { st with
    test := st.test.map fun x => { x with after := some (x.after.getD v) } } := by
  obtain ⟨on, switchTime, offWaived, openMark, onTime, rem, test, testDemand⟩ := st
  cases test with
  | none => rfl
  | some x => obtain ⟨baseline, after⟩ := x; cases after <;> rfl

theorem State.stage_recordAfter (s : State) (v : Int) (n : StageNo) : (s.recordAfter v).stage n = { s.stage n with
    test := (s.stage n).test.map fun x => { x with after := some (x.after.getD v) } } := by
  rw [State.recordAfter]
  dsimp only [State.stage]
  rw [Quad.get_map, Stage.readAfter_eq]

theorem State.recordAfter_switchesNow (s : State) (v : Int) : s.switchesNow (s.recordAfter v) :=
  ⟨rfl, rfl, rfl, rfl, .inl ⟨fun n => by rw [s.stage_recordAfter], rfl⟩⟩

theorem State.heatRead_switchesNow (s : State) (v : Int) : s.switchesNow (s.heatRead v) := by
  unfold State.heatRead
  split
  · exact State.switchesNow_trans (s.recordAfter_switchesNow v) (State.judgeTests_switchesNow _)
  · exact s.recordAfter_switchesNow v

theorem State.heatRead_stuck (s : State) (v : Int) : (s.heatRead v).stuck v = true ↔ s.stuckNow v := by
  rw [State.stuck_iff, State.stuckNow_of_switchesNow (s.heatRead_switchesNow v)]

/-! ### HEAT_STUCK found (R92, R118, R119) -/

/-- `stuckReported` looks at pins, drum, sequencer and nothing else of the machine before. -/
theorem State.stuckReported_congr {u v t : State} (pins : v.pins = u.pins) (dmc : v.dmc = u.dmc) (csq : v.csq = u.csq)
    (h : v.stuckReported t) : u.stuckReported t := by
  simp only [State.stuckReported, State.coolsInFault, pins, dmc, csq] at h
  exact h

theorem State.takeFault_phase (s : State) (k : FaultKind) : (s.takeFault k).csq.phase = .fault := by
  unfold State.takeFault
  split
  · next fault => rw [(s.faultInFault_stays k).phase]; exact fault
  · rw [s.enterFault_inFault, (State.driveInFault_stays _ _).phase]
    exact (s.inFault_faulted k).1.1

/-- R92: the report disarmed, HEAT_STUCK is the fault, or joins or replaces the fault there is. -/
theorem State.takeFault_stuckReported (s : State) (off : s.heatOff) (armed : s.hsc.stuckArmed = false) :
    s.stuckReported (s.takeFault .heatStuck) := by
  by_cases fault : s.csq.phase = .fault
  · have take : s.takeFault .heatStuck = s.faultInFault .heatStuck := if_pos fault
    have carry (t : State) (cools : s.onlyCools t) : t.hsc.stuckArmed = false ∧ t.heatOff :=
      ⟨cools.stuckArmed.trans armed, State.heatOff_of_onlyCools cools off⟩
    rw [take, State.faultInFault]
    cases record : s.csq.record.fault with
    | none =>
      obtain ⟨armed, off⟩ := carry s s.onlyCools_refl
      exact ⟨armed, off, fun other => absurd fault other, fun f hf => by rw [record] at hf; exact absurd hf (by simp)⟩
    | some f =>
      dsimp only
      by_cases kind : f.kind = .heatStuck
      · rw [if_neg fun h => h.1 kind]
        obtain ⟨armed, off⟩ := carry s.countFault (State.onlyCools_of_eq (by simp))
        refine ⟨armed, off, fun other => absurd fault other, fun g hg _ => ?_⟩
        obtain rfl : f = g := by rw [record] at hg; exact Option.some.inj hg
        rw [if_pos kind]
        exact s.countFault_again f fault record
      · rw [if_pos ⟨kind, rfl⟩]
        obtain ⟨cools, less, has⟩ := s.replaceFault_cools f
        obtain ⟨armed, off⟩ := carry _ less
        refine ⟨armed, off, fun other => absurd fault other, fun g hg _ => ?_⟩
        obtain rfl : f = g := by rw [record] at hg; exact Option.some.inj hg
        have time : (s.replaceFault f).refTime = s.refTime := by simp [State.refTime]
        rw [if_neg kind, time]
        exact ⟨cools, has⟩
  · have take : s.takeFault .heatStuck = s.enterFault .heatStuck := if_neg fault
    obtain ⟨faulted, cools, off, kept⟩ := s.enterFault_stuck
    rw [take]
    exact ⟨kept.trans armed, off, fun _ => ⟨faulted, cools⟩, fun _ _ h => absurd h fault⟩

theorem State.afterStuckCheck_found (s : State) (v : Int) (found : s.stuckNow v) :
    s.afterStuckCheck v = { s with hsc := { s.hsc with stuckArmed := false } } := by
  obtain ⟨-, -, ⟨n, enabled, -⟩, -⟩ := id found
  rw [State.afterStuckCheck, if_neg, if_pos ((s.stuck_iff v).mpr found)]
  rw [s.smallestExpected_isNone]
  exact fun none => none ⟨n, enabled⟩

/-- A conversion that does not meet the condition arms the report (R92). -/
theorem State.afterStuckCheck_arms (s : State) (v : Int) (some : ∃ n : StageNo, s.word 3 n.val ≠ 0)
    (low : ¬s.currentMet v) : s.afterStuckCheck v = { s with hsc := { s.hsc with stuckArmed := true } } := by
  rw [State.afterStuckCheck, if_neg fun none => (s.smallestExpected_isNone.mp none) some,
    if_neg fun found => low ((s.stuck_iff v).mp found).2.2.1, if_neg fun met => low ((s.stuckCurrent_iff v).mp met)]

/-- With no stage enabled, or with no output off for long enough, the report stands (R92). -/
theorem State.afterStuckCheck_stands (s : State) (v : Int) (not : ¬s.stuckNow v)
    (h : ¬((∃ n : StageNo, s.word 3 n.val ≠ 0) ∧ ¬s.currentMet v)) : s.afterStuckCheck v = s := by
  rw [State.afterStuckCheck]
  split
  · rfl
  · next some =>
    rw [s.smallestExpected_isNone, not_not] at some
    have met : s.currentMet v := not_not.mp fun low => h ⟨some, low⟩
    rw [if_neg fun found => not ((s.stuck_iff v).mp found), if_pos ((s.stuckCurrent_iff v).mpr met)]

/-- A conversion of I_heat that finds the heat stuck. -/
theorem State.heatCurrent_stuck (s : State) (v : Int) (running : s.mfe.mode = .running) (found : s.stuckNow v) :
    s.stuckReported (s.heatCurrent v).settleTests := by
  have read := s.heatRead_quiet v
  have reads := s.heatRead_switchesNow v
  have foundNow := (State.stuckNow_of_switchesNow reads v).mpr found
  have take : s.heatCurrent v = State.takeFault
      { s.heatRead v with hsc := { (s.heatRead v).hsc with stuckArmed := false } } .heatStuck := by
    rw [s.heatCurrent_eq, if_pos running, State.afterStuckCheck_found _ v foundNow, State.faultIf,
      if_pos ((s.heatRead_stuck v).mpr found)]
  rw [take, State.settleTests_of_phase _ (by rw [State.takeFault_phase]; decide)]
  have alike : (s.heatRead v).pins = s.pins ∧ (s.heatRead v).dmc = s.dmc ∧ (s.heatRead v).csq = s.csq := by
    unfold State.heatRead; split <;> simp
  obtain ⟨pins, dmc, csq⟩ := alike
  refine State.stuckReported_congr ?_ ?_ ?_ (State.takeFault_stuckReported _ foundNow.1 rfl)
  · exact pins
  · exact dmc
  · exact csq

/-! ### A conversion of I_heat that finds nothing stuck (R90, R91, R98) -/

/-- The stuck report after a conversion of I_heat that finds nothing stuck. -/
theorem State.heatCurrent_quiet (s : State) (v : Int) (not : ¬(s.mfe.mode = .running ∧ s.stuckNow v)) :
    ∃ armed, s.heatCurrent v = { s.heatRead v with hsc := { (s.heatRead v).hsc with stuckArmed := armed } }
      ∧ (s.mfe.mode = .running ∧ (∃ n : StageNo, s.word 3 n.val ≠ 0) ∧ ¬s.currentMet v → armed = true)
      ∧ (¬(s.mfe.mode = .running ∧ (∃ n : StageNo, s.word 3 n.val ≠ 0) ∧ ¬s.currentMet v) → armed = s.hsc.stuckArmed) := by
  have reads := s.heatRead_switchesNow v
  have now := State.stuckNow_of_switchesNow reads v
  have word (n : StageNo) : (s.heatRead v).word 3 n.val = s.word 3 n.val := by rw [State.word, State.word, reads.sst]
  have met : (s.heatRead v).currentMet v ↔ s.currentMet v := by simp only [State.currentMet, State.word, reads.sst]
  have stands : s.heatRead v = { s.heatRead v with hsc := { (s.heatRead v).hsc with stuckArmed := s.hsc.stuckArmed } } := by
    rw [← reads.stuckArmed]
  rw [s.heatCurrent_eq]
  by_cases running : s.mfe.mode = .running
  · have found : ¬s.stuckNow v := fun found => not ⟨running, found⟩
    rw [if_pos running, State.faultIf, if_neg (by rw [s.heatRead_stuck]; exact found)]
    by_cases low : (∃ n : StageNo, s.word 3 n.val ≠ 0) ∧ ¬s.currentMet v
    · refine ⟨true, State.afterStuckCheck_arms _ v ?_ (by rw [met]; exact low.2), fun _ => rfl,
        fun other => absurd ⟨running, low⟩ other⟩
      simpa only [word] using low.1
    · refine ⟨s.hsc.stuckArmed, ?_, fun arms => absurd arms.2 low, fun _ => rfl⟩
      rw [State.afterStuckCheck_stands _ v (by rw [now]; exact found) (by simpa only [word, met] using low)]
      exact stands
  · rw [if_neg running]
    exact ⟨s.hsc.stuckArmed, stands, fun arms => absurd arms.1 running, fun _ => rfl⟩

theorem State.judgeTest_of_none (s : State) (n : StageNo) (h : (s.stage n).test = none) : s.judgeTest n = s := by
  unfold State.judgeTest; rw [h]

/-- The test of one stage leaves the others without a test as they were. -/
theorem State.judgeTest_other (s : State) (n m : StageNo) (other : m ≠ n) (h : (s.stage m).test = none) :
    ((s.judgeTest n).stage m).test = none := by
  have set (x : Stage) : ((s.setStage n x).stage m).test = none := by rw [State.stage_setStage_other _ _ _ _ other, h]
  unfold State.judgeTest
  split
  · exact h
  · split
    · exact h
    · dsimp only
      split
      · exact set _
      · rw [State.stage_congr (State.notifyBoth_frame _ _).2.2.2.2.2.2.2.2.2.1]
        exact (State.stageOff_sheds _ n).test m (set _)

theorem State.foldl_judgeTest_of_none (s : State) (l : List StageNo) (h : ∀ m ∈ l, (s.stage m).test = none) :
    l.foldl State.judgeTest s = s := by
  induction l with
  | nil => rfl
  | cons m ms ih =>
    rw [List.foldl_cons, s.judgeTest_of_none m (h m List.mem_cons_self)]
    exact ih fun n hn => h n (List.mem_cons_of_mem _ hn)

/-- With one test pending the judgement is that of its stage. -/
theorem State.judgeTests_single (s : State) (n : StageNo) (others : ∀ m : StageNo, m ≠ n → (s.stage m).test = none) :
    s.judgeTests = (s.judgeTest n).shedToCap := by
  obtain ⟨before, after, four, fresh, rest⟩ : ∃ before after, four = before ++ n :: after ∧ n ∉ before ∧ n ∉ after := by
    fin_cases n
    · exact ⟨[], [1, 2, 3], rfl, by decide, by decide⟩
    · exact ⟨[0], [2, 3], rfl, by decide, by decide⟩
    · exact ⟨[0, 1], [3], rfl, by decide, by decide⟩
    · exact ⟨[0, 1, 2], [], rfl, by decide, by decide⟩
  rw [State.judgeTests, four, List.foldl_append, List.foldl_cons,
    s.foldl_judgeTest_of_none before fun m hm => others m (ne_of_mem_of_not_mem hm fresh),
    State.foldl_judgeTest_of_none _ after fun m hm => s.judgeTest_other n m (ne_of_mem_of_not_mem hm rest)
      (others m (ne_of_mem_of_not_mem hm rest))]

/-- After shedding to the cap, whatever the stuck report, the stage tests leave a stage that was on, and one that is not
available. -/
theorem State.settled_shed_stage (s : State) (armed : Bool) (n : StageNo)
    (h : (s.stage n).on = true ∨ s.available n = false) :
    (State.settleTests { s.shedToCap with hsc := { s.shedToCap.hsc with stuckArmed := armed } }).stage n = s.shedToCap.stage n := by
  generalize hz : ({ s.shedToCap with hsc := { s.shedToCap.hsc with stuckArmed := armed } } : State) = z
  have stage (m : StageNo) : z.stage m = s.shedToCap.stage m := by rw [← hz]; rfl
  rcases h with on | gone
  · rcases s.shedToCap_full with same | full
    · rw [(z.settleTests_keeps.2 n).2.2.1 (by rw [stage, same]; exact on), stage]
    · have full : z.effectiveCap ≤ z.stagesOn := by rw [← hz]; exact full
      rw [z.settleTests_of_full full, stage]
  · have available : z.available n = false := by
      have : z.available n = s.available n := by
        have enabled : z.stageEnabled n = s.stageEnabled n := by
          rw [State.stageEnabled, State.stageEnabled, State.setting, State.setting, State.word, State.word, ← hz,
            s.shedToCap_sheds.frame]
        rw [State.available, State.available, enabled, stage, s.shedToCap_sheds.openMark]
      exact this.trans gone
    rw [(z.settleTests_keeps.2 n).2.2.2 available, stage]

theorem State.settled_shed_openMark (s : State) (armed : Bool) (n : StageNo) :
    ((State.settleTests { s.shedToCap with hsc := { s.shedToCap.hsc with stuckArmed := armed } }).stage n).openMark
      = (s.stage n).openMark := by
  rw [(State.settleTests_keeps _).2 n |>.2.1]
  exact s.shedToCap_sheds.openMark n

/-- R91: one test judged, and what the cap and the stage tests make of it. -/
theorem State.judgeTest_settled (s : State) (n : StageNo) (x : PendingTest) (a : Int) (armed : Bool)
    (test : (s.stage n).test = some { x with after := some a }) :
    let w := s.judgeTest n
    let t := State.settleTests { w.shedToCap with hsc := { w.shedToCap.hsc with stuckArmed := armed } }
    if ((s.expectedCurrent n / 2 : Nat) : Int) ≤ a - x.baseline then
      (t.stage n).openMark = (s.stage n).openMark ∧ ((s.stage n).on = true → (t.stage n).test = none)
    else
      (t.stage n).openMark = true ∧ (t.stage n).on = false ∧ (t.stage n).test = none
        ∧ ∀ l : Link, Notice.stage (n.val + 1) false 0 ∈ (t.link l).pending := by
  intro w t
  split
  · next pass =>
    have made : w = s.setStage n { s.stage n with test := none } := by
      show s.judgeTest n = _
      unfold State.judgeTest; rw [test]; exact if_pos pass
    have stage : w.stage n = { s.stage n with test := none } := by rw [made, State.stage_setStage_same]
    refine ⟨(w.settled_shed_openMark armed n).trans (by rw [stage]), fun on => ?_⟩
    have kept : t.stage n = w.shedToCap.stage n := w.settled_shed_stage armed n (.inl (by rw [stage]; exact on))
    rw [kept]
    exact w.shedToCap_sheds.test n (by rw [stage])
  · next fail =>
    have made : w = ((s.setStage n { s.stage n with test := none, openMark := true }).stageOff n).notifyBoth
        (.stage (n.val + 1) false 0) := by
      show s.judgeTest n = _
      unfold State.judgeTest; rw [test]; exact if_neg fail
    have stage : (w.stage n).openMark = true ∧ (w.stage n).on = false ∧ (w.stage n).test = none := by
      rw [made, State.stage_congr (State.notifyBoth_frame _ _).2.2.2.2.2.2.2.2.2.1, State.stage_stageOff,
        State.stage_setStage_same]
      split
      · next off => exact ⟨rfl, off, rfl⟩
      · rw [if_pos rfl]; exact ⟨rfl, rfl, rfl⟩
    obtain ⟨openMark, off, none⟩ := stage
    have kept : t.stage n = w.shedToCap.stage n :=
      w.settled_shed_stage armed n (.inr (by rw [State.available, openMark]; simp))
    have stays := w.shedToCap_sheds.on n
    refine ⟨(w.settled_shed_openMark armed n).trans openMark, ?_, ?_, fun l => ?_⟩
    · rw [kept]
      exact Bool.eq_false_of_not_eq_true fun on => Bool.false_ne_true (off.symm.trans (stays on))
    · rw [kept]; exact w.shedToCap_sheds.test n none
    · have link : t.link l = w.link l := State.link_congr (by
        show (State.settleTests _).linkA = _
        simp) (by
        show (State.settleTests _).linkS = _
        simp) l
      rw [link, made]; exact State.notifyBoth_tells _ _ l

section Seen

variable (u x : State)

/-- What only the heat stage controller and the links' notices follow. -/
theorem State.heatRead_frame (s : State) (v : Int) : s.heatRead v =
    { s with hsc := (s.heatRead v).hsc, linkA := (s.heatRead v).linkA, linkS := (s.heatRead v).linkS } := by
  unfold State.heatRead
  split <;> apply State.ext_blocks <;> simp

theorem State.readInto_heaterConverted (mode : x.mfe.mode = u.mfe.mode) :
    u.heaterConverted (((u.readInto x).heatCurrent x.mfe.iHeat.value).settleTests) := by
  generalize hv : x.mfe.iHeat.value = v
  have value : (((u.readInto x).heatCurrent v).settleTests).mfe.iHeat.value = v := by
    have channel : (((u.readInto x).heatCurrent v).settleTests).mfe.channel .iHeat = x.mfe.channel .iHeat := by
      rw [(State.settleTests_frame _).2.2.2.2.2.1]
      rcases ((u.readInto x).heatCurrent_reacts v).front with stays | moves
      · rw [stays.mfe]
      · rw [moves.mfe]; exact (State.followFront_keeps _ _).1 .iHeat
    exact (congrArg ChannelState.value channel).trans hv
  unfold State.heaterConverted
  simp only [value]
  split
  · next found =>
    obtain ⟨running, off, long, met, armed⟩ := found
    exact State.stuckReported_congr (v := u.readInto x) rfl rfl rfl
      ((u.readInto x).heatCurrent_stuck v (mode.trans running) ⟨off, long, met, armed⟩)
  · next not =>
    obtain ⟨armed, made, arms, stands⟩ := (u.readInto x).heatCurrent_quiet v fun ⟨running, off, long, met, was⟩ =>
      not ⟨mode.symm.trans running, off, long, met, was⟩
    have read := (u.readInto x).heatRead_frame v
    have frame : ((u.readInto x).heatCurrent v).settleTests = { u.readInto x with
        hsc := ((u.readInto x).heatCurrent v).settleTests.hsc
        linkA := ((u.readInto x).heatCurrent v).settleTests.linkA
        linkS := ((u.readInto x).heatCurrent v).settleTests.linkS } := by
      apply State.ext_blocks <;> simp <;> rw [made] <;> simp <;> rw [read]
    refine ⟨by rw [State.heatFrame, frame], ?_⟩
    split
    · next service =>
      intro n y hy others
      have after (m : StageNo) := (u.readInto x).stage_recordAfter v m
      have single : (u.readInto x).heatRead v = (((u.readInto x).recordAfter v).judgeTest n).shedToCap := by
        rw [State.heatRead, if_pos (show (u.readInto x).csq.phase = .service from service)]
        refine State.judgeTests_single _ n fun m other => ?_
        rw [after, show ((u.readInto x).stage m).test = none from others m other]; rfl
      have test : (((u.readInto x).recordAfter v).stage n).test = some { y with after := some (y.after.getD v) } := by
        rw [after, show ((u.readInto x).stage n).test = some y from hy]; rfl
      have judged := ((u.readInto x).recordAfter v).judgeTest_settled n y _ armed test
      rw [single] at made
      rw [made] at value ⊢
      rw [State.testJudgedAt, value]
      rw [after n] at judged
      exact judged
    · next other =>
      have read : (u.readInto x).heatRead v = (u.readInto x).recordAfter v :=
        if_neg (show (u.readInto x).csq.phase ≠ .service from other)
      have settled : ((u.readInto x).heatCurrent v).settleTests = (u.readInto x).heatCurrent v := by
        refine State.settleTests_of_phase _ ?_
        rw [made, read]; exact other
      rw [settled, made, read]
      refine ⟨?_, fun n => (u.readInto x).stage_recordAfter v n⟩
      split
      · next low => rw [arms ⟨mode.trans low.1, low.2⟩]; rfl
      · next not => rw [stands fun low => not ⟨mode.symm.trans low.1, low.2⟩]; rfl

end Seen

section Convert

variable {u v : State} {rotation : Channel} {slowDue : Option Nat} {startupDone : Nat}
  (hv : v = u.scheduled rotation slowDue startupDone) (ch : Channel) (code : Code)

include hv

theorem State.scheduled_told : v.told ch code = u.readInto (v.told ch code) := by
  apply State.ext_blocks <;> simp <;> rw [hv] <;> rfl

theorem State.scheduled_told_mode : (v.told ch code).mfe.mode = u.mfe.mode := by
  rw [v.told_mfe, State.readingMade]; simp; rw [hv]; rfl

theorem State.scheduled_told_reading : (u.newReading ch code).sameReading ((v.told ch code).mfe.channel ch) := by
  have reading := (v.readOf ch code).roundMade_reading [ch] ch
  rw [State.readOf_channel, if_pos rfl, hv, State.scheduled_newReading, ← hv] at reading
  rw [v.told_mfe]; exact reading

/-- Under no HOLD watch, what the reactions start from: `u` with the reading, the record and the offers made. -/
theorem State.scheduled_temperature (temp : ch = .tIn ∨ ch = .tExh ∨ ch = .tHsg) (no : u.noHoldWatch) :
    ∃ x : State, v.convert ch code = (u.readInto x).reaction ch (u.judged ch code) ∧ x.mfe.mode = u.mfe.mode
      ∧ ((u.judged ch code).entered = true ↔ u.entersDiag x ch)
      ∧ (u.judged ch code).status = (x.mfe.channel ch).outcome ch code
      ∧ (u.judged ch code).channel.value = (x.mfe.channel ch).value := by
  have judged : v.judged ch code = u.judged ch code := by rw [hv, State.scheduled_judged]
  have quiet : (v.told ch code).noHoldWatch := State.noHoldWatch_of_armsLess (v.told_noWatch ch code) (by rw [hv]; exact no)
  have observes := (v.told ch code).offerTemperature_observes ch (u.judged ch code) quiet
  have reading := State.scheduled_told_reading hv ch code
  have own : u.newReading ch code = (u.judged ch code).channel := by rcases temp with rfl | rfl | rfl <;> rfl
  rw [own] at reading
  obtain ⟨value, -, -, diag, -⟩ := (ChannelState.sameReading_iff _ _).mp reading
  refine ⟨(v.told ch code).offerTemperature ch (u.judged ch code), ?_, ?_, ?_, ?_, ?_⟩
  · have same : (v.told ch code).offerTemperature ch (u.judged ch code) =
        u.readInto ((v.told ch code).offerTemperature ch (u.judged ch code)) := by
      rw [observes.frame, State.scheduled_told hv ch code]
    rw [v.convert_temperature ch code temp, judged, ← same]
  · rw [observes.frame]; exact State.scheduled_told_mode hv ch code
  · rw [observes.frame, State.entersDiag]
    simp only [diag]
    exact (u.mfe.channel ch).judge_entered code _ _
  · rw [observes.frame]
    dsimp only
    rw [ChannelState.outcome_congr reading]
    exact ((u.mfe.channel ch).judge_status code _ _ ch temp).symm
  · rw [observes.frame]; exact value.symm

theorem State.scheduled_slowReaction (no : u.noHoldWatch) : u.slowReaction (v.convert ch code) ch code := by
  have bad := u.judged_bad ch code
  have plain (h : ch = .g ∨ ch = .iMot) : v.convert ch code = { u.readInto (v.convert ch code) with cap := u.cap } := by
    have told : v.told ch code = v.readingMade ch code := by rcases h with rfl | rfl <;> rfl
    have cap : (v.readingMade ch code).cap = u.cap := by rw [State.readingMade]; simp; rw [hv]; rfl
    rw [v.convert_plain ch code h]
    conv_lhs => rw [State.scheduled_told hv ch code]
    rw [told, ← cap]
  cases ch
  case tIn =>
    obtain ⟨x, made, -, entered, -⟩ := State.scheduled_temperature hv .tIn code (.inl rfl) no
    rw [made]; exact State.readInto_inletConverted u x entered
  case tExh =>
    obtain ⟨x, made, -, entered, status, value⟩ := State.scheduled_temperature hv .tExh code (.inr (.inl rfl)) no
    rw [made]; exact State.readInto_exhaustConverted u x code bad entered status value
  case tHsg =>
    obtain ⟨x, made, mode, entered, status, value⟩ := State.scheduled_temperature hv .tHsg code (.inr (.inr rfl)) no
    rw [made]; exact State.readInto_housingConverted u x code bad entered status value mode
  case iHeat =>
    have value : v.plainValue .iHeat code = (v.told .iHeat code).mfe.iHeat.value := by
      have reading := State.scheduled_told_reading hv .iHeat code
      have := ((ChannelState.sameReading_iff _ _).mp reading).1
      rw [hv] at this ⊢; exact this.symm
    rw [v.convert_iHeat, value]
    conv => arg 2; rw [State.scheduled_told hv .iHeat code]
    exact State.readInto_heaterConverted u _ (State.scheduled_told_mode hv .iHeat code)
  case g => exact plain (.inl rfl)
  case iMot => exact plain (.inr rfl)

/-- A conversion outside the fast schedule, whole. -/
theorem State.scheduled_made : u.conversionMade (v.convert ch code) ch code :=
  State.scheduled_conversionMade hv ch code (State.scheduled_slowReaction hv ch code)

end Convert

theorem State.scheduled_same (u : State) : u = u.scheduled u.mfe.rotation u.mfe.slowDue u.mfe.startupDone := rfl

/-- Settles O9: each of the two commands is one conversion, the slow one with the schedule moved on. -/
theorem slowAndRoundConversions : Obligations.SlowAndRoundConversions := by
  intro code s on
  refine ⟨fun due slowDue running => ?_, fun r round ch next onRequest => ?_⟩
  · have left : s.commandLeft (.slowConversion code) = some (due - s.clock) := congrArg (Option.map _) slowDue
    refine ⟨_, s.timed_some _ _ _ on left, ?_⟩
    obtain ⟨v, hv⟩ : ∃ v, v = (s.moment due).scheduled s.mfe.rotation.nextSlow (some ((s.moment due).clock + 250))
        s.mfe.startupDone := ⟨_, rfl⟩
    have converts : (s.moment due).slowConversion code = v.convert s.mfe.rotation code := by rw [hv]; rfl
    obtain ⟨rotation, schedule⟩ := v.convert_running s.mfe.rotation code (by rw [hv]; exact running)
    rw [converts]
    refine ⟨rotation.trans ?_, fun still => (schedule still).trans (by rw [hv]; rfl), fun slow => ?_,
      State.scheduled_made hv s.mfe.rotation code⟩
    · rw [hv]; show s.mfe.rotation.nextSlow = _; cases s.mfe.rotation <;> rfl
    · have other : s.mfe.rotation ≠ .g := by intro g; rw [g] at slow; simp at slow
      rw [v.convert_lastPositive, if_neg other, hv]; rfl
  · have next : s.roundNext = some ch := by
      rw [State.roundNext, onRequest, show s.mfe.round = some r from round]; exact next
    have converts : s.roundConversion code = s.convert ch code := by rw [State.roundConversion, next]
    refine ⟨_, s.event_on _ on, ?_⟩
    rw [converts]
    refine ⟨fun same => ?_, s.convert_lastPositive ch code, State.scheduled_made s.scheduled_same ch code⟩
    obtain ⟨-, rotation, -, slowDue⟩ := s.convert_schedule ch code same
    exact ⟨rotation, slowDue⟩

/-! ### The start-up round (R16, R126, R168) -/

theorem CaptureUnit.advance_of_silent (x : CaptureUnit) (k : RecordKind) (h : x.state ≠ .running) : x.advance k = x := by
  have not : x.offered k = false := by simp [CaptureUnit.offered, h]
  unfold CaptureUnit.advance
  split
  · rfl
  · rw [if_neg (by rw [not]; exact Bool.false_ne_true)]

/-- With no capture unit running a record reaches nothing (R140). -/
theorem State.offerRecord_silent (s : State) (r : Record) (h : ∀ u : Fin 3, (s.unit u).state ≠ .running) :
    s.offerRecord r = s := by
  have takes (u : Fin 3) : (s.unit u).takes r.kind = false := by simp [CaptureUnit.takes, CaptureUnit.offered, h u]
  have none (l : Link) : (s.takersOf l (s.cap.units.map (·.takes r.kind))).any id = false := by
    have at0 := takes 0
    have at1 := takes 1
    have at2 := takes 2
    simp only [State.unit, Triple.get] at at0 at1 at2
    simp [State.takersOf, Triple.any, Triple.get, Triple.map, at0, at1, at2]
  have units : s.cap.units.map (·.advance r.kind) = s.cap.units := by
    have at0 := (s.unit 0).advance_of_silent r.kind (h 0)
    have at1 := (s.unit 1).advance_of_silent r.kind (h 1)
    have at2 := (s.unit 2).advance_of_silent r.kind (h 2)
    simp only [State.unit, Triple.get] at at0 at1 at2
    simp [Triple.map, at0, at1, at2]
  have advanced : ({ s with cap := { s.cap with units := s.cap.units.map (·.advance r.kind) } } : State) = s := by
    rw [units]
  unfold State.offerRecord
  dsimp only
  rw [none, none, advanced]
  rfl

theorem State.recordAfter_of_none (s : State) (v : Int) (h : ∀ n : StageNo, (s.stage n).test = none) :
    s.recordAfter v = s := by
  have same (st : Stage) (none : st.test = none) : st.readAfter v = st := by rw [Stage.readAfter, none]
  have stages : s.hsc.stages.map (Stage.readAfter v) = s.hsc.stages := by
    have at0 := same _ (h 0)
    have at1 := same _ (h 1)
    have at2 := same _ (h 2)
    have at3 := same _ (h 3)
    simp only [State.stage, Quad.get] at at0 at1 at2 at3
    simp [Quad.map, at0, at1, at2, at3]
  rw [State.recordAfter, stages]

/-- IDLE with the front end ON_REQUEST, the heat off and no test pending. -/
structure State.rests (s : State) : Prop where
  phase : s.csq.phase = .idle
  mode : s.mfe.mode = .onRequest
  off : s.heatOff
  tests : ∀ n : StageNo, (s.stage n).test = none

/-- A machine at rest answers no temperature, unless T_in is lost, which a DIAG channel is not (R88, R93). -/
theorem State.reaction_rests (s : State) (h : s.rests) (ch : Channel) (temp : ch = .tIn ∨ ch = .tExh ∨ ch = .tHsg)
    (j : Judged) (bad : j.entered = true → j.status ≠ .good) (inlet : ch = .tIn → j.entered = false) :
    s.reaction ch j = s := by
  have other (p : Phase) (e : .idle ≠ p) : s.csq.phase ≠ p := h.phase ▸ e
  have settles : s.settleTests = s := s.settleTests_of_phase (other .service (by decide))
  have lost : s.losesSensor = s := by
    rw [State.losesSensor, s.enforce_of_heatOff h.off, State.faultIf, h.phase]; rfl
  have stands : (s.heatTemperature ch j).cycleTemperature ch j = s := by
    rcases temp with rfl | rfl | rfl
    · rw [s.reaction_tIn, s.heatTemperature_tIn, if_neg (other .service (by decide)), State.inletSeen, inlet rfl]; rfl
    · cases entered : j.entered with
      | true => rw [s.reaction_lost _ j (.inl rfl) entered (bad entered), lost]
      | false => exact s.reaction_tExh_stands j entered fun cools => other .cooling (by decide) cools.1
    · cases entered : j.entered with
      | true => rw [s.reaction_lost _ j (.inr rfl) entered (bad entered), lost]
      | false =>
        have idle : s.housingCheck j.channel.value = s := by
          rw [s.housingCheck_eq, h.mode]; exact if_neg fun e => FrontMode.noConfusion e.1
        rw [s.reaction_tHsg j entered, idle, ite_self]
  rw [State.reaction, stands, settles]

theorem State.heatCurrent_rests (s : State) (h : s.rests) (v : Int) : (s.heatCurrent v).settleTests = s := by
  have service : s.csq.phase ≠ .service := by rw [h.phase]; decide
  have still : s.heatCurrent v = s := by
    rw [s.heatCurrent_eq, h.mode, if_neg (by decide), State.heatRead, if_neg service, s.recordAfter_of_none v h.tests]
  rw [still, s.settleTests_of_phase service]

theorem State.readingMade_alone (s : State) (ch : Channel) (code : Code) (round : s.mfe.round = none) :
    s.readingMade ch code = { s with mfe := (s.readingMade ch code).mfe } := by
  have made : (s.readOf ch code).mfe.round = none := by rw [(s.readOf_schedule ch code).2.2.1]; exact round
  rw [State.readingMade, State.roundMade_open _ _ fun r hr => by rw [made] at hr; exact absurd hr (by simp)]
  apply State.ext_blocks <;> simp

/-- A conversion in IDLE that no unit, no round and no stage waits for touches the front end alone. -/
theorem State.convert_rests (s : State) (ch : Channel) (code : Code) (h : s.rests) (round : s.mfe.round = none)
    (quiet : s.unobserved) (inlet : ch = .tIn → s.mfe.tIn.diag = true) :
    s.convert ch code = { s with mfe := (s.convert ch code).mfe } := by
  obtain ⟨units, no⟩ := quiet
  have made := s.readingMade_alone ch code round
  have told : s.told ch code = s.readingMade ch code := by
    unfold State.told
    split
    · rfl
    · rfl
    · refine State.offerRecord_silent _ _ fun u => ?_
      rw [made]; exact (units u).2
  have mode : (s.readingMade ch code).mfe.mode = s.mfe.mode := by rw [State.readingMade]; simp
  have rests : (s.told ch code).rests := by
    rw [told]
    exact ⟨by rw [made]; exact h.phase, mode.trans h.mode, by rw [made]; exact h.off, by rw [made]; exact h.tests⟩
  have temperature (temp : ch = .tIn ∨ ch = .tExh ∨ ch = .tHsg) : s.convert ch code = s.told ch code := by
    have silent : (s.told ch code).noWatch := by rw [told, made]; exact no
    rw [s.convert_temperature ch code temp, State.offerTemperature_of_noWatch _ _ _ silent]
    refine State.reaction_rests _ rests ch temp _ (s.judged_bad ch code) ?_
    rintro rfl
    refine Bool.eq_false_of_not_eq_true fun entered => ?_
    have awake := ((s.mfe.tIn.judge_entered code _ _).mp entered).1
    exact Bool.false_ne_true (awake.symm.trans (inlet rfl))
  have stands : s.convert ch code = s.told ch code := by
    cases ch
    case tIn => exact temperature (.inl rfl)
    case tExh => exact temperature (.inr (.inl rfl))
    case tHsg => exact temperature (.inr (.inr rfl))
    case iHeat => rw [s.convert_iHeat]; exact State.heatCurrent_rests _ rests _
    case g => rfl
    case iMot => rfl
  rw [stands, told]
  exact made

/-- A held RESET_LINK is taken when the part becomes ready (R168). -/
theorem LinkState.takeHeldReset_eq (lk : LinkState) : lk.takeHeldReset = { lk with
    resetHeld := false, resetting := lk.resetHeld || lk.resetting
    reply := if lk.resetHeld ∧ lk.resetting = false then some { kind := 0xDF, payload := [0] } else lk.reply } := by
  obtain ⟨assembler, gapDue, queue, inProgress, reply, resetHeld, resetting⟩ := lk
  cases resetHeld <;> cases resetting <;> rfl

/-- The part is ready, and held RESET_LINKs are taken. -/
def State.readied (s : State) : State :=
  { s with boot := .ready, linkA := s.linkA.takeHeldReset, linkS := s.linkS.takeHeldReset }

theorem State.becomeReady_eq (s : State) : s.becomeReady =
    s.readied.faultIf (s.pins.cutOpen && s.csq.phase == .idle) .cutoffOpen := rfl

/-- Of the links, a fault outside SERVICE brings records and notices alone. -/
theorem State.inFault_recorded (s : State) (k : FaultKind) (h : s.csq.phase ≠ .service) : s.recorded (s.inFault k) := by
  have before : s.recorded (s.beforeFault k) := by
    unfold State.beforeFault
    rw [if_neg h]; exact State.recorded_of_links rfl rfl
  exact State.recorded_trans (State.recorded_trans before (State.changePhase_recorded _ _ _))
    (State.notifyBoth_recorded _ _)

/-- Of the links, a fault outside SERVICE with the drum stopped leaves replies and requests (R118). -/
theorem State.enterFault_sameTalk (s : State) (k : FaultKind) (h : k ≠ .heatStuck) (service : s.csq.phase ≠ .service)
    (l : Link) : (s.link l).sameTalk ((s.enterFault k).link l) := by
  rw [s.enterFault_eq_inFault k h]; exact ((s.inFault_recorded k service).link l).1

/-- The end of the start-up round (R126, R168). -/
theorem State.becomeReady_made (s : State) : let t := s.becomeReady
    t.boot = .ready ∧ t.clock = s.clock ∧ t.pins = s.pins
      ∧ if s.pins.cutOpen ∧ s.csq.phase = .idle then
          t.faulted .cutoffOpen .idle ∧ t.stopped ∧ ∀ l : Link, (s.link l).takeHeldReset.sameTalk (t.link l)
        else t = s.readied := by
  intro t
  by_cases opened : s.pins.cutOpen = true ∧ s.csq.phase = .idle
  · have made : t = s.readied.enterFault .cutoffOpen := by
      have take : s.readied.takeFault .cutoffOpen = s.readied.enterFault .cutoffOpen :=
        if_neg (by rw [show s.readied.csq.phase = .idle from opened.2]; decide)
      rw [← take]
      exact (s.becomeReady_eq).trans (if_pos (by simpa using opened))
    obtain ⟨faulted, stopped⟩ := s.readied.enterFault_stopped .cutoffOpen (by decide)
    rw [show s.readied.csq.phase = .idle from opened.2] at faulted
    rw [if_pos opened, made]
    refine ⟨by simp; rfl, by simp; rfl, by simp; rfl, faulted, stopped, fun l => ?_⟩
    have link : s.readied.link l = (s.link l).takeHeldReset := by cases l <;> rfl
    rw [← link]
    exact s.readied.enterFault_sameTalk .cutoffOpen (by decide)
      (by rw [show s.readied.csq.phase = .idle from opened.2]; decide) l
  · have made : t = s.readied := (s.becomeReady_eq).trans (if_neg (by simpa using opened))
    rw [if_neg opened, made]
    exact ⟨rfl, rfl, rfl, rfl⟩

/-- Settles O6: each of the twelve is one conversion, and the end of the round is `State.becomeReady`. -/
theorem startupRound : Obligations.StartupRound := by
  intro code s boot
  have on : s.boot ≠ .off := by rw [boot]; decide
  refine ⟨fun k done => ?_, fun done => ?_⟩
  · generalize hch : [Channel.tIn, .tIn, .tIn, .tExh, .tExh, .tExh, .tHsg, .tHsg, .tHsg, .iHeat, .g, .iMot].getD k.val .tIn = ch
    have order : startupOrder[s.mfe.startupDone]? = some ch := by
      rw [done, ← hch]; fin_cases k <;> rfl
    have inlet : ch = .tIn → k.val < 3 := by
      rw [← hch]; fin_cases k <;> decide
    obtain ⟨v, hv⟩ : ∃ v, v = s.scheduled s.mfe.rotation s.mfe.slowDue (k.val + 1) := ⟨_, rfl⟩
    have converts : s.startupConversion code = v.convert ch code := by
      unfold State.startupConversion
      split
      · next found => rw [order] at found; obtain rfl := Option.some.inj found; rw [hv, ← done]; rfl
      · next no => exact (no ch boot order).elim
    refine ⟨_, s.event_on _ on, ?_⟩
    rw [converts]
    refine ⟨State.scheduled_made hv ch code, ?_, ?_, fun same => ?_, fun phase mode round quiet off tests diag => ?_⟩
    · rw [v.convert_startupDone, hv]; rfl
    · rw [v.convert_lastPositive, hv]; rfl
    · obtain ⟨mode, rotation, fastDue, slowDue⟩ := v.convert_schedule ch code (by rw [same, hv]; rfl)
      rw [mode, rotation, fastDue, slowDue, hv]
      exact ⟨rfl, rfl, rfl, rfl⟩
    · have rests : v.rests := by rw [hv]; exact ⟨phase, mode, off, tests⟩
      have alone := v.convert_rests ch code rests (by rw [hv]; exact round) (by rw [hv]; exact quiet)
        fun e => by rw [hv]; exact diag (inlet e)
      rw [alone, hv]; rfl
  · have ready : (if s.boot = .startup ∧ s.mfe.startupDone = startupOrder.length then s.becomeReady else s) = s.becomeReady :=
      if_pos ⟨boot, done⟩
    refine ⟨_, s.event_on _ on, ?_⟩
    rw [ready]
    obtain ⟨isReady, clock, pins, made⟩ := s.becomeReady_made
    refine ⟨isReady, clock, pins, ?_⟩
    split
    · next opened =>
      rw [if_pos opened] at made
      obtain ⟨faulted, stopped, talk⟩ := made
      refine ⟨faulted, stopped, fun l => ?_⟩
      have talks := talk l
      rw [LinkState.takeHeldReset_eq] at talks
      exact talks
    · next not =>
      rw [if_neg not] at made
      rw [made, State.readied, LinkState.takeHeldReset_eq, LinkState.takeHeldReset_eq]
      rfl
/-! ### The values offered to the watch units (R136) -/

/-- A watch of action HOLD on a rise of T_hsg over 0. -/
def housingHoldWatch : WatchSettings :=
  { quantity := .tHsg, sense := .risesAbove, limit := 0, hysteresis := 0, mode := .once, action := .hold }

/-- DRYING with the front end in ON_REQUEST, a slow conversion of T_hsg due and a watch of action HOLD on it armed. -/
def dryingOnRequest : State :=
  { State.reset with
    boot := .ready
    mfe := { Mfe.reset with
      rotation := .tHsg, slowDue := some 0, tHsg := { ChannelState.resetTemp with value := 0, diag := false } }
    csq := { Csq.reset with phase := .drying }
    cap := { Cap.reset with watches := { Cap.reset.watches with
      q0 := { WatchUnit.free with state := .armed, settings := some housingHoldWatch, previous := some 0 } } } }

/-- Refutes O42: code 512 is 1560, above the housing limit. Without the watch the front end stays in ON_REQUEST, where R93
does not look at the limit, so phase and lockout stand. With it the hit enters HOLD, which takes the front end to RUNNING
before the heat stage controller reacts to the same conversion, and the lockout latches. (The mode of a state that
`State.schedulesRight` admits is RUNNING in DRYING; the statement does not ask for it.) -/
theorem not_valuesOffered : ¬ Obligations.ValuesOffered := by
  intro h
  obtain ⟨slow, -⟩ := h 512 dryingOnRequest (by decide)
  obtain ⟨t, ht, m, hm, -, whole⟩ := slow (by decide)
  obtain rfl := Host.Outcome.next.inj ht
  obtain rfl := Host.Outcome.next.inj hm
  have lockout := congrArg (fun u : State => u.hsc.lockout) (whole (by decide))
  exact absurd lockout (by decide)

end Sys2Proof.Machine

-- ==== Proofs: the dryness estimator ====
/-! PROOFS. Bar samples and contacts, the end of a window, and the declaration of dryness (chapter 2). -/

namespace Sys2Proof.Machine

/-! ### A record and the blocks that it does not look at (R140, R141) -/

/-- The clock, the capture pool and the links of `s`, and everything else of `v`. -/
def State.withRest (s v : State) : State :=
  { v with clock := s.clock, cap := s.cap, linkA := s.linkA, linkS := s.linkS }

section Rest

variable (s v : State)

@[simp] theorem State.withRest_link (l : Link) : (s.withRest v).link l = s.link l := by cases l <;> rfl

theorem State.withRest_setUnit (u : Fin 3) (x : CaptureUnit) :
    (s.withRest v).setUnit u x = (s.setUnit u x).withRest v := rfl

theorem State.withRest_modLink (l : Link) (f : LinkState → LinkState) :
    (s.withRest v).modLink l f = (s.modLink l f).withRest v := by cases l <;> rfl

theorem State.withRest_endOfCapture (l : Link) : (s.withRest v).endOfCapture l = s.endOfCapture l := by cases l <;> rfl

theorem State.withRest_deliver (l : Link) : (s.withRest v).deliver l = (s.deliver l).withRest v := by
  unfold State.deliver
  dsimp only
  rw [State.withRest_modLink, State.withRest_endOfCapture]
  split
  · rw [State.withRest_modLink]
  · rfl

theorem State.withRest_endCapture (u : Fin 3) (why : CaptureEnd) :
    (s.withRest v).endCapture u why = (s.endCapture u why).withRest v := by
  have unit : (s.withRest v).unit u = s.unit u := rfl
  unfold State.endCapture
  dsimp only
  rw [unit, State.withRest_setUnit]
  split
  · rfl
  · rw [State.notify, State.withRest_modLink, State.withRest_deliver]; rfl

theorem State.withRest_endCaptures (p : Fin 3 → CaptureUnit → Bool) (why : CaptureEnd) :
    (s.withRest v).endCaptures p why = (s.endCaptures p why).withRest v :=
  List.foldl_hom (f := fun s : State => s.withRest v) fun s u => by
    have unit : (s.withRest v).unit u = s.unit u := rfl
    rw [unit, State.withRest_endCapture]
    split <;> rfl

theorem State.withRest_modTakers (mine : Triple Bool) (f : CaptureUnit → CaptureUnit) :
    (s.withRest v).modTakers mine f = (s.modTakers mine f).withRest v :=
  List.foldl_hom (f := fun s : State => s.withRest v) fun s u => by split <;> rfl

theorem State.withRest_takeFor (l : Link) (mine : Triple Bool) (r : Record) :
    (s.withRest v).takeFor l mine r = (s.takeFor l mine r).withRest v := by
  unfold State.takeFor
  dsimp only
  rw [State.withRest_modLink, State.withRest_modTakers, State.withRest_link, State.withRest_link]
  generalize State.modTakers (s.modLink l _) mine _ = counted
  split
  · rw [State.withRest_modTakers, State.withRest_endCaptures, State.withRest_endCaptures]
  · rw [State.withRest_modLink, State.withRest_endCaptures]; rfl

/-- A record reaches the capture pool and the links, and looks at nothing else but the clock. -/
theorem State.withRest_offerRecord (r : Record) : (s.withRest v).offerRecord r = (s.offerRecord r).withRest v := by
  have taken (s : State) (l : Link) (mine : Triple Bool) :
      (if mine.any id then (s.withRest v).takeFor l mine r else s.withRest v)
        = (if mine.any id then s.takeFor l mine r else s).withRest v := by
    split
    · rw [State.withRest_takeFor]
    · rfl
  have mine (l : Link) (takers : Triple Bool) : (s.withRest v).takersOf l takers = s.takersOf l takers := rfl
  unfold State.offerRecord
  dsimp only
  rw [mine, mine, ← taken, ← taken]
  rfl

/-- In particular it commutes with a change of the readings and of the estimator. -/
theorem State.offerRecord_readings (m : Mfe) (d : Dry) (r : Record) :
    State.offerRecord { s with mfe := m, dry := d } r = { s.offerRecord r with mfe := m, dry := d } := by
  refine (s.withRest_offerRecord { s with mfe := m, dry := d } r).trans ?_
  apply State.ext_blocks <;> simp [State.withRest]

end Rest

/-! ### A bar sample at the contact (R17, R18, R20, R24, R25) -/

/-- The sample `g` is above the contact threshold (R17). -/
def State.above (s : State) (g : Nat) : Bool := decide (s.contactThreshold ≤ g)

/-- The estimator once a bar sample has added to the window (R24). -/
def State.sampled (s : State) (g : Nat) : Dry :=
  { s.dry with window := s.dry.window.map (Window.addSample g (s.above g) s.dmc.turning) }

/-- The estimator after a sample that finds no contact open: one opens at a sample above the threshold (R17). -/
def State.contactOpened (s : State) (g : Nat) : Dry :=
  { s.sampled g with contact := if s.above g then some (Contact.opened s.clock g) else none }

/-- The sample `g` ends the contact `c`: it is the third below the threshold in a row (R18). -/
def State.endsContact (s : State) (g : Nat) (c : Contact) : Bool := !s.above g && decide (3 ≤ c.below + 1)

/-- The estimator after the sample that ends its contact, which the window counts (R18, R25). -/
def State.contactEnded (s : State) (g : Nat) : Dry :=
  { s.sampled g with window := (s.sampled g).window.map fun w => { w with n := w.n + 1 }, contact := none }

/-- The contact `c` after one more sample (R18). -/
def State.furtherContact (s : State) (g : Nat) (c : Contact) : Contact := if s.above g then c.above g else c.dip

/-- The estimator after a sample at which the contact `c` does not end: it goes on, or BAR_SHORT latches (R20). -/
def State.contactKept (s : State) (g : Nat) (c : Contact) : Dry :=
  if 20000 ≤ c.since + 1 then (s.sampled g).latchBarShort
  else { s.sampled g with contact := some (s.furtherContact g c) }

theorem State.sampled_window (s : State) (g : Nat) : (s.sampled g).window = s.dry.window.map fun w =>
    { w with
      a := w.a + (s.above g).toNat, sumG := w.sumG + if s.above g then g else 0
      turn := w.turn + s.dmc.turning.toNat } := by
  unfold State.sampled Window.addSample
  cases s.above g <;> rfl

theorem State.furtherContact_since (s : State) (g : Nat) (c : Contact) : (s.furtherContact g c).since = c.since + 1 := by
  unfold State.furtherContact
  split <;> rfl

theorem State.barSample_opens (s : State) (g : Nat) (h : s.dry.contact = none) :
    s.barSample g = { s with dry := s.contactOpened g } := by
  unfold State.barSample State.contactOpened
  dsimp only [State.modWindow]
  rw [h]
  by_cases above : s.above g = true
  · rw [if_pos above]; exact if_pos above
  · rw [if_neg above]; exact if_neg above

theorem State.keepContact_eq (s : State) (g : Nat) (c : Contact) :
    State.keepContact { s with dry := s.sampled g } (s.furtherContact g c) = { s with dry := s.contactKept g c } := by
  unfold State.keepContact State.contactKept
  rw [State.furtherContact_since]
  split <;> rfl

theorem State.barSample_goesOn (s : State) (g : Nat) (c : Contact) (h : s.dry.contact = some c)
    (goesOn : s.endsContact g c = false) : s.barSample g = { s with dry := s.contactKept g c } := by
  rw [← s.keepContact_eq]
  unfold State.barSample State.furtherContact
  dsimp only [State.modWindow]
  rw [h]
  by_cases above : s.above g = true
  · rw [if_pos above]; exact if_pos above
  · have short : c.dip.below < 3 := by
      simp only [State.endsContact, above, Bool.not_false, Bool.true_and, decide_eq_false_iff_not] at goesOn
      exact Nat.lt_of_not_le goesOn
    rw [if_neg above]
    exact (if_neg above).trans (if_pos short)

theorem State.barSample_ends (s : State) (g : Nat) (c : Contact) (h : s.dry.contact = some c)
    (ends : s.endsContact g c = true) :
    s.barSample g = State.offerRecord { s with dry := s.contactEnded g } c.dip.record := by
  obtain ⟨below, third⟩ := Bool.and_eq_true_iff.mp ends
  have below : ¬s.above g = true := by simpa using below
  have third : ¬c.dip.below < 3 := Nat.not_lt.mpr (of_decide_eq_true third)
  unfold State.barSample
  dsimp only [State.modWindow]
  rw [h]
  exact (if_neg below).trans (if_neg third)

/-- What BAR_SHORT leaves under either method (R20). -/
theorem Dry.latchBarShort_frame (d : Dry) : d.latchBarShort.barShort = true ∧ d.latchBarShort.contact = none ∧
    d.latchBarShort.method = .demand ∧ d.latchBarShort.window = d.window ∧ d.latchBarShort.s = d.s ∧
    d.latchBarShort.m = d.m ∧ d.latchBarShort.ds = d.ds ∧ d.latchBarShort.lastN = d.lastN := by
  unfold Dry.latchBarShort
  dsimp only
  split <;> simp [*]

/-- BAR_SHORT takes BARS to DEMAND (R21). -/
theorem Dry.latchBarShort_of_bars (d : Dry) (h : d.method = .bars) : d.latchBarShort =
    { d with
      barShort := true, contact := none, method := .demand, streak := 0, history := [], remaining := 255
      estimate := if d.estimate = .declared then .declared else .settling } := by
  unfold Dry.latchBarShort
  simp [h]

theorem State.contactKept_window (s : State) (g : Nat) (c : Contact) :
    (s.contactKept g c).window = (s.sampled g).window := by
  unfold State.contactKept
  split
  · simp only [Dry.latchBarShort_frame]
  · rfl

/-- The window counts the contact at the sample that ends it (R24, R25). -/
theorem State.contactEnded_window (s : State) (g : Nat) : (s.contactEnded g).window = s.dry.window.map fun w =>
    { w with
      a := w.a + (s.above g).toNat, sumG := w.sumG + if s.above g then g else 0
      turn := w.turn + s.dmc.turning.toNat, n := w.n + 1 } := by
  rw [State.contactEnded, s.sampled_window, Option.map_map]
  rfl

/-! ### The bar sample within the fast conversion (R13, R17 to R25) -/

/-- `v` with the waiting replies and the requests in progress of `t`. -/
def State.withReplies (v t : State) : State :=
  { v with
    linkA := { v.link .a with reply := (t.link .a).reply, inProgress := (t.link .a).inProgress }
    linkS := { v.link .s with reply := (t.link .s).reply, inProgress := (t.link .s).inProgress } }

/-- The fast conversion as the estimator meets it: both readings made and the round judged. -/
def State.fastRound (v : State) (bar motor : Code) : State := (v.fastRead bar motor).roundMade [.g, .iMot]

section Fast

variable (v : State) (bar motor : Code)

@[simp] theorem State.fastRound_frame : (v.fastRound bar motor).pending = v.pending ∧
    (v.fastRound bar motor).boot = v.boot ∧ (v.fastRound bar motor).clock = v.clock ∧
    (v.fastRound bar motor).resetTime = v.resetTime ∧ (v.fastRound bar motor).pins = v.pins ∧
    (v.fastRound bar motor).dry = v.dry ∧ (v.fastRound bar motor).dmc = v.dmc ∧
    (v.fastRound bar motor).tgm = v.tgm ∧ (v.fastRound bar motor).hsc = v.hsc ∧
    (v.fastRound bar motor).csq = v.csq ∧ (v.fastRound bar motor).cap = v.cap ∧
    (v.fastRound bar motor).sst = v.sst := by
  simp [State.fastRound, State.fastRead]

theorem State.fastConversion_replies (l : Link) :
    ((v.fastConversion bar motor).link l).reply = ((v.fastRound bar motor).link l).reply
      ∧ ((v.fastConversion bar motor).link l).inProgress = ((v.fastRound bar motor).link l).inProgress :=
  LinkState.sameTalk_reply ((v.fastConversion_recorded bar motor).link l).1

/-- Of the links, the readings and the round change replies and requests in progress alone. -/
theorem State.fastRound_link (l : Link) :
    (v.fastRound bar motor).link l = (v.withReplies (v.fastConversion bar motor)).link l := by
  obtain ⟨reply, inProgress⟩ := v.fastConversion_replies bar motor l
  have round := (v.fastRead bar motor).roundMade_link [.g, .iMot] l
  have read : (v.fastRead bar motor).link l = v.link l := by cases l <;> rfl
  rw [read] at round
  rw [State.fastRound, round]
  cases l <;> simp only [State.withReplies, reply, inProgress] <;> rfl

/-- Before the bar sample, only the front end, replies and requests in progress have changed. -/
theorem State.fastRound_eq : v.fastRound bar motor =
    { v.withReplies (v.fastConversion bar motor) with mfe := (v.fastConversion bar motor).mfe } := by
  apply State.ext_blocks
  case mfe => exact (v.fastConversion_mfe bar motor).symm
  case linkA => exact v.fastRound_link bar motor .a
  case linkS => exact v.fastRound_link bar motor .s
  all_goals simp [State.withReplies]

theorem State.fastConversion_eq_barSample : v.fastConversion bar motor =
    ((v.fastRound bar motor).barSample bar.toNat).motorSample (v.scaled 20 motor).toNat := v.fastConversion_eq bar motor

/-- The motor current sample changes the drum alone. -/
theorem State.eq_blocks_of_motorSample {t w : State} {d : Dry} {i : Nat}
    (made : t = State.motorSample { w with mfe := t.mfe, dry := d } i) :
    t.dry = d ∧ t = { w with mfe := t.mfe, dry := t.dry, dmc := t.dmc } := by
  have dry := congrArg State.dry made
  have dmc := congrArg State.dmc made
  refine ⟨dry, ?_⟩
  rw [dry, dmc]
  exact made

/-- A bar sample that changes the estimator alone. -/
theorem State.fastConversion_of_dry (d : Dry)
    (h : (v.fastRound bar motor).barSample bar.toNat = { v.fastRound bar motor with dry := d }) :
    let t := v.fastConversion bar motor
    t.dry = d ∧ t = { v.withReplies t with mfe := t.mfe, dry := t.dry, dmc := t.dmc } := by
  have made := v.fastConversion_eq_barSample bar motor
  rw [h, v.fastRound_eq] at made
  exact State.eq_blocks_of_motorSample made

/-- A bar sample that produces a record. -/
theorem State.fastConversion_of_record (d : Dry) (r : Record)
    (h : (v.fastRound bar motor).barSample bar.toNat = State.offerRecord { v.fastRound bar motor with dry := d } r) :
    let t := v.fastConversion bar motor
    t.dry = d ∧ t = { (v.withReplies t).offerRecord r with mfe := t.mfe, dry := t.dry, dmc := t.dmc } := by
  have made := v.fastConversion_eq_barSample bar motor
  rw [h, v.fastRound_eq] at made
  generalize v.fastConversion bar motor = t at *
  exact State.eq_blocks_of_motorSample (made.trans (congrArg (State.motorSample · _)
    (State.offerRecord_readings (v.withReplies t) t.mfe d r)))

/-- The readings and the round leave what the bar sample looks at. -/
@[simp] theorem State.fastRound_above (g : Nat) : (v.fastRound bar motor).above g = v.above g := by
  simp [State.above, State.contactThreshold, State.setting, State.word]

@[simp] theorem State.fastRound_sampled (g : Nat) : (v.fastRound bar motor).sampled g = v.sampled g := by
  simp [State.sampled]

end Fast

section Sample

variable {v : State} {bar motor : Code}

/-- A bar sample with no contact open: one opens at a sample above the threshold (R17). -/
theorem State.fastConversion_opens (h : v.dry.contact = none) : let t := v.fastConversion bar motor
    t.dry = v.contactOpened bar.toNat ∧ t = { v.withReplies t with mfe := t.mfe, dry := t.dry, dmc := t.dmc } := by
  have opened : (v.fastRound bar motor).contactOpened bar.toNat = v.contactOpened bar.toNat := by
    simp [State.contactOpened]
  rw [← opened]
  exact v.fastConversion_of_dry bar motor _ (State.barSample_opens _ _ (by simpa using h))

variable {c : Contact} (h : v.dry.contact = some c)

include h

/-- A bar sample that does not end the open contact: it goes on, or BAR_SHORT latches (R18, R20). -/
theorem State.fastConversion_goesOn (goesOn : v.endsContact bar.toNat c = false) : let t := v.fastConversion bar motor
    t.dry = v.contactKept bar.toNat c ∧ t = { v.withReplies t with mfe := t.mfe, dry := t.dry, dmc := t.dmc } := by
  have kept : (v.fastRound bar motor).contactKept bar.toNat c = v.contactKept bar.toNat c := by
    simp [State.contactKept, State.furtherContact]
  rw [← kept]
  exact v.fastConversion_of_dry bar motor _
    (State.barSample_goesOn _ _ c (by simpa using h) (by simpa [State.endsContact] using goesOn))

/-- A bar sample that ends the open contact: it is counted in the window, and its record is produced (R18, R25). -/
theorem State.fastConversion_ends (ends : v.endsContact bar.toNat c = true) : let t := v.fastConversion bar motor
    t.dry = v.contactEnded bar.toNat
      ∧ t = { (v.withReplies t).offerRecord c.dip.record with mfe := t.mfe, dry := t.dry, dmc := t.dmc } := by
  have ended : (v.fastRound bar motor).contactEnded bar.toNat = v.contactEnded bar.toNat := by
    simp [State.contactEnded]
  rw [← ended]
  exact v.fastConversion_of_record bar motor _ _
    (State.barSample_ends _ _ c (by simpa using h) (by simpa [State.endsContact] using ends))

end Sample

/-- Settles O8: the three things a bar sample can do to the contact. -/
theorem contactJudged : Obligations.ContactJudged := by
  intro bar motor s due on fastDue v g above ends
  have left : s.commandLeft (.fastConversion bar motor) = some (due - s.clock) := congrArg (Option.map _) fastDue
  refine ⟨_, s.timed_some _ _ _ on left, ?_⟩
  cases contact : s.dry.contact with
  | none =>
    obtain ⟨dry, whole⟩ := State.fastConversion_opens (v := v) (bar := bar) (motor := motor) contact
    have stands : ends = false := by simp only [ends, contact]
    rw [stands]
    generalize State.fastConversion _ bar motor = t at *
    refine ⟨?_, fun _ => ⟨?_, whole⟩, nofun⟩
    · rw [dry]; exact s.sampled_window g
    · rw [dry]; rfl
  | some c =>
    have third : ends = v.endsContact g c := by simp only [ends, contact]; rfl
    rw [third]
    cases ended : v.endsContact g c with
    | true =>
      obtain ⟨dry, whole⟩ := State.fastConversion_ends (v := v) (motor := motor) contact ended
      generalize State.fastConversion _ bar motor = t at *
      refine ⟨?_, nofun, ?_⟩
      · rw [dry]; exact s.contactEnded_window g
      · rintro _ ⟨⟩
        rw [if_pos rfl]
        exact ⟨by rw [dry]; rfl, whole⟩
    | false =>
      obtain ⟨dry, whole⟩ := State.fastConversion_goesOn (v := v) (motor := motor) contact ended
      generalize State.fastConversion _ bar motor = t at *
      refine ⟨?_, nofun, ?_⟩
      · rw [dry, State.contactKept_window]; exact s.sampled_window g
      rintro _ ⟨⟩
      rw [if_neg Bool.false_ne_true]
      split
      · next long =>
        rw [State.contactKept, if_pos long] at dry
        obtain ⟨barShort, closed, method, -, index, m, ds, lastN⟩ := (v.sampled g).latchBarShort_frame
        rw [← dry] at barShort closed method index m ds lastN
        refine ⟨barShort, closed, method, ⟨index, m, ds, lastN⟩, fun bars => ?_, whole⟩
        rw [dry, (v.sampled _).latchBarShort_of_bars bars]
        exact ⟨rfl, rfl, rfl, rfl⟩
      · next short =>
        rw [State.contactKept, if_neg short] at dry
        exact ⟨by rw [dry]; rfl, whole⟩

/-! ### The figures of a window's end (R26, R28 to R34) -/

theorem State.windowCauses_eq (s : State) (w : Window) : s.windowCauses w = s.failedCauses w := by
  rw [State.windowCauses, State.failedCauses, Bool.decide_and]
  rfl

/-- R26: a window is valid exactly when no cause fails. -/
theorem State.isValid_iff (s : State) (w : Window) : (s.windowCauses w).isValid = true ↔ s.windowValid w := by
  unfold State.windowCauses WindowCauses.isValid State.windowValid
  cases w.method <;> simp [Nat.one_le_iff_ne_zero, and_assoc]

theorem State.isValid_eq (s : State) (w : Window) : (s.windowCauses w).isValid = decide (s.windowValid w) :=
  Bool.eq_iff_iff.mpr ((s.isValid_iff w).trans decide_eq_true_iff.symm)

theorem WindowCauses.isValid_eq_true (c : WindowCauses) :
    c.isValid = true ↔ c = ⟨false, false, false, false, false, false⟩ := by
  cases c; simp [WindowCauses.isValid, and_assoc]

/-- R28, as the statements say it. -/
theorem State.moistureIndex_eq (s : State) (w : Window) :
    moistureIndex w s.mfe.tExh.value s.alpha s.gref = s.moisture w := by
  have mean : (if w.a = 0 then 0 else w.sumG / w.a) = w.sumG / w.a := by
    split
    · next none => rw [none, Nat.div_zero]
    · rfl
  rw [moistureIndex, mean, compensationTemp, clampInt_eq (by decide)]
  rfl

theorem appendHistory_eq (h : List Nat) (x : Nat) (room : h.length ≤ 8) : appendHistory h x = lastEight h x := by
  unfold appendHistory lastEight
  split
  · next full =>
    have eight : h.length = 8 := Nat.le_antisymm room full
    rw [eight, List.drop_append_of_le_length (by omega)]
  · next short =>
    have fits : h.length + 1 - 8 = 0 := by
      have : ¬8 ≤ h.length := short
      omega
    rw [fits, List.drop_zero]

theorem nextStreak_eq (streak e limit : Nat) :
    nextStreak streak e limit = if e ≤ limit then min 255 (streak + 1) else 0 := by
  rw [nextStreak, satSucc_eq]

/-- Under either method the end of a window leaves the method and BAR_SHORT, counts the contacts and takes the window
away (R26, R35). -/
theorem State.closeWindow_frame (s : State) (w : Window) : (s.closeWindow w).contact = s.dry.contact ∧
    (s.closeWindow w).window = none ∧ (s.closeWindow w).method = s.dry.method ∧
    (s.closeWindow w).barShort = s.dry.barShort ∧ (s.closeWindow w).lastN = w.n := by
  unfold State.closeWindow Dry.closeBars Dry.closeDemand
  cases w.method <;> dsimp only <;> split <;> exact ⟨rfl, rfl, rfl, rfl, rfl⟩

theorem updateEstimate_snd (e : EstimateState) (old new : Nat) :
    (updateEstimate e old new).2 = if e = .settling then .tracking else e := by cases e <;> rfl

/-- R29: a valid window takes SETTLING to TRACKING. -/
theorem State.closeWindow_estimate (s : State) (w : Window) : (s.closeWindow w).estimate =
    if s.windowValid w ∧ s.dry.estimate = .settling then .tracking else s.dry.estimate := by
  simp only [← s.isValid_iff]
  unfold State.closeWindow Dry.closeBars Dry.closeDemand
  generalize (s.windowCauses w).isValid = valid
  cases valid with
  | false => rw [if_neg (by simp)]; cases w.method <;> rfl
  | true => simp only [true_and]; cases w.method <;> exact updateEstimate_snd _ _ _

/-- The figures of a BARS window (R28 to R32). -/
theorem State.closeWindow_bars (s : State) (w : Window) (bars : w.method = .bars) (room : s.dry.history.length ≤ 8) :
    let valid : Bool := decide (s.windowValid w)
    let d := s.closeWindow w
    d.m = s.moisture w ∧ d.dw = s.dry.dw ∧ d.ds = s.dry.ds
      ∧ d.s = (if valid then (updateEstimate s.dry.estimate s.dry.s d.m).1 else s.dry.s)
      ∧ d.streak = (if valid then (if d.s ≤ s.program.target then min 255 (s.dry.streak + 1) else 0) else s.dry.streak)
      ∧ d.history = (if valid then lastEight s.dry.history d.s else s.dry.history)
      ∧ d.remaining = (if valid then remainingMinutes s.program.target w.length d.s d.history else s.dry.remaining) := by
  intro valid d
  have made : d = s.dry.closeBars w valid (s.moisture w) s.program.target := by
    simp only [d, State.closeWindow, bars, s.moistureIndex_eq, s.isValid_eq, valid]
  rw [made, Dry.closeBars]
  cases valid with
  | true => exact ⟨rfl, rfl, rfl, rfl, nextStreak_eq _ _ _, appendHistory_eq _ _ room, rfl⟩
  | false => exact ⟨rfl, rfl, rfl, rfl, rfl, rfl, rfl⟩

/-- The figures of a DEMAND window (R33, R34). -/
theorem State.closeWindow_demand (s : State) (w : Window) (demand : w.method = .demand) :
    let valid : Bool := decide (s.windowValid w)
    let d := s.closeWindow w
    d.dw = (if w.dCount = 0 then 0 else w.dSum / w.dCount) ∧ d.m = s.dry.m ∧ d.s = s.dry.s
      ∧ d.ds = (if valid then (updateEstimate s.dry.estimate s.dry.ds d.dw).1 else s.dry.ds)
      ∧ d.streak =
        (if valid then (if d.ds ≤ s.program.demandLimit then min 255 (s.dry.streak + 1) else 0) else s.dry.streak)
      ∧ d.history = s.dry.history ∧ d.remaining = s.dry.remaining := by
  intro valid d
  have made : d = s.dry.closeDemand w valid s.program.demandLimit := by
    simp only [d, State.closeWindow, demand, s.isValid_eq, valid]
  rw [made, Dry.closeDemand]
  cases valid with
  | true => exact ⟨rfl, rfl, rfl, rfl, nextStreak_eq _ _ _, rfl, rfl⟩
  | false => exact ⟨rfl, rfl, rfl, rfl, rfl, rfl, rfl⟩

/-! ### What a phase change leaves of the estimator and of a pending notice DRY (R19, R22, R170) -/

/-- The estimator but for its window and its contact. -/
def Dry.sameFigures (d d' : Dry) : Prop := d' = { d with window := d'.window, contact := d'.contact }

theorem Dry.sameFigures_trans {d d' d'' : Dry} (h : d.sameFigures d') (h' : d'.sameFigures d'') : d.sameFigures d'' := by
  unfold Dry.sameFigures at *
  rw [h', h]

/-- What stands of a window's end in all that may follow it in its event: the figures, an estimator without a window, the
end reason, stages that are off, and a pending notice DRY. -/
structure State.standsBy (s t : State) : Prop where
  figures : s.dry.sameFigures t.dry
  window : s.dry.window = none → t.dry.window = none
  endReason : t.csq.record.endReason = s.csq.record.endReason
  cools : s.onlyCools t
  told : ∀ l estimate streak, Notice.dry estimate streak ∈ (s.link l).pending →
    Notice.dry estimate streak ∈ (t.link l).pending

theorem State.standsBy_refl (s : State) : s.standsBy s := ⟨rfl, id, rfl, s.onlyCools_refl, fun _ _ _ => id⟩

theorem State.standsBy_trans {s t u : State} (h : s.standsBy t) (h' : t.standsBy u) : s.standsBy u where
  figures := Dry.sameFigures_trans h.figures h'.figures
  window := h'.window ∘ h.window
  endReason := h'.endReason.trans h.endReason
  cools := State.onlyCools_trans h.cools h'.cools
  told l e k := h'.told l e k ∘ h.told l e k

/-- Estimator, heater and end reason as they were, and the notice still pending. -/
theorem State.standsBy_of_eq {s t : State} (dry : t.dry = s.dry) (hsc : t.hsc = s.hsc)
    (endReason : t.csq.record.endReason = s.csq.record.endReason)
    (told : ∀ l m, m.code = 1 → m ∈ (s.link l).pending → m ∈ (t.link l).pending) : s.standsBy t :=
  ⟨by rw [dry]; rfl, by rw [dry]; exact id, endReason, State.onlyCools_of_eq hsc, fun l _ _ => told l _ rfl⟩

theorem State.notifyBoth_standsBy (s : State) (n : Notice) (other : n.code ≠ 1) : s.standsBy (s.notifyBoth n) :=
  State.standsBy_of_eq (by simp) (by simp) (by simp) fun l _ dry => s.notifyBoth_keeps (by rwa [dry]) l

theorem State.endContact_figures (s : State) (c : Contact) : s.dry.sameFigures (s.endContact c).dry
    ∧ (s.endContact c).dry.window = s.dry.window := by
  simp only [State.endContact, State.offerRecord_frame]
  exact ⟨rfl, trivial⟩

/-- Only the entry into DRYING starts a window (R22). -/
theorem State.followDry_figures (s : State) (left p : Phase) : s.dry.sameFigures (s.followDry left p).dry
    ∧ (p ≠ .drying → s.dry.window = none → (s.followDry left p).dry.window = none) := by
  have discards : s.dry.sameFigures (if left = .drying then s.discardWindow else s).dry
      ∧ (s.dry.window = none → (if left = .drying then s.discardWindow else s).dry.window = none) := by
    split
    · exact ⟨rfl, fun _ => rfl⟩
    · exact ⟨rfl, id⟩
  have leaves (s : State) : s.dry.sameFigures (if s.mfe.mode = .onRequest then s.endContactOnLeaving else s).dry
      ∧ (if s.mfe.mode = .onRequest then s.endContactOnLeaving else s).dry.window = s.dry.window := by
    unfold State.endContactOnLeaving
    split
    · split
      · exact ⟨rfl, rfl⟩
      · exact s.endContact_figures _
    · exact ⟨rfl, rfl⟩
  have starts (s : State) : s.dry.sameFigures (if p = .drying then s.startWindow else s).dry
      ∧ (p ≠ .drying → (if p = .drying then s.startWindow else s).dry.window = s.dry.window) := by
    split
    · next entered => exact ⟨rfl, fun other => absurd entered other⟩
    · exact ⟨rfl, fun _ => rfl⟩
  obtain ⟨discarded, none'⟩ := discards
  unfold State.followDry
  dsimp only
  generalize (if left = .drying then s.discardWindow else s) = v at *
  obtain ⟨left, window⟩ := leaves v
  generalize (if v.mfe.mode = .onRequest then v.endContactOnLeaving else v) = x at *
  obtain ⟨started, window'⟩ := starts x
  exact ⟨Dry.sameFigures_trans discarded (Dry.sameFigures_trans left started),
    fun other none => (window' other).trans (window.trans (none' none))⟩

theorem State.changePhase_figures (s : State) (p : Phase) (c : Cause) : s.dry.sameFigures (s.changePhase p c).dry
    ∧ (p ≠ .drying → s.dry.window = none → (s.changePhase p c).dry.window = none) := by
  have front : (State.followFront { s with csq := s.csq.setPhase p } p).dry = s.dry := by simp
  have follows := (State.followFront { s with csq := s.csq.setPhase p } p).followDry_figures s.csq.phase p
  rw [front] at follows
  rw [s.changePhase_dry]
  exact follows

theorem State.followDry_watches (s : State) (left p : Phase) : (s.followDry left p).cap.watches = s.cap.watches := by
  have leaves (s : State) : s.endContactOnLeaving.cap.watches = s.cap.watches := by
    unfold State.endContactOnLeaving
    split
    · rfl
    · exact State.offerRecord_watches _ _
  unfold State.followDry
  dsimp only
  generalize hv : (if left = .drying then s.discardWindow else s) = v
  have discards : v.cap.watches = s.cap.watches := by rw [← hv]; split <;> rfl
  rw [← discards]
  split <;> split
  · exact leaves v
  · rfl
  · exact leaves v
  · rfl

/-- A phase change arms no watch unit. -/
theorem State.changePhase_watches (s : State) (p : Phase) (c : Cause) :
    (s.changePhase p c).cap.watches = s.cap.watches := by
  have front : (s.afterFront p).cap.watches = s.cap.watches := by
    rw [State.afterFront, State.followDry_watches]; simp
  rw [s.changePhase_eq, ← front]
  simp only [State.notifyBoth_frame, State.offerPhase, State.offerAround_watches]
  split <;> simp [State.afterDrum]

theorem State.changePhase_standsBy (s : State) (p : Phase) (c : Cause) (drying : p ≠ .drying)
    (service : p ≠ .service) : s.standsBy (s.changePhase p c) where
  figures := (s.changePhase_figures p c).1
  window := (s.changePhase_figures p c).2 drying
  endReason := by rw [State.changePhase_csq]; rfl
  cools := s.changePhase_onlyCools p c service
  told l _ _ := s.changePhase_keeps p c l _ (by simp [Notice.code]) (by simp [Notice.code])

/-- A change of the sequencer's own fields. -/
theorem State.standsBy_csq (s : State) {c : Csq} (endReason : c.record.endReason = s.csq.record.endReason) :
    s.standsBy { s with csq := c } :=
  State.standsBy_of_eq (t := { s with csq := c }) rfl rfl endReason fun l _ _ => by cases l <;> exact id

/-! ### What a HOLD leaves of a window's end (R107, R110) -/

theorem CycleRecord.countTangle_endReason (c : CycleRecord) (r : HoldReason) :
    (c.countTangle r).endReason = c.endReason := by
  unfold CycleRecord.countTangle
  split <;> rfl

theorem State.enterHold_standsBy (s : State) (r : HoldReason) : s.standsBy (s.enterHold r) :=
  State.standsBy_trans (State.standsBy_trans (s.standsBy_csq (c := s.csq.forHold r (s.clock + 60000 * s.holdLimit))
    (CycleRecord.countTangle_endReason _ r)) (State.changePhase_standsBy _ .hold (.held r) (by decide) (by decide)))
    (State.notifyBoth_standsBy _ _ (by simp [Notice.code]))

theorem State.joinHold_standsBy (s : State) (r : HoldReason) : s.standsBy (s.joinHold r) := by
  unfold State.joinHold
  split
  · exact s.standsBy_refl
  · exact State.standsBy_trans (s.standsBy_csq (c := { s.csq with
      reasons := s.csq.reasons.add r, record := s.csq.record.countTangle r }) (CycleRecord.countTangle_endReason _ r))
      (State.notifyBoth_standsBy _ _ (by simp [Notice.code]))

theorem State.enterDone_standsBy (s : State) (c : Cause) : s.standsBy (s.enterDone c) :=
  State.standsBy_trans (s.standsBy_csq (c := s.csq.clearForDone) rfl)
    (State.changePhase_standsBy _ .done c (by decide) (by decide))

theorem State.takeHoldCause_standsBy (s : State) (r : HoldReason) : s.standsBy (s.takeHoldCause r) := by
  unfold State.takeHoldCause
  split
  · exact s.enterHold_standsBy r
  · exact s.enterHold_standsBy r
  · exact s.enterHold_standsBy r
  · exact s.joinHold_standsBy r
  · split
    · exact s.standsBy_refl
    · exact s.enterDone_standsBy _
  all_goals exact s.standsBy_refl

/-! ### What a value at the watch units can do, step by step (R136 to R138) -/

/-- A relation that every step of a value at the watch units keeps, but for a HOLD. -/
structure KeptByWatches (R : State → State → Prop) : Prop where
  refl : ∀ s, R s s
  trans : ∀ {s t u}, R s t → R t u → R s u
  judged : ∀ (s : State) w c v, R s (s.setWatch w ((s.watch w).judge c v).1)
  recorded : ∀ (s : State) starts ends why r, R s (s.offerAround starts ends why r)
  told : ∀ (s : State) l w v, R s (s.notify l (.watch w v))

theorem State.offerTo_kept {R : State → State → Prop} (kept : KeptByWatches R) (s : State) (q : Quantity) (v : Int)
    (w : Fin 4) (held : ¬s.noHoldWatch → ∀ t : State, R t (t.takeHoldCause .watch)) : R s (s.offerTo q v w) := by
  have told (t : State) : R t (match (t.watch w).owner with | none => t | some l => t.notify l (.watch w v)) := by
    split
    · exact kept.refl t
    · exact kept.told t _ w v
  have acts (t : State) (c : WatchSettings) (may : c.action = .hold → ¬s.noHoldWatch) :
      R t (t.watchAction w c.action v) := by
    unfold State.watchAction
    dsimp only
    split
    · exact kept.refl t
    · exact told t
    · next hold =>
      split
      · exact kept.trans (told t) (held (may hold) _)
      · exact told t
  unfold State.offerTo
  dsimp only
  split
  · exact kept.refl s
  · next c settings =>
    split
    · next h =>
      split
      · refine kept.trans (kept.judged s w c v) (kept.trans (kept.recorded _ _ _ _ _) (acts _ c fun hold no => ?_))
        have := no w h.1
        simp [settings, hold] at this
      · exact kept.judged s w c v
    · exact kept.refl s

/-- A notice on one link leaves the pending notices of other kinds. -/
theorem State.notify_keeps (s : State) (l : Link) {m n : Notice} (other : n.code ≠ m.code) (l' : Link)
    (h : m ∈ (s.link l').pending) : m ∈ ((s.notify l n).link l').pending := by
  by_cases e : l' = l
  · subst e; rw [State.link_notify_same, LinkState.raise_frame]; exact mem_insertNotice_of_mem h other
  · rwa [State.link_notify_other _ _ _ _ e]

theorem State.standsBy_kept : KeptByWatches State.standsBy where
  refl := State.standsBy_refl
  trans := State.standsBy_trans
  judged s w c v := State.standsBy_of_eq rfl rfl rfl fun l _ _ => by cases l <;> exact id
  recorded s starts ends why r := State.standsBy_of_eq (by simp) (by simp) (by simp) fun l m dry =>
    (s.offerAround_keepsNotices starts ends why r).link l m (by rw [dry]; decide)
  told s l w v := State.standsBy_of_eq (by simp) (by simp) (by simp) fun l' m dry =>
    s.notify_keeps l (by rw [dry]; simp [Notice.code]) l'

/-- Values have been told: records, watch units and notices alone have changed, and no notice but those of watch and capture
units has given way. -/
structure State.onlyTells (s t : State) : Prop where
  observes : s.observes t
  told : ∀ l m, m.code ≠ 6 → m.code ≠ 7 → m ∈ (s.link l).pending → m ∈ (t.link l).pending

theorem State.onlyTells_refl (s : State) : s.onlyTells s := ⟨s.observes_refl, fun _ _ _ _ => id⟩

theorem State.onlyTells_trans {s t u : State} (h : s.onlyTells t) (h' : t.onlyTells u) : s.onlyTells u :=
  ⟨State.observes_trans h.observes h'.observes, fun l m watch capture =>
    h'.told l m watch capture ∘ h.told l m watch capture⟩

theorem State.onlyTells_kept : KeptByWatches State.onlyTells where
  refl := State.onlyTells_refl
  trans := State.onlyTells_trans
  judged s w c v :=
    have same := (s.watch w).judge_armed c v
    ⟨s.setWatch_observes w _ fun armed => ⟨same.2 armed, same.1⟩, fun l _ _ _ => by cases l <;> exact id⟩
  recorded s starts ends why r := ⟨s.offerAround_observes starts ends why r, fun l m _ capture =>
    (s.offerAround_keepsNotices starts ends why r).link l m capture⟩
  told s l w v := ⟨s.notify_observes l _, fun l' _ watch _ => s.notify_keeps l (Ne.symm watch) l'⟩

theorem State.offerValue_standsBy (s : State) (q : Quantity) (v : Int) : s.standsBy (s.offerValue q v) :=
  foldl_rel State.standsBy_refl (fun _ _ _ => State.standsBy_trans)
    (fun s w => s.offerTo_kept State.standsBy_kept q v w fun _ t => t.takeHoldCause_standsBy .watch) four s

theorem State.offerValue_onlyTells (s : State) (q : Quantity) (v : Int) : s.noHoldWatch → s.onlyTells (s.offerValue q v) :=
  foldl_rel (R := fun s t : State => s.noHoldWatch → s.onlyTells t) (fun s _ => s.onlyTells_refl)
    (fun _ _ _ h h' no => State.onlyTells_trans (h no) (h' (State.noHoldWatch_of_armsLess (h no).observes.armed no)))
    (fun s w no => s.offerTo_kept State.onlyTells_kept q v w fun hold => absurd no hold) four s

/-! ### The values of a window's end (R36) -/

/-- A relation that every value keeps is kept by the values of a window's end. -/
theorem State.offerWindow_rel {R : State → State → Prop} (trans : ∀ s t u, R s t → R t u → R s u)
    (offers : ∀ s q v, R s (State.offerValue s q v)) (s : State) (w : Window) (valid : Bool) (d : Dry) :
    R s (s.offerWindow w valid d) := by
  have contacts := offers s .contacts w.n
  unfold State.offerWindow
  dsimp only
  split
  · exact contacts
  · have index := trans _ _ _ contacts (offers _ .m d.m)
    split
    · exact trans _ _ _ index (offers _ .s d.s)
    · exact index

section Values

variable (s : State) (w : Window) (valid : Bool) (d : Dry)

theorem State.offerWindow_standsBy : s.standsBy (s.offerWindow w valid d) :=
  State.offerWindow_rel (R := State.standsBy) (fun _ _ _ => State.standsBy_trans) State.offerValue_standsBy s w valid d

theorem State.offerWindow_offersMade : s.offersMade (s.offerWindow w valid d) :=
  State.offerWindow_rel (R := State.offersMade) (fun _ _ _ => State.offersMade_trans) State.offerValue_offersMade s w valid d

theorem State.offerWindow_onlyTells : s.noHoldWatch → s.onlyTells (s.offerWindow w valid d) :=
  State.offerWindow_rel (R := fun s t : State => s.noHoldWatch → s.onlyTells t)
    (fun _ _ _ h h' no => State.onlyTells_trans (h no) (h' (State.noHoldWatch_of_armsLess (h no).observes.armed no)))
    State.offerValue_onlyTells s w valid d

theorem State.offerWindow_of_noWatch : s.noWatch → s.offerWindow w valid d = s :=
  State.offerWindow_rel (R := fun s t : State => s.noWatch → t = s)
    (fun _ t _ h h' no => by obtain rfl := h no; exact h' no)
    (fun s q v => s.offerValue_of_noWatch q v) s w valid d

end Values

/-! ### The end of a window, step by step (R22, R30, R33, R35, R36) -/

/-- R30, R33: dryness is declared at the end of window `w`. -/
abbrev State.declaresAt (s : State) (w : Window) : Prop :=
  s.windowValid w ∧ (s.word 2 1).toNat ≤ (s.closeWindow w).streak ∧ s.program.minDrying * 60 ≤ s.csq.dryingMs / 1000

theorem State.declares_iff (s : State) (w : Window) :
    s.declares (s.windowCauses w).isValid (s.closeWindow w) = true ↔ s.declaresAt w := by
  simp only [State.declares, Bool.and_eq_true, decide_eq_true_iff, s.isValid_iff, and_assoc]
  rfl

/-- The estimator once the window has been judged. -/
def State.judgedDry (s : State) (w : Window) : Dry :=
  { s.closeWindow w with estimate := if s.declaresAt w then .declared else (s.closeWindow w).estimate }

/-- The WINDOW record of the window (R35). -/
def State.windowRecordOf (s : State) (w : Window) : Record := windowRecord w (s.windowCauses w) (s.judgedDry w)

theorem State.windowRecordOf_bars (s : State) (w : Window) (bars : w.method = .bars) : s.windowRecordOf w =
    .window .bars (decide (s.windowValid w)) (s.failedCauses w) (s.judgedDry w).m (s.judgedDry w).s (s.judgedDry w).streak
      (min 255 w.n) := by
  rw [← s.isValid_eq, ← s.windowCauses_eq, State.windowRecordOf, windowRecord, bars]

theorem State.windowRecordOf_demand (s : State) (w : Window) (demand : w.method = .demand) : s.windowRecordOf w =
    .window .demand (decide (s.windowValid w)) (s.failedCauses w) (s.judgedDry w).dw (s.judgedDry w).ds
      (s.judgedDry w).streak (min 255 w.n) := by
  rw [← s.isValid_eq, ← s.windowCauses_eq, State.windowRecordOf, windowRecord, demand]

/-- The window has been judged, and its record produced. -/
def State.windowTold (s : State) (w : Window) : State :=
  State.offerRecord { s with dry := s.judgedDry w } (s.windowRecordOf w)

/-- The sequencer has taken a declaration. -/
def State.windowTaken (s : State) (w : Window) : State :=
  if s.declaresAt w then (s.windowTold w).declareDry else s.windowTold w

/-- The watch units have judged the window's values. -/
def State.windowSeen (s : State) (w : Window) : State :=
  (s.windowTaken w).offerWindow w (s.windowCauses w).isValid (s.judgedDry w)

theorem State.endWindow_eq (s : State) (w : Window) : s.endWindow w = (s.windowSeen w).nextWindow := by
  have judged : (if s.declares (s.windowCauses w).isValid (s.closeWindow w) then
      { s.closeWindow w with estimate := .declared } else s.closeWindow w) = s.judgedDry w := by
    simp only [s.declares_iff, State.judgedDry]
    split <;> rfl
  unfold State.endWindow
  dsimp only
  rw [judged]
  simp only [s.declares_iff]
  rfl

section Event

variable (s : State) (w : Window)

@[simp] theorem State.windowTold_frame : (s.windowTold w).pending = s.pending ∧ (s.windowTold w).boot = s.boot ∧
    (s.windowTold w).clock = s.clock ∧ (s.windowTold w).resetTime = s.resetTime ∧ (s.windowTold w).pins = s.pins ∧
    (s.windowTold w).mfe = s.mfe ∧ (s.windowTold w).dry = s.judgedDry w ∧ (s.windowTold w).dmc = s.dmc ∧
    (s.windowTold w).tgm = s.tgm ∧ (s.windowTold w).hsc = s.hsc ∧ (s.windowTold w).csq = s.csq ∧
    (s.windowTold w).sst = s.sst := by
  simp [State.windowTold]

theorem State.nextWindow_figures (s : State) : s.dry.sameFigures s.nextWindow.dry := by
  unfold State.nextWindow
  split <;> rfl

/-- The next window changes the estimator alone. -/
theorem State.nextWindow_eq (s : State) : s.nextWindow = { s with dry := s.nextWindow.dry } := by
  unfold State.nextWindow
  split <;> rfl

theorem State.endDrying_figures (s : State) (r : EndReason) : s.dry.sameFigures (s.endDrying r).dry := by
  unfold State.endDrying
  split
  · exact (State.changePhase_figures (s.setEnd r) .cooling (.ended r)).1
  · rfl

theorem State.declareDry_figures (s : State) : s.dry.sameFigures s.declareDry.dry := by
  unfold State.declareDry
  split
  · have ended := State.endDrying_figures (s.notifyBoth (.dry s.dry.current s.dry.streak)) .dry
    simpa only [State.notifyBoth_frame] using ended
  · rfl

theorem State.endDrying_watches (s : State) (r : EndReason) : (s.endDrying r).cap.watches = s.cap.watches := by
  unfold State.endDrying
  split
  · exact State.changePhase_watches (s.setEnd r) .cooling (.ended r)
  · rfl

theorem State.declareDry_watches (s : State) : s.declareDry.cap.watches = s.cap.watches := by
  unfold State.declareDry
  split
  · rw [State.endDrying_watches]; simp
  · rfl

theorem State.declareDry_carries (s : State) : s.carries s.declareDry := by
  unfold State.declareDry
  split
  · exact State.carries_trans (s.notifyBoth_carries _) (State.endDrying_carries _ _)
  · exact s.carries_refl

theorem State.windowTaken_figures : (s.judgedDry w).sameFigures (s.windowTaken w).dry := by
  have told : (s.windowTold w).dry = s.judgedDry w := by simp
  rw [← told, State.windowTaken]
  split
  · exact State.declareDry_figures _
  · rfl

/-- Neither the declaration nor the watch units nor the next window touch the figures. -/
theorem State.endWindow_figures : (s.judgedDry w).sameFigures (s.endWindow w).dry := by
  rw [s.endWindow_eq]
  exact Dry.sameFigures_trans (s.windowTaken_figures w)
    (Dry.sameFigures_trans (State.offerWindow_standsBy _ _ _ _).figures (State.nextWindow_figures _))

theorem State.windowTaken_carries : (s.windowTold w).carries (s.windowTaken w) := by
  unfold State.windowTaken
  split
  · exact State.declareDry_carries _
  · exact State.carries_refl _

theorem State.nextWindow_carries (s : State) : s.carries s.nextWindow := by
  rw [s.nextWindow_eq]
  exact State.carries_of_recorded (State.recorded_of_links rfl rfl)
    ⟨rfl, rfl, rfl, rfl, rfl, rfl, rfl, rfl, rfl, fun _ => rfl⟩ id

/-- What follows the WINDOW record leaves the settings, and only adds to the rings. -/
theorem State.endWindow_carries : (s.windowTold w).carries (s.endWindow w) := by
  rw [s.endWindow_eq]
  exact State.carries_trans (s.windowTaken_carries w)
    (State.carries_trans (State.offerWindow_offersMade _ _ _ _).carries (State.nextWindow_carries _))

/-- The WINDOW record is taken as before the judgement. -/
theorem State.windowTold_sameRecords : (s.offerRecord (s.windowRecordOf w)).sameRecords (s.windowTold w) :=
  State.sameRecords_offerRecord (s := s) (t := { s with dry := s.judgedDry w }) (State.sameRecords_of_links rfl rfl rfl rfl) _

theorem State.endWindow_outerFrame : s.outerFrame (s.endWindow w) := by
  refine State.outerFrame_trans (State.outerFrame_of_hsc ?_ ?_ ?_ ?_ ?_ ?_ fun n => ?_) (s.endWindow_carries w).outer
  all_goals simp [State.stage]

/-- The WINDOW record comes before all else that the event produces. -/
theorem State.endWindow_producedFirst : s.producedFirst (s.endWindow w) (s.windowRecordOf w) := by
  intro l empty
  obtain ⟨-, ring, posted⟩ := (s.windowTold_sameRecords w).link l
  have none := (((s.offerRecord_recorded (s.windowRecordOf w)).link l).2 empty).1
  rw [← ring]
  exact ((s.endWindow_carries w).ring l (by rw [posted, none])).2

/-- A declaration ends DRYING (R30). -/
theorem State.windowTaken_cooling (drying : s.csq.phase = .drying) (declares : s.declaresAt w) :
    (s.windowTaken w).isCooling .dry := by
  have told : (s.windowTold w).csq.phase = .drying := by simpa using drying
  rw [State.windowTaken, if_pos declares, State.declareDry, if_pos told]
  exact State.endDrying_isCooling _ .dry (by simpa using told)

/-- The declaration arms no watch unit. -/
theorem State.windowTaken_watches : (s.windowTaken w).cap.watches = s.cap.watches := by
  have told : (s.windowTold w).cap.watches = s.cap.watches := State.offerRecord_watches _ _
  unfold State.windowTaken
  split
  · rw [State.declareDry_watches, told]
  · exact told

theorem State.windowTaken_tells (drying : s.csq.phase = .drying) (declares : s.declaresAt w) (l : Link) :
    Notice.dry (s.judgedDry w).current (s.judgedDry w).streak ∈ ((s.windowTaken w).link l).pending := by
  have told : (s.windowTold w).csq.phase = .drying := by simpa using drying
  have dry : (s.windowTold w).dry = s.judgedDry w := by simp
  rw [State.windowTaken, if_pos declares, State.declareDry, if_pos told, dry, State.endDrying,
    if_pos (by simpa using told)]
  refine State.changePhase_keeps _ _ _ l _ (by simp [Notice.code]) (by simp [Notice.code]) ?_
  have link (v : State) (r : EndReason) : (v.setEnd r).link l = v.link l := by cases l <;> rfl
  rw [link]
  exact State.notifyBoth_tells _ _ l

/-- The phase that the event leaves is DRYING only without a declaration. -/
theorem State.not_declaresAt_of_drying (drying : s.csq.phase = .drying) (still : (s.endWindow w).csq.phase = .drying) :
    ¬s.declaresAt w := by
  intro declares
  have cooling : (s.windowTaken w).csq.phase = .cooling := (s.windowTaken_cooling w drying declares).1.1
  have seen : (s.windowSeen w).csq.phase = .drying := by
    rwa [s.endWindow_eq, State.nextWindow_eq] at still
  rcases (State.offerWindow_offersMade (s.windowTaken w) w _ _).front with ⟨phase, -⟩ | ⟨-, holds, -⟩
  · exact Phase.noConfusion (seen.symm.trans (phase.trans cooling))
  · exact Bool.noConfusion (holds.symm.trans (congrArg Phase.supervised seen))

/-- With no watch unit and DRYING at the end, the WINDOW record is the only one. -/
theorem State.endWindow_produced (drying : s.csq.phase = .drying) (no : s.noWatch)
    (still : (s.endWindow w).csq.phase = .drying) : s.produced (s.endWindow w) (s.windowRecordOf w) := by
  have unarmed : (s.windowTold w).noWatch := State.noWatch_of_armsLess (s := { s with dry := s.judgedDry w })
    (State.offerRecord_observes _ _).armed no
  have same := s.windowTold_sameRecords w
  have made : s.endWindow w = (s.windowTold w).nextWindow := by
    rw [s.endWindow_eq, State.windowSeen, State.windowTaken, if_neg (s.not_declaresAt_of_drying w drying still),
      State.offerWindow_of_noWatch _ _ _ _ unarmed]
  have next := (s.windowTold w).nextWindow_eq
  have link (l : Link) : (s.windowTold w).nextWindow.link l = (s.windowTold w).link l :=
    State.link_congr (by rw [next]) (by rw [next]) l
  rw [made]
  refine ⟨Eq.trans (by rw [next]) same.cap, fun l => ?_⟩
  rw [link]
  exact same.link l

end Event

/-- COOLING stands while values are only told. -/
theorem State.isCooling_of_onlyTells {s t : State} {r : EndReason} (h : s.onlyTells t) (cooling : s.isCooling r) :
    t.isCooling r := by
  obtain ⟨⟨phase, told⟩, endReason, off, window, period, pattern⟩ := cooling
  have told' (l : Link) := h.told l _ (by simp [Notice.code]) (by simp [Notice.code]) (told l)
  have frame := h.observes.frame
  refine ⟨⟨?_, told'⟩, ?_, State.heatOff_of_hsc (by rw [frame]) off, ?_, ?_, ?_⟩
  · rw [frame]; exact phase
  · rw [frame]; exact endReason
  · rw [frame]; exact window
  · rw [frame]; exact period
  · rw [frame]; exact pattern

theorem State.windowEnds_of_window (s : State) (w : Window) (h : s.dry.window = some w) :
    s.windowEnds = s.endWindow w := by
  simp only [State.windowEnds, h]

/-- WINDOW_END, with a window in progress, moves the clock to its end and ends it. -/
theorem State.exec_windowEnd (s : State) (w : Window) (on : s.boot ≠ .off) (window : s.dry.window = some w) :
    exec .windowEnd s = .next ((s.moment (w.start + w.length)).endWindow w) := by
  have left : s.commandLeft .windowEnd = some (w.start + w.length - s.clock) :=
    congrArg (fun x : Option Window => s.left (x.map fun w : Window => w.start + w.length)) window
  exact (s.timed_some .windowEnd State.windowEnds _ on left).trans
    (congrArg Host.Outcome.next (State.windowEnds_of_window _ w window))

section Outcome

variable (s : State) (w : Window) (drying : s.csq.phase = .drying)

include drying

/-- With a declaration the event ends DRYING with reason DRY and notice DRY, and no window follows (R30, R33). -/
theorem State.endWindow_declared (declares : s.declaresAt w) : let t := s.endWindow w
    t.dry.estimate = .declared ∧ t.csq.record.endReason = some .dry ∧ t.dry.window = none ∧ t.heatOff
      ∧ (s.noHoldWatch → t.isCooling .dry)
      ∧ ∀ l : Link,
          Notice.dry (if t.dry.method = .bars then t.dry.s else t.dry.ds) t.dry.streak ∈ (t.link l).pending := by
  have cooling := s.windowTaken_cooling w drying declares
  have tells := s.windowTaken_tells w drying declares
  obtain ⟨-, endReason, off, window, -⟩ := s.windowTaken_cooling w drying declares
  have seen : (s.windowTaken w).standsBy (s.windowSeen w) := State.offerWindow_standsBy _ _ _ _
  have figures := s.endWindow_figures w
  have estimate : (s.windowSeen w).dry.estimate = .declared := by
    rw [Dry.sameFigures_trans (s.windowTaken_figures w) seen.figures]
    exact if_pos declares
  have stops : (s.windowSeen w).nextWindow = s.windowSeen w := if_neg fun h => h.2 estimate
  have current : (s.judgedDry w).current =
      if (s.judgedDry w).method = .bars then (s.judgedDry w).s else (s.judgedDry w).ds := by
    unfold Dry.current
    cases (s.judgedDry w).method <;> rfl
  intro t
  have last : t = s.windowSeen w := (s.endWindow_eq w).trans stops
  refine ⟨by rw [last]; exact estimate, ?_, ?_, ?_, fun no => ?_, fun l => ?_⟩
  · rw [last, seen.endReason]; exact endReason
  · rw [last]; exact seen.window window
  · rw [last]; exact State.heatOff_of_onlyCools seen.cools off
  · have unarmed : (s.windowTaken w).noHoldWatch :=
      State.noHoldWatch_of_armsLess (State.armsLess_of_watches (s.windowTaken_watches w)) no
    rw [last]
    exact State.isCooling_of_onlyTells (State.offerWindow_onlyTells _ _ _ _ unarmed) cooling
  · have pending := seen.told l _ _ (tells l)
    rw [current, ← last] at pending
    rw [figures]
    exact pending

/-- Without a declaration a valid window takes SETTLING to TRACKING, and the next window starts (R22, R29). -/
theorem State.endWindow_goesOn (not : ¬s.declaresAt w) : let t := s.endWindow w
    t.dry.estimate = (if s.windowValid w ∧ s.dry.estimate = .settling then .tracking else s.dry.estimate)
      ∧ (s.noHoldWatch → t.csq = s.csq ∧ t.dry.window =
          if s.dry.estimate = .declared then none
          else some { method := t.dry.method, start := s.clock, length := (s.word 2 0).toNat
                      a := 0, sumG := 0, n := 0, turn := 0, dCount := 0, dSum := 0, burst := s.dmc.motion.inBurst }) := by
  intro t
  have estimate : (s.judgedDry w).estimate =
      if s.windowValid w ∧ s.dry.estimate = .settling then .tracking else s.dry.estimate := by
    rw [← s.closeWindow_estimate]; exact if_neg not
  refine ⟨by rw [s.endWindow_figures w]; exact estimate, fun no => ?_⟩
  have taken : s.windowTaken w = s.windowTold w := if_neg not
  have unarmed : (s.windowTaken w).noHoldWatch :=
    State.noHoldWatch_of_armsLess (State.armsLess_of_watches (s.windowTaken_watches w)) no
  have frame : s.windowSeen w = { s.windowTaken w with
      cap := (s.windowSeen w).cap, linkA := (s.windowSeen w).linkA, linkS := (s.windowSeen w).linkS } :=
    (State.offerWindow_onlyTells _ _ _ _ unarmed).observes.frame
  rw [taken] at frame
  have csq : (s.windowSeen w).csq = s.csq := by rw [frame]; simp
  have dry : (s.windowSeen w).dry = s.judgedDry w := by rw [frame]; simp
  have clock : (s.windowSeen w).clock = s.clock := by rw [frame]; simp
  have dmc : (s.windowSeen w).dmc = s.dmc := by rw [frame]; simp
  have length : (s.windowSeen w).windowLength = (s.word 2 0).toNat := by
    rw [frame]; simp [State.windowLength, State.setting, State.word]
  have last : t = (s.windowSeen w).nextWindow := s.endWindow_eq w
  generalize s.windowSeen w = v at *
  refine ⟨?_, ?_⟩
  · rw [last, State.nextWindow_eq]; exact csq
  · by_cases declared : s.dry.estimate = .declared
    · have stands : v.dry.estimate = .declared := by
        rw [dry, estimate, if_neg fun h => by rw [declared] at h; exact EstimateState.noConfusion h.2]; exact declared
      rw [if_pos declared, last, State.nextWindow, if_neg fun h => h.2 stands, dry]
      exact (s.closeWindow_frame w).2.1
    · have runs : v.dry.estimate ≠ .declared := by
        rw [dry, estimate]
        split
        · nofun
        · exact declared
      rw [if_neg declared, last, State.nextWindow, if_pos ⟨by rw [csq]; exact drying, runs⟩, State.startWindow, clock,
        length, dmc]

end Outcome

/-- Settles O12: the figures of the judged window stand to the end of its event, and the WINDOW record comes first. -/
theorem windowEnd : Obligations.WindowEnd := by
  intro s w on window drying room u valid estimate streak
  refine ⟨_, s.exec_windowEnd w on window, ?_⟩
  have phase : u.csq.phase = .drying := (Csq.elapse_frame _ s.csq).1.trans drying
  have program : u.program = s.program := s.elapse_program _
  have figures : (u.judgedDry w).sameFigures (u.endWindow w).dry := u.endWindow_figures w
  have outer := u.endWindow_outerFrame w
  have first := u.endWindow_producedFirst w
  have produced := u.endWindow_produced w phase
  have invalid : valid = true ↔ u.failedCauses w = ⟨false, false, false, false, false, false⟩ := by
    rw [← u.windowCauses_eq, ← WindowCauses.isValid_eq_true, u.isValid_eq]
  have next (old new : Nat) : estimate old new = if valid then (updateEstimate s.dry.estimate old new).1 else old := by
    simp only [estimate]
    cases s.dry.estimate <;> rfl
  obtain ⟨-, -, method, barShort, lastN⟩ := u.closeWindow_frame w
  rw [Dry.sameFigures] at figures
  generalize u.endWindow w = t at *
  rw [figures]
  cases kind : w.method with
  | bars =>
    obtain ⟨m, dw, ds, index, streak', history, remaining⟩ := u.closeWindow_bars w kind room
    rw [program] at streak' remaining
    rw [u.windowRecordOf_bars w kind] at first produced
    simp only [next]
    exact ⟨⟨m, dw, ds, index, streak', history, remaining⟩, lastN, method, barShort, outer, invalid, first, produced⟩
  | demand =>
    obtain ⟨dw, m, index, ds, streak', history, remaining⟩ := u.closeWindow_demand w kind
    rw [program] at streak'
    rw [u.windowRecordOf_demand w kind] at first produced
    simp only [next]
    exact ⟨⟨dw, m, index, ds, streak', history, remaining⟩, lastN, method, barShort, outer, invalid, first, produced⟩

/-- Settles O13: the event ends as after a declaration, or in the next window. -/
theorem windowDeclares : Obligations.WindowDeclares := by
  intro s w on window drying u
  refine ⟨_, s.exec_windowEnd w on window, ?_⟩
  have phase : u.csq.phase = .drying := (Csq.elapse_frame _ s.csq).1.trans drying
  have streak : (u.endWindow w).dry.streak = (u.closeWindow w).streak := by
    rw [u.endWindow_figures w]; rfl
  have declares : (u.windowValid w ∧ (s.word 2 1).toNat ≤ (u.endWindow w).dry.streak
      ∧ s.program.minDrying * 60 ≤ u.csq.dryingMs / 1000) ↔ u.declaresAt w := by
    rw [streak, ← s.elapse_program (w.start + w.length - s.clock)]; rfl
  have declared := u.endWindow_declared w phase
  have goesOn := u.endWindow_goesOn w phase
  generalize u.endWindow w = t at *
  split
  · next h => exact declared (declares.mp h)
  · next h => exact goesOn (mt declares.mpr h)

end Sys2Proof.Machine

-- ==== Proofs: drum motion and reversal ====
/-! PROOFS. The operations of the drum motion controller and its events (chapter 3), the reversal gate, and what every
step keeps of the drum and the tangle monitor. -/

namespace Sys2Proof.Machine

/-! ### The drum after its operations (R43, R45, R47, R50, R52, R56, R57) -/

theorem State.drumOff_dmc (s : State) : s.drumOff.dmc =
    if s.dmc.motion.driven.isSome then
      { s.dmc with offTime := s.clock, restMin := s.minRest, restMinDue := some (s.clock + 1000 * s.minRest), speed := 0 }
    else s.dmc := by
  unfold State.drumOff
  split <;> rfl

theorem State.clearTurning_drum (s : State) : s.clearTurning.dmc = { s.dmc with turning := false } := by
  unfold State.clearTurning
  split
  · simp
  · next off => rw [← Bool.eq_false_of_not_eq_true off]

theorem State.enterRest_dmc (s : State) (target : Motion) (empty : Bool) : (s.enterRest target empty).dmc =
    { s.drumOff.dmc with
      motion := target, revolution := none, history := if empty then [] else s.dmc.history
      stallDue := none, burstDue := none, restEntry := some s.clock, restCheck := .timing (s.clock + 15000)
      turning := false } := by
  have history : s.drumOff.dmc.history = s.dmc.history := by rw [s.drumOff_dmc]; split <;> rfl
  rw [State.enterRest, State.clearTurning_drum, ← history, ← (s.drumOff_frame).2.2.1]

theorem State.enterStarting_dmc (s : State) (d : Dir) (v : Nat) : (s.enterStarting d v).dmc =
    { s.dmc with
      motion := .starting d, speed := v, lastDir := some d, restMinDue := none, revolution := none, history := []
      burstDue := none, stallDue := some (s.clock + 5000), stallLength := 5000, restEntry := none, restCheck := .none
      turning := false } := by
  rw [State.enterStarting, State.clearTurning_drum]

theorem State.idleDrum_dmc (s : State) : s.idleDrum.dmc =
    { s.drumOff.dmc with
      motion := .idle, pattern := none, current := none, remaining := none, staged := none, interrupted := none
      burstDue := none, revolution := none, stallDue := none, restEntry := none, restCheck := .none, turning := false } := by
  rw [State.idleDrum, State.clearTurning_drum]

theorem State.restDrum_dmc (s : State) : s.restDrum.dmc =
    if s.dmc.motion.isRest then { s.dmc with motion := .rest } else (s.enterRest .rest true).dmc := by
  unfold State.restDrum
  split <;> rfl

theorem State.gateOpen_iff (s : State) (d : Dir) : s.gateOpen d = true ↔ s.gateIsOpen d := by
  simp [State.gateOpen, State.gateIsOpen, and_assoc]

/-! ### The turning report (R50, R89) -/

/-- The drum has ceased to turn, and the heat stage controller has been told if it turned. -/
structure State.stopsTurning (s t : State) : Prop where
  turning : t.dmc.turning = false
  ends : s.dmc.turning = true → s.turningEnds t
  stands : s.dmc.turning = false → t.hsc = s.hsc
  tangleCap : t.hsc.tangleCap = s.hsc.tangleCap

theorem State.heatTurningEnds_ends (s : State) : s.turningEnds s.heatTurningEnds := by
  unfold State.heatTurningEnds State.pauseAllowance State.setting
  dsimp only
  by_cases none : s.word 3 18 = 0
  · rw [if_pos (by rw [none]; rfl), State.turningEnds, if_pos none]
    refine ⟨?_, ?_, ?_, ?_, State.enforce_heatOff _ (by simp [State.interlocked, State.pauseInterlock])⟩ <;>
      rw [(State.enforce_sheds _).frame]
  · have some : (s.word 3 18).toNat ≠ 0 := fun zero => none (BitVec.eq_of_toNat_eq zero)
    rw [if_neg some, State.turningEnds, if_neg none]
    exact ⟨rfl, rfl, rfl, rfl⟩

theorem State.heatTurningEnds_tangleCap (s : State) : s.heatTurningEnds.hsc.tangleCap = s.hsc.tangleCap := by
  unfold State.heatTurningEnds
  dsimp only
  split
  · rw [(State.enforce_sheds _).frame]
  · rfl

theorem State.clearTurning_stops (s : State) : s.stopsTurning s.clearTurning where
  turning := by rw [s.clearTurning_drum]
  ends turns := by rw [State.clearTurning, if_pos turns]; exact State.heatTurningEnds_ends { s with dmc := _ }
  stands off := by rw [State.clearTurning, off]; rfl
  tangleCap := by
    unfold State.clearTurning
    split
    · exact State.heatTurningEnds_tangleCap _
    · rfl

/-- What came before the report changed nothing that it looks at. -/
theorem State.stopsTurning_after {s v t : State} (h : v.stopsTurning t) (turning : v.dmc.turning = s.dmc.turning)
    (hsc : v.hsc = s.hsc) (clock : v.clock = s.clock) (sst : v.sst = s.sst) : s.stopsTurning t where
  turning := h.turning
  ends turns := by
    have word : v.word 3 18 = s.word 3 18 := by rw [State.word, State.word, sst]
    have ended := h.ends (turning.trans turns)
    rwa [State.turningEnds, word, hsc, clock] at ended
  stands off := (h.stands (turning.trans off)).trans hsc
  tangleCap := by rw [h.tangleCap, hsc]

theorem State.drumOff_turning (s : State) : s.drumOff.dmc.turning = s.dmc.turning := by
  rw [s.drumOff_dmc]; split <;> rfl

theorem State.enterRest_stops (s : State) (target : Motion) (empty : Bool) : s.stopsTurning (s.enterRest target empty) :=
  State.stopsTurning_after (State.clearTurning_stops _) s.drumOff_turning (by simp) (by simp) (by simp)

theorem State.enterStarting_stops (s : State) (d : Dir) (v : Nat) : s.stopsTurning (s.enterStarting d v) :=
  State.stopsTurning_after (State.clearTurning_stops _) rfl rfl rfl rfl

theorem State.idleDrum_stops (s : State) : s.stopsTurning s.idleDrum :=
  State.stopsTurning_after (State.clearTurning_stops _) s.drumOff_turning (by simp) (by simp) (by simp)

/-- The drum has ceased to turn, or it turns as before and the heat stage controller stands. -/
def State.reportsTurning (s t : State) : Prop :=
  s.stopsTurning t ∨ t.hsc = s.hsc ∧ t.dmc.turning = s.dmc.turning

theorem State.turningFollowed_of_stops {s t : State} (h : s.stopsTurning t) : s.turningFollowed t :=
  ⟨fun turns _ => h.ends turns, fun same => by
    rw [h.stands (same.symm.trans h.turning)]; exact ⟨rfl, rfl, rfl, rfl⟩⟩

theorem State.turningFollowed_of_reports {s t : State} (h : s.reportsTurning t) : s.turningFollowed t := by
  rcases h with stops | ⟨hsc, turning⟩
  · exact State.turningFollowed_of_stops stops
  · refine ⟨fun on off => ?_, fun _ => by rw [hsc]; exact ⟨rfl, rfl, rfl, rfl⟩⟩
    rw [turning, on] at off
    exact absurd off (by decide)

theorem State.reportsTurning_after {s v t : State} (h : v.reportsTurning t) (turning : v.dmc.turning = s.dmc.turning)
    (hsc : v.hsc = s.hsc) (clock : v.clock = s.clock) (sst : v.sst = s.sst) : s.reportsTurning t :=
  h.imp (fun stops => State.stopsTurning_after stops turning hsc clock sst)
    fun ⟨hsc', turning'⟩ => ⟨hsc'.trans hsc, turning'.trans turning⟩

theorem State.restDrum_reports (s : State) : s.reportsTurning s.restDrum := by
  unfold State.restDrum
  split
  · exact .inr ⟨rfl, rfl⟩
  · exact .inl (s.enterRest_stops ..)

theorem State.actStep_reports (s : State) (c : CurrentStep) : s.reportsTurning (s.actStep c) := by
  have rests (c : CurrentStep) (r : Option Nat) : s.reportsTurning (s.setStep c r).restDrum :=
    State.reportsTurning_after (State.restDrum_reports _) rfl rfl rfl rfl
  unfold State.actStep
  split
  · exact rests ..
  · split
    · dsimp only
      split
      · exact .inr ⟨rfl, rfl⟩
      · exact .inl (State.stopsTurning_after (State.enterStarting_stops _ _ _) rfl rfl rfl rfl)
    · exact rests ..

/-! ### The cap flag after the tangle monitor's changes (R68, R70, R84) -/

theorem State.setTangleCap_hsc (s : State) (flag : Bool) : (s.setTangleCap flag).hsc = { s.hsc with
    stages := (s.setTangleCap flag).hsc.stages, lastOn := (s.setTangleCap flag).hsc.lastOn
    tangleCap := if flag then 1 else 4 } := by
  rw [State.setTangleCap, (State.shedToCap_sheds _).frame]

theorem State.refreshCapFlag_tgm (s : State) :
    s.refreshCapFlag.tgm = { s.tgm with capFlag := s.tgm.burst || s.tgm.recheck.isSome } := by
  unfold State.refreshCapFlag
  dsimp only
  split
  · next same => rw [same]
  · simp

/-- Of the heat stage controller the tangle cap follows, with the stages that it sheds. -/
theorem State.refreshCapFlag_hsc (s : State) : s.refreshCapFlag.hsc = { s.hsc with
    stages := s.refreshCapFlag.hsc.stages, lastOn := s.refreshCapFlag.hsc.lastOn
    tangleCap := s.refreshCapFlag.hsc.tangleCap } := by
  unfold State.refreshCapFlag
  dsimp only
  split
  · rfl
  · rw [State.setTangleCap_hsc]

theorem State.refreshCapFlag_of_same (s : State) (h : (s.tgm.burst || s.tgm.recheck.isSome) = s.tgm.capFlag) :
    s.refreshCapFlag = s := if_pos h

/-- The cap stood with the flag as it was; refreshed, it stands with burst and re-check deadline. -/
theorem State.refreshCapFlag_right (s : State) (cap : s.hsc.tangleCap = if s.tgm.capFlag then 1 else 4) :
    s.refreshCapFlag.capFlagRight := by
  refine ⟨by rw [s.refreshCapFlag_tgm], ?_⟩
  unfold State.refreshCapFlag
  dsimp only
  split
  · exact cap
  · rw [State.setTangleCap_hsc, (State.setTangleCap_frame _ _).2.2.2.2.2.2.2.2.1]

theorem State.burstEnded_tgm (s : State) : s.burstEnded.tgm = if s.tgm.burst then
    { s.tgm with burst := false, recheck := some (s.clock + 1000 * s.recheckTime), capFlag := true } else s.tgm := by
  unfold State.burstEnded
  split
  · rw [State.refreshCapFlag_tgm]; rfl
  · rfl

theorem State.burstEnded_hsc (s : State) : s.burstEnded.hsc = { s.hsc with
    stages := s.burstEnded.hsc.stages, lastOn := s.burstEnded.hsc.lastOn, tangleCap := s.burstEnded.hsc.tangleCap } := by
  unfold State.burstEnded
  split
  · rw [State.refreshCapFlag_hsc]
  · rfl

/-- The re-check deadline takes the burst's place, so a flag that was right stands. -/
theorem State.burstEnded_hsc_of_right (s : State) (right : s.capFlagRight) : s.burstEnded.hsc = s.hsc := by
  unfold State.burstEnded
  split
  · next burst =>
    rw [State.refreshCapFlag_of_same]
    have flag := right.1
    rw [burst] at flag
    exact flag.symm
  · rfl

/-! ### The gate judged (R48, R53, R54) -/

theorem State.startWaiting_dmc (s : State) (c : CurrentStep) (d : Dir) : (s.startWaiting c d).dmc =
    { s.dmc with
      motion := .starting d, speed := c.step.speed, lastDir := some d, restMinDue := none, revolution := none, history := []
      burstDue := none, stallDue := some (s.clock + 5000), stallLength := 5000, restEntry := none, restCheck := .none
      turning := false, current := some { c with waiting := false }, remaining := c.time } := by
  rw [State.startWaiting, State.enterStarting_dmc]; rfl

theorem State.resumeStep_dmc (s : State) (i : Interrupted) : (s.resumeStep i).dmc =
    { s.dmc with
      motion := .starting i.dir, speed := i.speed, lastDir := some i.dir, restMinDue := none, revolution := none
      history := [], burstDue := none, stallDue := some (s.clock + 5000), stallLength := 5000, restEntry := none
      restCheck := .none, turning := false, interrupted := none, remaining := some i.remaining
      current := some { index := some i.index, step := i.step, waiting := false } } := by
  rw [State.resumeStep, (State.burstEnded_frame _).2.2.2.2.2.2.2.1, State.enterStarting_dmc]

theorem State.startWaiting_stops (s : State) (c : CurrentStep) (d : Dir) : s.stopsTurning (s.startWaiting c d) :=
  State.stopsTurning_after (State.enterStarting_stops _ _ _) rfl rfl rfl rfl

/-- What the judging of the gate can do: a waiting step starts, RUN_OPP is entered, the burst ends, or nothing. -/
theorem State.judgeGate_cases (s : State) :
    (∃ c d, s.dmc.motion = .rest ∧ s.dmc.current = some c ∧ c.waiting = true ∧ c.step.action.dir = some d
        ∧ s.gateIsOpen d ∧ s.judgeGate = s.startWaiting c d)
      ∨ (∃ i, s.dmc.motion = .restIn ∧ s.dmc.interrupted = some i ∧ s.gateIsOpen i.dir.flip
        ∧ s.judgeGate = s.enterRunOpp i.dir.flip)
      ∨ (∃ i, s.dmc.motion = .restOut ∧ s.dmc.interrupted = some i ∧ s.gateIsOpen i.dir ∧ s.judgeGate = s.resumeStep i)
      ∨ s.judgeGate = s
        ∧ (∀ c ∈ s.dmc.current, ∀ d ∈ c.step.action.dir, s.dmc.motion = .rest → c.waiting = true → ¬s.gateIsOpen d)
        ∧ (∀ i ∈ s.dmc.interrupted, s.dmc.motion = .restIn → ¬s.gateIsOpen i.dir.flip)
        ∧ (∀ i ∈ s.dmc.interrupted, s.dmc.motion = .restOut → ¬s.gateIsOpen i.dir) := by
  unfold State.judgeGate
  cases motion : s.dmc.motion with
  | rest =>
    cases current : s.dmc.current with
    | none => exact .inr (.inr (.inr ⟨rfl, nofun, nofun, nofun⟩))
    | some c =>
      cases waiting : c.waiting with
      | false => exact .inr (.inr (.inr ⟨by simp [waiting], by simp [waiting], nofun, nofun⟩))
      | true =>
        cases dir : c.step.action.dir with
        | none => exact .inr (.inr (.inr ⟨by simp [waiting, dir], by simp [dir], nofun, nofun⟩))
        | some d =>
          by_cases opens : s.gateOpen d = true
          · exact .inl ⟨c, d, rfl, rfl, waiting, dir, (s.gateOpen_iff d).mp opens, by simp [waiting, dir, opens]⟩
          · refine .inr (.inr (.inr ⟨by simp [waiting, dir, opens], ?_, nofun, nofun⟩))
            simpa [dir, ← s.gateOpen_iff] using fun _ => opens
  | restIn =>
    cases interrupted : s.dmc.interrupted with
    | none => exact .inr (.inr (.inr ⟨rfl, nofun, nofun, nofun⟩))
    | some i =>
      by_cases opens : s.gateOpen i.dir.flip = true
      · exact .inr (.inl ⟨i, rfl, rfl, (s.gateOpen_iff _).mp opens, if_pos opens⟩)
      · refine .inr (.inr (.inr ⟨if_neg opens, nofun, ?_, nofun⟩))
        simpa [← s.gateOpen_iff] using opens
  | restOut =>
    cases interrupted : s.dmc.interrupted with
    | none => exact .inr (.inr (.inr ⟨rfl, nofun, nofun, nofun⟩))
    | some i =>
      by_cases opens : s.gateOpen i.dir = true
      · exact .inr (.inr (.inl ⟨i, rfl, rfl, (s.gateOpen_iff _).mp opens, if_pos opens⟩))
      · refine .inr (.inr (.inr ⟨if_neg opens, nofun, nofun, ?_⟩))
        simpa [← s.gateOpen_iff] using opens
  | idle | starting | run | runOpp => exact .inr (.inr (.inr ⟨rfl, nofun, nofun, nofun⟩))

/-- The waiting step starts. -/
theorem State.gateJudged_startWaiting (s : State) (c : CurrentStep) (d : Dir) (motion : s.dmc.motion = .rest)
    (current : s.dmc.current = some c) (waiting : c.waiting = true) (dir : c.step.action.dir = some d)
    (opens : s.gateIsOpen d) : s.gateJudged (s.startWaiting c d) := by
  have stops := s.startWaiting_stops c d
  have clock : (s.startWaiting c d).clock = s.clock := by simp
  refine ⟨?_, fun _ _ other => ?_, fun _ _ other => ?_, fun _ none => ?_, fun other => ?_, fun ⟨other, _⟩ => ?_,
    State.turningFollowed_of_stops stops, fun off _ => stops.stands off⟩
  · intro c' isCurrent d' isDir _ _
    obtain rfl : c = c' := Option.some.inj (current.symm.trans isCurrent)
    obtain rfl : d = d' := Option.some.inj (dir.symm.trans isDir)
    rw [if_pos opens, State.startsDriving, clock, s.startWaiting_dmc]
    refine ⟨⟨rfl, rfl, rfl, rfl, rfl, rfl, rfl⟩, rfl, fun index => ?_, by simp⟩
    obtain ⟨k, index⟩ := Option.isSome_iff_exists.mp index
    simp only [CurrentStep.time, index]
  · rw [motion] at other; exact Motion.noConfusion other
  · rw [motion] at other; exact Motion.noConfusion other
  · have := none c current waiting
    rw [dir] at this
    exact absurd this (by simp)
  · simp [motion] at other
  · exact absurd motion other

/-- RUN_OPP is entered. -/
theorem State.gateJudged_enterRunOpp (s : State) (i : Interrupted) (motion : s.dmc.motion = .restIn)
    (interrupted : s.dmc.interrupted = some i) (opens : s.gateIsOpen i.dir.flip) :
    s.gateJudged (s.enterRunOpp i.dir.flip) := by
  refine ⟨fun _ _ _ _ other => ?_, fun j isInterrupted _ => ?_, fun _ _ other => ?_, fun other => ?_, fun _ none => ?_,
    fun ⟨_, other, _⟩ => absurd motion other, State.turningFollowed_of_reports (.inr ⟨rfl, rfl⟩), fun _ _ => rfl⟩
  · rw [motion] at other; exact Motion.noConfusion other
  · obtain rfl : i = j := Option.some.inj (interrupted.symm.trans isInterrupted)
    rw [if_pos opens]
    exact ⟨rfl, rfl, rfl, rfl, rfl, interrupted, rfl⟩
  · rw [motion] at other; exact Motion.noConfusion other
  · rw [motion] at other; exact Motion.noConfusion other
  · rw [interrupted] at none; exact absurd none (by simp)

/-- The burst ends, and the interrupted step resumes. -/
theorem State.gateJudged_resumeStep (s : State) (i : Interrupted) (motion : s.dmc.motion = .restOut)
    (interrupted : s.dmc.interrupted = some i) (opens : s.gateIsOpen i.dir) : s.gateJudged (s.resumeStep i) := by
  let c : CurrentStep := { index := some i.index, step := i.step, waiting := false }
  generalize hv : State.enterStarting { s with dmc := { s.dmc with
    interrupted := none, current := some c, remaining := some i.remaining } } i.dir i.speed = v
  have made : s.resumeStep i = v.burstEnded := by rw [← hv]; rfl
  have stops : s.stopsTurning v := hv ▸ State.stopsTurning_after (State.enterStarting_stops _ _ _) rfl rfl rfl rfl
  have clock : v.clock = s.clock := by rw [← hv]; simp
  have sst : v.sst = s.sst := by rw [← hv]; simp
  have tgm : v.tgm = s.tgm := by rw [← hv]; simp
  have recheck : v.recheckTime = s.recheckTime := by rw [State.recheckTime, State.setting, State.word, sst]; rfl
  have heater := v.burstEnded_hsc
  have off := State.heatOff_of_onlyCools v.burstEnded_onlyCools
  have turning : v.burstEnded.dmc.turning = false := by simpa using stops.turning
  refine ⟨fun _ _ _ _ other => ?_, fun _ _ other => ?_, fun j isInterrupted _ => ?_, fun other => ?_, fun _ none => ?_,
    fun ⟨_, _, other⟩ => absurd motion other, ?_, fun stood right => ?_⟩
  · rw [motion] at other; exact Motion.noConfusion other
  · rw [motion] at other; exact Motion.noConfusion other
  · obtain rfl : i = j := Option.some.inj (interrupted.symm.trans isInterrupted)
    have clock' : (s.resumeStep i).clock = s.clock := by simp
    rw [if_pos opens, State.startsDriving, clock', s.resumeStep_dmc]
    refine ⟨⟨rfl, rfl, rfl, rfl, rfl, rfl, rfl⟩, rfl, rfl, rfl, rfl, ?_⟩
    rw [made, v.burstEnded_tgm, tgm, clock, recheck]
  · rw [motion] at other; exact Motion.noConfusion other
  · rw [interrupted] at none; exact absurd none (by simp)
  · rw [made]
    refine ⟨fun turns _ => ?_, fun same => ?_⟩
    · obtain ⟨report, since, allowance⟩ := stops.ends turns
      rw [State.turningEnds, heater]
      refine ⟨report, since, ?_⟩
      split at allowance
      · next none => rw [if_pos none]; exact ⟨allowance.1, allowance.2.1, off allowance.2.2⟩
      · next some => rw [if_neg some]; exact allowance
    · rw [heater, stops.stands (same.symm.trans turning)]; exact ⟨rfl, rfl, rfl, rfl⟩
  · rw [made, v.burstEnded_hsc_of_right, stops.stands stood]
    rw [State.capFlagRight, tgm, stops.stands stood]
    exact right

theorem State.judgeGate_judged (s : State) : s.gateJudged s.judgeGate := by
  rcases s.judgeGate_cases with ⟨c, d, motion, current, waiting, dir, opens, made⟩ | ⟨i, motion, interrupted, opens, made⟩
      | ⟨i, motion, interrupted, opens, made⟩ | ⟨same, step, enters, ends⟩
  · rw [made]; exact s.gateJudged_startWaiting c d motion current waiting dir opens
  · rw [made]; exact s.gateJudged_enterRunOpp i motion interrupted opens
  · rw [made]; exact s.gateJudged_resumeStep i motion interrupted opens
  · rw [same]
    refine ⟨fun c isCurrent d isDir motion waiting => ?_, fun i isInterrupted motion => ?_, fun i isInterrupted motion => ?_,
      fun _ _ => ⟨rfl, rfl, rfl⟩, fun _ _ => ⟨rfl, rfl, rfl⟩, fun _ => ⟨rfl, rfl, rfl⟩,
      State.turningFollowed_of_reports (.inr ⟨rfl, rfl⟩), fun _ _ => rfl⟩
    · rw [if_neg (step c isCurrent d isDir motion waiting)]; exact ⟨rfl, rfl, rfl⟩
    · rw [if_neg (enters i isInterrupted motion)]; exact ⟨rfl, rfl, rfl⟩
    · rw [if_neg (ends i isInterrupted motion)]; exact ⟨rfl, rfl, rfl⟩

/-- The judging sees nothing of the sequencer and the links. -/
theorem State.gateJudged_congr {u t t' : State} (h : u.gateJudged t) (clock : t'.clock = t.clock) (dmc : t'.dmc = t.dmc)
    (tgm : t'.tgm = t.tgm) (hsc : t'.hsc = t.hsc) : u.gateJudged t' := by
  have off : t'.heatOff ↔ t.heatOff := by simp only [State.heatOff, State.stage, hsc]
  simpa only [State.gateJudged, State.turningFollowed, State.turningEnds, State.startsDriving, clock, dmc, tgm, hsc, off] using h

/-! ### The events that judge the gate (R44, R48, R123) -/

/-- The still flag goes on only at its own event, and off only at a pulse (R44). -/
theorem State.judgeGate_still (s : State) : s.judgeGate.dmc.still = s.dmc.still := by
  rcases s.judgeGate_cases with ⟨c, d, _, _, _, _, _, made⟩ | ⟨i, _, _, _, made⟩ | ⟨i, _, _, _, made⟩ | ⟨made, _⟩
  · rw [made, State.startWaiting_dmc]
  · rw [made]; rfl
  · rw [made, State.resumeStep_dmc]
  · rw [made]

/-- The gate as the still flag goes on, before a waiting TAKE_CONTROL is answered. -/
def State.stillJudged (s : State) : State := State.judgeGate { s with dmc := { s.dmc with still := true } }

@[simp] theorem State.stillJudged_frame (s : State) : s.stillJudged.csq = s.csq ∧ s.stillJudged.linkA = s.linkA
    ∧ s.stillJudged.linkS = s.linkS := by simp [State.stillJudged]

theorem State.becomeStill_waiting (s : State) (waits : s.csq.pendingTake = true) : s.becomeStill =
    ({ s.stillJudged with csq := { s.csq with pendingTake := false } }).answerStatus .s Request.takeControl.kind .ok := by
  rw [← s.stillJudged_frame.1] at waits ⊢
  exact if_pos waits

theorem State.becomeStill_free (s : State) (free : s.csq.pendingTake = false) : s.becomeStill = s.stillJudged := by
  rw [← s.stillJudged_frame.1, ← Bool.not_eq_true] at free
  exact if_neg free

theorem State.becomeStill_blocks (s : State) : s.becomeStill.dmc = s.stillJudged.dmc ∧ s.becomeStill.tgm = s.stillJudged.tgm
    ∧ s.becomeStill.hsc = s.stillJudged.hsc ∧ s.becomeStill.clock = s.stillJudged.clock := by
  cases waits : s.csq.pendingTake with
  | true => rw [s.becomeStill_waiting waits]; simp
  | false => rw [s.becomeStill_free waits]; simp

theorem State.becomeStill_linkA (s : State) : s.becomeStill.linkA = s.linkA := by
  cases waits : s.csq.pendingTake with
  | true =>
    rw [s.becomeStill_waiting waits]
    exact (State.link_answer_other _ .s .a _ _ _ (by decide)).trans s.stillJudged_frame.2.1
  | false => rw [s.becomeStill_free waits]; simp

/-- The drum is still, and the TAKE_CONTROL that waited for it has its answer. -/
theorem State.becomeStill_answers (s : State) (waits : s.csq.pendingTake = true) :
    s.becomeStill.csq = { s.csq with pendingTake := false }
      ∧ (s.linkS.resetting = false → s.becomeStill.replyIs .s 0x48 .ok [] ∧ s.becomeStill.linkS.inProgress = none) := by
  rw [s.becomeStill_waiting waits]
  refine ⟨by simp, fun resetting => ?_⟩
  generalize hv : ({ s.stillJudged with csq := { s.csq with pendingTake := false } } : State) = v
  have link : v.link .s = s.linkS := by rw [← hv]; exact s.stillJudged_frame.2.2
  have same := v.link_answer_same .s Request.takeControl.kind .ok [] ((congrArg _ link).trans resetting)
  exact ⟨congrArg LinkState.reply same, congrArg LinkState.inProgress same⟩

/-- Settles O15, by what the judging of the gate can do. -/
theorem gateEvents : Obligations.GateEvents := by
  unfold Obligations.GateEvents
  intro s on
  refine ⟨fun moving => ?_, fun due isDue => ?_⟩
  · have left : s.commandLeft .stillTimeout = some (s.dmc.lastPulse.getD s.resetTime + 2000 - s.clock) :=
      if_neg (by simp [moving])
    have made := s.timed_some .stillTimeout State.becomeStill _ on left
    intro u v
    have take : u.csq.pendingTake = s.csq.pendingTake := by simp [u]
    have linkS : u.linkS = s.linkS := rfl
    obtain ⟨dmc, tgm, hsc, clock⟩ := u.becomeStill_blocks
    refine ⟨u.becomeStill, made, (congrArg Dmc.still dmc).trans v.judgeGate_still,
      State.gateJudged_congr v.judgeGate_judged clock dmc tgm hsc, ?_, ?_⟩
    · split
      · next waits =>
        obtain ⟨csq, answer⟩ := u.becomeStill_answers (take.trans waits)
        exact ⟨csq, u.becomeStill_linkA, answer⟩
      · next free =>
        rw [u.becomeStill_free (take.trans (Bool.eq_false_of_not_eq_true free)), ← linkS]
        exact ⟨u.stillJudged_frame.1, u.stillJudged_frame.2.2⟩
    · exact State.ext_blocks (by simp) (by simp) (by simp) (by simp) (by simp) (by simp) (by simp)
        rfl rfl rfl rfl (by simp) (by simp) u.becomeStill_linkA rfl
  · have left : s.commandLeft .restMinimumExpiry = some (due - s.clock) := congrArg (Option.map (· - s.clock)) isDue
    have made := s.timed_some .restMinimumExpiry State.restMinimumPasses _ on left
    intro u v
    refine ⟨u.restMinimumPasses, made, v.judgeGate_judged, ?_⟩
    exact State.ext_blocks (by simp) (by simp) (by simp) (by simp) (by simp) (by simp) (by simp)
      rfl rfl rfl (by simp) (by simp) (by simp) (by simp) (by simp)

/-! ### Steps and the burst time (R43, R46, R47, R50, R54) -/

/-- A rest that the outputs' going off begins. -/
theorem State.enterRest_restsFromNow (s : State) (target : Motion) (empty : Bool) (off : target.driven = none)
    (driven : s.dmc.motion.driven.isSome = true) : s.restsFromNow (s.enterRest target empty) := by
  rw [State.restsFromNow, s.enterRest_dmc, s.drumOff_dmc, if_pos driven, (s.enterRest_frame target empty).2.2.1]
  exact ⟨by simp [Dmc.outputsOff, Dmc.pins, off], rfl, rfl, rfl, rfl, rfl, rfl, rfl, rfl⟩

theorem Motion.driven_of_isRest {m : Motion} (rest : m.isRest = true) : m.driven = none := by
  cases m <;> simp_all [Motion.driven, Motion.isRest]

theorem Motion.isRest_of_driven {m : Motion} (driven : m.driven.isSome = true) : m.isRest = false := by
  cases m <;> simp_all [Motion.driven, Motion.isRest]

/-- What the acting of a step can do: the drum rests, with or without the step waiting, goes on at another speed, or
starts. -/
theorem State.actStep_cases (s : State) (c : CurrentStep) :
    (c.step.action.dir = none ∧ s.actStep c = (s.setStep { c with waiting := false } c.time).restDrum)
      ∨ ∃ d, c.step.action.dir = some d ∧
        ((¬s.gateIsOpen d ∧ s.actStep c = (s.setStep { c with waiting := true } none).restDrum)
          ∨ s.gateIsOpen d ∧
            ((s.dmc.motion.drives d = true ∧ s.actStep c = { s with dmc := { s.dmc with
                current := some { c with waiting := false }, remaining := c.time, speed := c.step.speed } })
              ∨ s.dmc.motion.drives d = false ∧
                s.actStep c = (s.setStep { c with waiting := false } c.time).enterStarting d c.step.speed)) := by
  unfold State.actStep
  cases c.step.action.dir with
  | none => exact .inl ⟨rfl, rfl⟩
  | some d =>
    refine .inr ⟨d, rfl, ?_⟩
    by_cases opens : s.gateOpen d = true
    · refine .inr ⟨(s.gateOpen_iff d).mp opens, ?_⟩
      by_cases drives : s.dmc.motion.drives d = true
      · exact .inl ⟨drives, (if_pos opens).trans (if_pos drives)⟩
      · exact .inr ⟨Bool.eq_false_of_not_eq_true drives, (if_pos opens).trans (if_neg drives)⟩
    · exact .inl ⟨fun isOpen => opens ((s.gateOpen_iff d).mpr isOpen), if_neg opens⟩

theorem Motion.drives_iff (m : Motion) (d : Dir) : m.drives d = true ↔ m = .starting d ∨ m = .run d := by
  simp [Motion.drives]

theorem State.restDrum_drops (s : State) : s.restDrum.dmc.current = s.dmc.current ∧ s.restDrum.dmc.remaining = s.dmc.remaining
    ∧ s.restDrum.dmc.staged = s.dmc.staged := by
  rw [s.restDrum_dmc, s.enterRest_dmc, s.drumOff_dmc]
  split
  · exact ⟨rfl, rfl, rfl⟩
  · split <;> exact ⟨rfl, rfl, rfl⟩

/-- The rest that a step brings: entered from the outputs, or gone on with. -/
theorem State.restDrum_rests (s : State) :
    (s.dmc.motion.driven.isSome = true → s.restsFromNow s.restDrum ∧ s.restDrum.dmc.history = [])
      ∧ (s.dmc.motion = .rest → s.restDrum.dmc = s.dmc) := by
  constructor
  · intro driven
    have made : s.restDrum = s.enterRest .rest true :=
      if_neg (by rw [Motion.isRest_of_driven driven]; exact Bool.false_ne_true)
    rw [made]
    exact ⟨s.enterRest_restsFromNow .rest true rfl driven, by rw [s.enterRest_dmc]; rfl⟩
  · intro rest
    rw [s.restDrum_dmc, if_pos (by rw [rest]; rfl), ← rest]

/-- A step of the pattern acts: the drum rests, goes on, or starts, by the step's action and the gate. -/
structure State.stepActs (u t : State) (k : Nat) (st : Step) : Prop where
  staged : t.dmc.staged = u.dmc.staged
  pattern : t.dmc.pattern = u.dmc.pattern
  rests : st.action.dir = none → t.dmc.motion = .rest
    ∧ t.dmc.current = some { index := some k, step := st, waiting := false } ∧ t.dmc.remaining = some (1000 * st.duration)
  runs : ∀ d ∈ st.action.dir,
    if u.gateIsOpen d then
      t.dmc.current = some { index := some k, step := st, waiting := false } ∧ t.dmc.remaining = some (1000 * st.duration)
        ∧ if u.dmc.motion = .starting d ∨ u.dmc.motion = .run d then
            t.dmc = { u.dmc with current := some { index := some k, step := st, waiting := false }
                                 remaining := t.dmc.remaining, staged := t.dmc.staged, speed := st.speed }
          else t.startsDriving d st.speed
    else t.dmc.motion = .rest ∧ t.dmc.current = some { index := some k, step := st, waiting := true } ∧ t.dmc.remaining = none
  stops : t.dmc.motion = .rest → u.dmc.motion.driven.isSome = true → u.restsFromNow t ∧ t.dmc.history = []
  stands : u.dmc.motion = .rest → t.dmc.motion = .rest →
    t.dmc = { u.dmc with current := t.dmc.current, remaining := t.dmc.remaining, staged := t.dmc.staged }

theorem State.actStep_acts (u : State) (k : Nat) (st : Step) :
    u.stepActs (u.actStep { index := some k, step := st, waiting := false }) k st := by
  have resting (c : CurrentStep) (r : Option Nat) : let t := (u.setStep c r).restDrum
      (t.dmc.motion = .rest ∧ t.dmc.current = some c ∧ t.dmc.remaining = r) ∧ t.dmc.staged = u.dmc.staged
        ∧ t.dmc.pattern = u.dmc.pattern
        ∧ (u.dmc.motion.driven.isSome = true → u.restsFromNow t ∧ t.dmc.history = [])
        ∧ (u.dmc.motion = .rest → t.dmc = { u.dmc with current := t.dmc.current, remaining := t.dmc.remaining
                                                       staged := t.dmc.staged }) := by
    intro t
    obtain ⟨current, remaining, staged⟩ := (u.setStep c r).restDrum_drops
    obtain ⟨motion, pattern⟩ := (u.setStep c r).restDrum_drum
    obtain ⟨stops, stands⟩ := (u.setStep c r).restDrum_rests
    refine ⟨⟨motion, current, remaining⟩, staged, pattern, stops, fun rest => ?_⟩
    rw [show t.dmc = (u.setStep c r).dmc from stands rest]
    rfl
  rcases u.actStep_cases { index := some k, step := st, waiting := false } with ⟨dir, made⟩ | ⟨d, dir, acts⟩
  · obtain ⟨rests, staged, pattern, stops, stands⟩ := resting { index := some k, step := st, waiting := false } (some (1000 * st.duration))
    rw [made]
    exact ⟨staged, pattern, fun _ => rests, fun d isDir => absurd (dir.symm.trans isDir) (by simp), fun _ => stops,
      fun rest _ => stands rest⟩
  · have only (d' : Dir) (isDir : d' ∈ st.action.dir) : d = d' := Option.some.inj (dir.symm.trans isDir)
    have notNone (none : st.action.dir = none) : False := absurd (dir.symm.trans none) (by simp)
    rcases acts with ⟨shut, made⟩ | ⟨opens, ⟨drives, made⟩ | ⟨drives, made⟩⟩
    · obtain ⟨rests, staged, pattern, stops, stands⟩ := resting { index := some k, step := st, waiting := true } none
      rw [made]
      refine ⟨staged, pattern, fun none => (notNone none).elim, fun d' isDir => ?_, fun _ => stops, fun rest _ => stands rest⟩
      obtain rfl := only d' isDir
      rw [if_neg shut]
      exact rests
    · rw [made]
      refine ⟨rfl, rfl, fun none => (notNone none).elim, fun d' isDir => ?_, fun rest driven => ?_, fun rest _ => ?_⟩
      · obtain rfl := only d' isDir
        rw [if_pos opens, if_pos ((u.dmc.motion.drives_iff d).mp drives)]
        exact ⟨rfl, rfl, rfl⟩
      · rw [show u.dmc.motion = .rest from rest] at driven
        exact absurd driven (by decide)
      · rw [rest] at drives
        exact absurd drives Bool.false_ne_true
    · rw [made]
      refine ⟨?_, ?_, fun none => (notNone none).elim, fun d' isDir => ?_, fun rest _ => ?_, fun _ rest => ?_⟩
      · rw [State.enterStarting_dmc]; rfl
      · rw [State.enterStarting_dmc]; rfl
      · obtain rfl := only d' isDir
        rw [if_pos opens, if_neg (fun h => absurd ((u.dmc.motion.drives_iff d).mpr h) (by simp [drives])),
          State.startsDriving, (State.enterStarting_frame _ _ _).2.2.1, State.enterStarting_dmc]
        exact ⟨rfl, rfl, rfl, rfl, rfl, rfl, rfl, rfl, rfl⟩
      all_goals
        rw [State.enterStarting_dmc] at rest
        exact Motion.noConfusion rest

theorem State.stepEnds_of_staged (s : State) {steps : List Step} {k : Nat} {st : Step}
    (pattern : s.dmc.pattern = some steps) (staged : s.dmc.staged = some k) (step : steps[k]? = some st) :
    s.stepEnds = State.actStep { s with dmc := { s.dmc with staged := some (if k + 1 < steps.length then k + 1 else 0) } }
      { index := some k, step := st, waiting := false } := by
  simp only [State.stepEnds, staged, State.beginStep, pattern, step]

/-- Settles O16, by what the acting of the staged step can do. -/
theorem stepsAndBurstTime : Obligations.StepsAndBurstTime := by
  unfold Obligations.StepsAndBurstTime
  intro s on
  refine ⟨fun n remaining steps pattern k staged st step => ?_, fun due isDue => ?_⟩
  · have made := s.timed_some .stepEnd State.stepEnds n on remaining
    intro u c
    have ends : u.stepEnds = _ := u.stepEnds_of_staged pattern staged step
    have turning := State.turningFollowed_of_reports
      (State.reportsTurning_after (State.actStep_reports { u with dmc := { u.dmc with
        staged := some (if k + 1 < steps.length then k + 1 else 0) } } c) rfl rfl rfl rfl)
    have acts := State.actStep_acts { u with dmc := { u.dmc with
      staged := some (if k + 1 < steps.length then k + 1 else 0) } } k st
    rw [← ends] at turning acts
    refine ⟨u.stepEnds, made, acts.staged, acts.pattern.trans pattern, acts.rests, acts.runs, acts.stops, acts.stands,
      turning, ?_⟩
    exact State.ext_blocks (by simp) (by simp) (by simp) (by simp) (by simp) (by simp) (by simp) rfl (by simp) rfl
      (by simp) (by simp) (by simp) (by simp) (by simp)
  · have left : s.commandLeft .burstTimeExpiry = some (due - s.clock) := congrArg (Option.map (· - s.clock)) isDue
    have made := s.timed_some .burstTimeExpiry State.burstTimeEnds _ on left
    intro u
    have history : u.drumOff.dmc.interrupted = s.dmc.interrupted := by rw [u.drumOff_dmc]; split <;> rfl
    have drum := u.enterRest_dmc .restOut false
    refine ⟨u.burstTimeEnds, made, congrArg Dmc.motion drum, congrArg Dmc.burstDue drum,
      (congrArg Dmc.interrupted drum).trans history, (congrArg Dmc.history drum).trans rfl, u.enterRest_restsFromNow .restOut false rfl,
      State.turningFollowed_of_stops (u.enterRest_stops .restOut false), ?_⟩
    exact State.ext_blocks (by simp) (by simp) (by simp) (by simp) (by simp) (by simp) (by simp) rfl (by simp) rfl
      (by simp) (by simp) (by simp) (by simp) (by simp)

/-! ### The drum's faults (R56 to R58, R117 to R119) -/

/-- A fault of the drum: outside FAULT the drum, the fan and the heat stop, in FAULT it is counted. -/
theorem State.takeFault_drum (s : State) (k : FaultKind) (drum : k ≠ .heatStuck) :
    (s.csq.phase ≠ .fault → (s.takeFault k).faulted k s.csq.phase ∧ (s.takeFault k).stopped)
      ∧ (∀ f ∈ s.csq.record.fault, s.csq.phase = .fault → (s.takeFault k).faultedAgain f ∧ (s.takeFault k).dmc = s.dmc) := by
  refine ⟨fun outside => ?_, fun f recorded fault => ?_⟩
  · have made : s.takeFault k = s.enterFault k := if_neg outside
    rw [made]
    exact s.enterFault_stopped k drum
  · have made : s.takeFault k = s.countFault := by
      rw [State.takeFault, if_pos fault, State.faultInFault, Option.mem_def.mp recorded]
      exact if_neg fun h => drum h.2
    rw [made]
    exact s.countFault_again f fault recorded

/-- Settles O17, by what a fault of the drum brings. -/
theorem drumFaults : Obligations.DrumFaults := by
  unfold Obligations.DrumFaults
  intro active s on
  have phase (n : Nat) : (s.elapse n).csq.phase = s.csq.phase := by simp
  have record (n : Nat) : (s.elapse n).csq.record = s.csq.record := by simp
  refine ⟨fun due isDue => ?_, fun due isDue => ?_, ?_⟩
  · have left : s.commandLeft .stallDeadlineExpiry = some (due - s.clock) := congrArg (Option.map (· - s.clock)) isDue
    have made := s.timed_some .stallDeadlineExpiry State.stallExpires _ on left
    intro u
    let v : State := { u with dmc := { u.dmc with stallDue := some (u.clock + u.dmc.stallLength) } }
    obtain ⟨enters, counts⟩ := v.takeFault_drum .stall (by decide)
    refine ⟨v.takeFault .stall, made, fun outside => ?_, fun f recorded fault => ?_, (v.takeFault_carries .stall).outer⟩
    · rw [← phase (due - s.clock)] at outside ⊢
      exact enters outside
    · obtain ⟨again, dmc⟩ := counts f (by rw [record]; exact recorded) (by rw [phase]; exact fault)
      exact ⟨again, congrArg Dmc.stallDue dmc⟩
  · have left : s.commandLeft .restCheckExpiry = some (due - s.clock) := congrArg (Option.map (· - s.clock)) isDue
    have made := s.timed_some .restCheckExpiry State.restCheckExpires _ on left
    intro u
    refine ⟨u.restCheckExpires, made, ?_⟩
    by_cases still : s.dmc.still = true
    · have waits : u.restCheckExpires = { u with dmc := { u.dmc with restCheck := .awaitingPulse } } := if_pos still
      rw [if_pos still, waits]
      exact ⟨rfl, rfl, rfl, rfl, rfl, rfl, rfl, rfl, rfl, rfl, fun _ => rfl⟩
    · let v : State := { u with dmc := { u.dmc with restCheck := .reported } }
      have faults : u.restCheckExpires = v.takeFault .notStopping := if_neg still
      obtain ⟨enters, counts⟩ := v.takeFault_drum .notStopping (by decide)
      rw [if_neg still, faults]
      refine ⟨⟨fun outside => ?_, fun f recorded fault => ?_⟩, (v.takeFault_carries .notStopping).outer⟩
      · rw [← phase (due - s.clock)] at outside ⊢
        exact enters outside
      · exact (counts f (by rw [record]; exact recorded) (by rw [phase]; exact fault)).1
  · refine ⟨_, s.event_on _ on, ?_⟩
    let v : State := { s with pins := { s.pins with ivf := active } }
    by_cases rises : active = true ∧ s.pins.ivf = false ∧ s.dmc.motion ≠ .idle
    · have made : s.ivfChanges active = v.takeFault .drive :=
        if_pos (by obtain ⟨active, ivf, motion⟩ := rises; simp [active, ivf, motion])
      obtain ⟨enters, counts⟩ := v.takeFault_drum .drive (by decide)
      rw [if_pos rises, made]
      exact ⟨by simp [v], enters, fun f recorded fault => (counts f recorded fault).1⟩
    · have made : s.ivfChanges active = v := if_neg (by simpa [and_assoc] using rises)
      rw [if_neg rises, made]
      exact ⟨rfl, rfl⟩

/-! ### The sequencer's marks at each of its changes (R104, R108, R110, R113, R118, R123 to R125) -/

theorem HoldSet.add_ne_empty (h : HoldSet) (r : HoldReason) : h.add r ≠ .empty := by
  cases r <;> simp [HoldSet.add, HoldSet.empty]

theorem HoldSet.only_ne_empty (r : HoldReason) : HoldSet.only r ≠ .empty := HoldSet.empty.add_ne_empty r

/-- The sequencer is consistent outside the phases that set marks of their own. -/
theorem Csq.consistent_plain {c : Csq} (hold : c.phase ≠ .hold) (service : c.phase ≠ .service) (prep : c.phase ≠ .prep)
    (reasons : c.reasons = .empty) (owner : c.owner = none) (prepTarget : c.prepTarget = none)
    (held : ∀ p ∈ c.record.held, p.isTarget) (supervision : c.supervisionDue.isSome = c.phase.supervised)
    (holdDue : c.holdDue = none) (silence : c.silenceDue = none) (take : c.pendingTake = false)
    (stages : ∀ n : Fin 4, c.stageTimers.get n = none) (fan : c.fanTimer = none) (drum : c.drumTimer = none)
    (fault : c.phase = .fault → c.record.fault.isSome = true) : c.consistent := by
  refine ⟨?_, ?_, ?_, ?_, held, ?_, supervision, ?_, ?_, ?_, ?_, ?_, ?_, fault⟩
  all_goals simp [*]

/-- A mark that is present exactly in one phase is absent in the others. -/
theorem Phase.absent_of_ne {α : Type} {o : Option α} {p q : Phase} (mark : o.isSome = (p == q)) (other : p ≠ q) : o = none := by
  rw [beq_eq_false_iff_ne.mpr other] at mark
  exact Option.isSome_eq_false_iff.mp mark |> Option.isNone_iff_eq_none.mp

theorem absurd_of_none {α : Type} {P : Prop} {o : Option α} (h : o = none) (some : o.isSome = true) : P :=
  absurd some (by rw [h]; exact Bool.false_ne_true)

/-- What a consistent sequencer holds outside SERVICE. -/
theorem Csq.consistent_free {c : Csq} (h : c.consistent) (service : c.phase ≠ .service) :
    c.owner = none ∧ c.silenceDue = none ∧ c.pendingTake = false ∧ (∀ n : Fin 4, c.stageTimers.get n = none)
      ∧ c.fanTimer = none ∧ c.drumTimer = none := by
  obtain ⟨-, owner, -, -, -, -, -, -, silence, take, stages, fan, drum, -⟩ := h
  refine ⟨owner.trans (if_neg service), Phase.absent_of_ne silence service, ?_, fun n => ?_, ?_, ?_⟩
  · simpa [service] using take
  · simpa [service] using stages n
  · simpa [service] using fan
  · simpa [service] using drum

/-- What a consistent sequencer holds outside HOLD and PREP. -/
theorem Csq.consistent_unmarked {c : Csq} (h : c.consistent) (hold : c.phase ≠ .hold) (prep : c.phase ≠ .prep) :
    c.reasons = .empty ∧ c.holdDue = none ∧ c.prepTarget = none := by
  obtain ⟨reasons, -, prepTarget, -, -, -, -, due, -⟩ := h
  exact ⟨not_not.mp (mt reasons.mp hold), Phase.absent_of_ne due hold, Phase.absent_of_ne prepTarget prep⟩

/-- The same marks, with the deadlines and timers where they were: the phase's own counts and the record may differ. -/
theorem Csq.consistent_of_same {c d : Csq} (h : c.consistent) (phase : d.phase = c.phase) (reasons : d.reasons = c.reasons)
    (owner : d.owner = c.owner) (prepTarget : d.prepTarget = c.prepTarget) (held : d.record.held = c.record.held)
    (supervision : d.supervisionDue.isSome = c.supervisionDue.isSome) (holdDue : d.holdDue = c.holdDue)
    (silence : d.silenceDue.isSome = c.silenceDue.isSome) (take : d.pendingTake = true → c.pendingTake = true)
    (stages : d.stageTimers = c.stageTimers) (fan : d.fanTimer = c.fanTimer)
    (drum : d.drumTimer.isSome = true → c.drumTimer.isSome = true)
    (fault : c.record.fault.isSome = true → d.record.fault.isSome = true) : d.consistent := by
  obtain ⟨r, o, t, isTarget, isHeld, holds, s, due, sil, tk, st, f, dr, ft⟩ := h
  rw [Csq.consistent, phase, reasons, owner, prepTarget, held, supervision, holdDue, silence, stages, fan]
  exact ⟨r, o, t, isTarget, isHeld, holds, s, due, sil, tk ∘ take, st, f, dr ∘ drum, fault ∘ ft⟩

theorem Csq.consistent_record {c : Csq} (h : c.consistent) (r : CycleRecord) (held : r.held = c.record.held)
    (fault : c.record.fault.isSome = true → r.fault.isSome = true) : ({ c with record := r } : Csq).consistent :=
  Csq.consistent_of_same h rfl rfl rfl rfl held rfl rfl rfl id rfl rfl id fault

theorem Csq.elapse_consistent {c : Csq} (h : c.consistent) (n : Nat) : (c.elapse n).consistent := by
  obtain ⟨phase, -, record, prepTarget, -, reasons, owner, -, holdDue, supervision, silence, stages, fan, drum, take⟩ :=
    c.elapse_frame n
  exact Csq.consistent_of_same h phase reasons owner prepTarget (by rw [record]) (by rw [supervision]) holdDue
    (by rw [silence]) (by rw [take]; exact id) stages fan (by rw [drum]; exact id) (by rw [record]; exact id)

theorem Csq.clearForDone_consistent {c : Csq} (h : c.consistent) (service : c.phase ≠ .service) :
    (c.clearForDone.setPhase .done).consistent := by
  obtain ⟨owner, silence, take, stages, fan, drum⟩ := Csq.consistent_free h service
  exact Csq.consistent_plain nofun nofun nofun rfl owner rfl nofun rfl rfl silence take stages fan drum nofun

theorem Csq.clearForFault_consistent {c : Csq} (h : c.consistent) (service : c.phase ≠ .service) (f : FaultRecord) :
    ({ c.clearForFault with record := { c.clearForFault.record with fault := some f } }.setPhase .fault).consistent := by
  obtain ⟨owner, silence, take, stages, fan, drum⟩ := Csq.consistent_free h service
  exact Csq.consistent_plain nofun nofun nofun rfl owner rfl nofun rfl rfl silence take stages fan drum fun _ => rfl

theorem Csq.noTimers (n : Fin 4) : Quad.get (⟨none, none, none, none⟩ : Quad (Option Nat)) n = none := by fin_cases n <;> rfl

/-- FAULT from SERVICE: the end of manual control has removed what SERVICE holds. -/
theorem Csq.afterService_clearForFault_consistent (c : Csq) (f : FaultRecord) :
    ({ c.afterService.clearForFault with record := { c.afterService.clearForFault.record with fault := some f } }.setPhase
      .fault).consistent :=
  Csq.consistent_plain nofun nofun nofun rfl rfl rfl nofun rfl rfl rfl rfl Csq.noTimers rfl rfl fun _ => rfl

theorem Csq.guard_consistent {c : Csq} (h : c.consistent) (cooling : c.phase = .cooling) :
    ({ c with guardMs := 0 }.setPhase .guard).consistent := by
  obtain ⟨owner, silence, take, stages, fan, drum⟩ := Csq.consistent_free h (by rw [cooling]; decide)
  obtain ⟨reasons, due, prepTarget⟩ := Csq.consistent_unmarked h (by rw [cooling]; decide) (by rw [cooling]; decide)
  obtain ⟨-, -, -, -, held, -, supervision, -⟩ := h
  rw [cooling] at supervision
  exact Csq.consistent_plain nofun nofun nofun reasons owner prepTarget held supervision due silence take stages fan drum nofun

theorem Csq.endDrying_consistent {c : Csq} (h : c.consistent) (drying : c.phase = .drying) (r : EndReason) :
    ({ c with record := { c.record with endReason := some r } }.setPhase .cooling).consistent := by
  obtain ⟨owner, silence, take, stages, fan, drum⟩ := Csq.consistent_free h (by rw [drying]; decide)
  obtain ⟨reasons, due, prepTarget⟩ := Csq.consistent_unmarked h (by rw [drying]; decide) (by rw [drying]; decide)
  obtain ⟨-, -, -, -, held, -, supervision, -⟩ := h
  rw [drying] at supervision
  exact Csq.consistent_plain nofun nofun nofun reasons owner prepTarget held supervision due silence take stages fan drum nofun

theorem Csq.idle_consistent {c : Csq} (h : c.consistent) (clears : c.phase = .done ∨ c.phase = .fault) :
    (c.setPhase .idle).consistent := by
  have other (p : Phase) (done : .done ≠ p) (fault : .fault ≠ p) : c.phase ≠ p := by
    rcases clears with e | e <;> rw [e] <;> assumption
  obtain ⟨owner, silence, take, stages, fan, drum⟩ := Csq.consistent_free h (other .service nofun nofun)
  obtain ⟨reasons, due, prepTarget⟩ := Csq.consistent_unmarked h (other .hold nofun nofun) (other .prep nofun nofun)
  obtain ⟨-, -, -, -, held, -⟩ := h
  exact Csq.consistent_plain nofun nofun nofun reasons owner prepTarget held rfl due silence take stages fan drum nofun

theorem Csq.afterService_consistent {c : Csq} (h : c.consistent) (service : c.phase = .service) :
    (c.afterService.setPhase .idle).consistent := by
  obtain ⟨reasons, due, prepTarget⟩ := Csq.consistent_unmarked h (by rw [service]; decide) (by rw [service]; decide)
  obtain ⟨-, -, -, -, held, -⟩ := h
  exact Csq.consistent_plain nofun nofun nofun reasons rfl prepTarget held rfl due rfl rfl Csq.noTimers rfl rfl nofun

/-- The end of PREP. -/
def Csq.prepDone (c : Csq) : Csq := { c with prepTarget := none, revSeen := false, record := { c.record with held := none } }

theorem Csq.prepDone_consistent {c : Csq} (h : c.consistent) (prep : c.phase = .prep) {target : Phase}
    (isTarget : c.prepTarget = some target) : (c.prepDone.setPhase target).consistent := by
  obtain ⟨owner, silence, take, stages, fan, drum⟩ := Csq.consistent_free h (by rw [prep]; decide)
  obtain ⟨reasons, -, -, targets, -, -, supervision, due, -⟩ := h
  have hold : c.phase ≠ .hold := by rw [prep]; decide
  have none := not_not.mp (mt reasons.mp hold)
  rw [prep] at supervision
  rcases targets target isTarget with rfl | rfl <;>
    exact Csq.consistent_plain nofun nofun nofun none owner rfl nofun supervision (Phase.absent_of_ne due hold) silence take
      stages fan drum nofun

theorem Csq.forPrep_consistent {c : Csq} (h : c.consistent) (service : c.phase ≠ .service) {target : Phase}
    (isTarget : target.isTarget) (due : Nat) : ((c.forPrep target due).setPhase .prep).consistent := by
  obtain ⟨owner, silence, take, stages, fan, drum⟩ := Csq.consistent_free h service
  obtain ⟨-, -, -, -, held, -⟩ := h
  refine ⟨by simp [Csq.forPrep], owner, rfl, ?_, held, nofun, rfl, rfl, (congrArg Option.isSome silence).trans rfl,
    fun h => absurd (take.symm.trans h) Bool.false_ne_true, fun n => absurd_of_none (stages n),
    absurd_of_none fan, absurd_of_none drum, nofun⟩
  rintro p ⟨⟩
  exact isTarget

theorem Csq.forHold_consistent {c : Csq} (h : c.consistent)
    (holds : c.phase = .prep ∨ c.phase = .drying ∨ c.phase = .cooling) (r : HoldReason) (due : Nat) :
    ((c.forHold r due).setPhase .hold).consistent := by
  obtain ⟨owner, silence, take, stages, fan, drum⟩ :=
    Csq.consistent_free h (by rcases holds with e | e | e <;> rw [e] <;> decide)
  obtain ⟨-, -, target, isTarget, -⟩ := h
  have held : ∃ p, c.heldPhase = some p ∧ p.isTarget := by
    rcases holds with e | e | e
    · rw [e] at target
      obtain ⟨p, hp⟩ := Option.isSome_iff_exists.mp target
      exact ⟨p, by rw [Csq.heldPhase, if_pos e, hp], isTarget p hp⟩
    · exact ⟨.drying, by simp [Csq.heldPhase, e], .inl rfl⟩
    · exact ⟨.cooling, by simp [Csq.heldPhase, e], .inr rfl⟩
  obtain ⟨p, held, isTarget⟩ := held
  refine ⟨iff_of_true (HoldSet.only_ne_empty r) rfl, owner, rfl, nofun, ?_, fun _ => congrArg Option.isSome held, rfl, rfl,
    (congrArg Option.isSome silence).trans rfl, fun h => absurd (take.symm.trans h) Bool.false_ne_true,
    fun n => absurd_of_none (stages n), absurd_of_none fan, absurd_of_none drum, nofun⟩
  rintro q hq
  obtain rfl : p = q := Option.some.inj (held.symm.trans hq)
  exact isTarget

theorem Csq.takeControl_consistent {c : Csq} (h : c.consistent) (idle : c.phase = .idle) (due : Nat) :
    ({ c with owner := some .s, silenceDue := some due }.setPhase .service).consistent := by
  obtain ⟨reasons, holdDue, prepTarget⟩ := Csq.consistent_unmarked h (by rw [idle]; decide) (by rw [idle]; decide)
  obtain ⟨-, -, -, -, held, -⟩ := h
  exact ⟨iff_of_false (not_not.mpr reasons) nofun, rfl, (congrArg Option.isSome prepTarget).trans rfl,
    fun p some => absurd (prepTarget.symm.trans some) nofun, held, nofun, rfl, (congrArg Option.isSome holdDue).trans rfl, rfl,
    fun _ => rfl, fun _ _ => rfl, fun _ => rfl, fun _ => rfl, nofun⟩

/-! ### What happens beside the drum -/

/-- The drum, the tangle monitor, the sequencer and what the heat stage controller has of them stand. -/
structure State.sameDrum (s t : State) : Prop where
  clock : t.clock = s.clock
  dmc : t.dmc = s.dmc
  tgm : t.tgm = s.tgm
  csq : t.csq = s.csq
  turning : t.hsc.turning = s.hsc.turning
  tangleCap : t.hsc.tangleCap = s.hsc.tangleCap

/-- So do the settings. -/
structure State.besideDrum (s t : State) : Prop extends s.sameDrum t where
  blocks : t.sst.blocks = s.sst.blocks

theorem State.sameDrum_refl (s : State) : s.sameDrum s := ⟨rfl, rfl, rfl, rfl, rfl, rfl⟩

theorem State.sameDrum_trans {s t u : State} (h : s.sameDrum t) (h' : t.sameDrum u) : s.sameDrum u :=
  ⟨h'.clock.trans h.clock, h'.dmc.trans h.dmc, h'.tgm.trans h.tgm, h'.csq.trans h.csq, h'.turning.trans h.turning,
    h'.tangleCap.trans h.tangleCap⟩

theorem State.besideDrum_refl (s : State) : s.besideDrum s := ⟨s.sameDrum_refl, rfl⟩

theorem State.besideDrum_trans {s t u : State} (h : s.besideDrum t) (h' : t.besideDrum u) : s.besideDrum u :=
  ⟨State.sameDrum_trans h.tosameDrum h'.tosameDrum, h'.blocks.trans h.blocks⟩

theorem State.sameDrum_of_hsc {s t : State} (clock : t.clock = s.clock) (dmc : t.dmc = s.dmc) (tgm : t.tgm = s.tgm)
    (csq : t.csq = s.csq) (hsc : t.hsc = s.hsc) : s.sameDrum t := ⟨clock, dmc, tgm, csq, by rw [hsc], by rw [hsc]⟩

theorem State.besideDrum_of_hsc {s t : State} (clock : t.clock = s.clock) (dmc : t.dmc = s.dmc) (tgm : t.tgm = s.tgm)
    (csq : t.csq = s.csq) (hsc : t.hsc = s.hsc) (blocks : t.sst.blocks = s.sst.blocks) : s.besideDrum t :=
  ⟨State.sameDrum_of_hsc clock dmc tgm csq hsc, blocks⟩

/-- At the heat stage controller alone something has changed, but not the turning report and the tangle cap. -/
theorem State.besideDrum_of_frame {s t : State} (frame : t = { s with hsc := t.hsc })
    (turning : t.hsc.turning = s.hsc.turning) (tangleCap : t.hsc.tangleCap = s.hsc.tangleCap) : s.besideDrum t := by
  refine ⟨⟨?_, ?_, ?_, ?_, turning, tangleCap⟩, ?_⟩ <;> rw [frame]

theorem State.besideDrum_of_sheds {s t : State} (h : s.sheds t) : s.besideDrum t :=
  State.besideDrum_of_frame (by rw [h.frame]) (by rw [h.frame]) (by rw [h.frame])

theorem foldl_beside {α : Type} {f : State → α → State} (each : ∀ (s : State) a, s.besideDrum (f s a)) (l : List α) (s : State) :
    s.besideDrum (l.foldl f s) :=
  foldl_rel State.besideDrum_refl (fun _ _ _ => State.besideDrum_trans) each l s

/-! ### Beside the drum: the heat stage controller -/

theorem State.enforce_beside (s : State) : s.besideDrum s.enforce := State.besideDrum_of_sheds s.enforce_sheds

theorem State.shedToCap_beside (s : State) : s.besideDrum s.shedToCap := State.besideDrum_of_sheds s.shedToCap_sheds

theorem State.stageOff_beside (s : State) (n : StageNo) : s.besideDrum (s.stageOff n) :=
  State.besideDrum_of_sheds (s.stageOff_sheds n)

theorem State.stagesOff_beside (s : State) (ns : List StageNo) : s.besideDrum (s.stagesOff ns) :=
  State.besideDrum_of_sheds (s.stagesOff_sheds ns)

theorem State.stageOn_beside (s : State) (n : StageNo) : s.besideDrum (s.stageOn n) := State.besideDrum_of_frame rfl rfl rfl

theorem State.setStage_beside (s : State) (n : StageNo) (x : Stage) : s.besideDrum (s.setStage n x) :=
  State.besideDrum_of_frame rfl rfl rfl

theorem State.settleTests_beside (s : State) : s.besideDrum s.settleTests := by
  obtain ⟨frame, -⟩ := s.settleTests_keeps
  exact State.besideDrum_of_frame (by rw [frame]) (by rw [frame]) (by rw [frame])

theorem State.notify_beside (s : State) (l : Link) (n : Notice) : s.besideDrum (s.notify l n) :=
  State.besideDrum_of_hsc (by simp) (by simp) (by simp) (by simp) (by simp) (by simp)

theorem State.notifyBoth_beside (s : State) (n : Notice) : s.besideDrum (s.notifyBoth n) :=
  State.besideDrum_of_hsc (by simp) (by simp) (by simp) (by simp) (by simp) (by simp)

theorem State.judgeTest_beside (s : State) (n : StageNo) : s.besideDrum (s.judgeTest n) := by
  unfold State.judgeTest
  split
  · exact s.besideDrum_refl
  · split
    · exact s.besideDrum_refl
    · dsimp only
      split
      · exact s.setStage_beside n _
      · exact State.besideDrum_trans (State.besideDrum_trans (s.setStage_beside n _) (State.stageOff_beside _ n))
          (State.notifyBoth_beside _ _)

theorem State.judgeTests_beside (s : State) : s.besideDrum s.judgeTests :=
  State.besideDrum_trans (foldl_beside State.judgeTest_beside four s) (State.shedToCap_beside _)

theorem State.setInletCap_beside (s : State) (c : Nat) : s.besideDrum (s.setInletCap c) :=
  State.besideDrum_trans (t := { s with hsc := { s.hsc with inletCap := c } }) (State.besideDrum_of_frame rfl rfl rfl)
    (State.shedToCap_beside _)

theorem State.updateInletCap_beside (s : State) : s.besideDrum s.updateInletCap := s.setInletCap_beside _

theorem State.computeDemand_beside (s : State) : s.besideDrum s.computeDemand := by
  unfold State.computeDemand
  split
  · exact s.besideDrum_refl
  · exact ⟨⟨by simp, by simp, by simp, by simp, by simp, by simp⟩, by simp⟩

theorem State.switchStages_beside (s : State) : s.besideDrum s.switchStages := by
  unfold State.switchStages
  dsimp only
  split
  · exact s.stagesOff_beside _
  · split
    · split
      · exact s.stageOn_beside _
      · exact s.besideDrum_refl
    · exact s.besideDrum_refl

theorem State.recordAfter_beside (s : State) (v : Int) : s.besideDrum (s.recordAfter v) := State.besideDrum_of_frame rfl rfl rfl

theorem State.afterStuckCheck_beside (s : State) (v : Int) : s.besideDrum (s.afterStuckCheck v) := by
  unfold State.afterStuckCheck
  split
  · exact s.besideDrum_refl
  · split
    · exact State.besideDrum_of_frame rfl rfl rfl
    · split
      · exact s.besideDrum_refl
      · exact State.besideDrum_of_frame rfl rfl rfl

theorem State.fanOn_beside (s : State) : s.besideDrum s.fanOn := State.besideDrum_of_frame rfl rfl rfl

theorem State.fanOff_beside (s : State) : s.besideDrum s.fanOff :=
  State.besideDrum_trans (t := { s with hsc := { s.hsc with
    fanDemand := false, fanOn := false, afterRun := none, airflow := .off, proofDue := none, graceDue := none } })
    (State.besideDrum_of_frame rfl rfl rfl) (State.enforce_beside _)

theorem State.fanDemandEnds_beside (s : State) : s.besideDrum s.fanDemandEnds := by
  unfold State.fanDemandEnds
  split
  · split
    · exact State.besideDrum_of_frame rfl rfl rfl
    · exact s.fanOff_beside
  · exact s.besideDrum_refl

theorem State.followFan_beside (s : State) (p : Phase) : s.besideDrum (s.followFan p) := by
  cases p with
  | prep | drying | cooling | guard => exact s.fanOn_beside
  | hold | done | idle => exact s.fanDemandEnds_beside
  | service => exact s.besideDrum_refl
  | fault =>
    unfold State.followFan
    dsimp only
    split
    · split
      · exact s.fanOn_beside
      · exact s.fanOff_beside
    · exact s.fanOff_beside

theorem State.followAirflow_beside (s : State) (left p : Phase) : s.besideDrum (s.followAirflow left p) := by
  unfold State.followAirflow
  dsimp only
  refine State.besideDrum_of_frame rfl ?_ ?_ <;> dsimp only <;> (repeat' split) <;> rfl

theorem State.followHeat_beside (s : State) (left p : Phase) : s.besideDrum (s.followHeat left p) := by
  unfold State.followHeat
  dsimp only
  refine State.besideDrum_trans ?_ (State.enforce_beside _)
  refine State.besideDrum_trans ?_ (State.followAirflow_beside _ left p)
  refine State.besideDrum_trans ?_ (State.followFan_beside _ p)
  refine State.besideDrum_trans ?_ (State.enforce_beside _)
  split <;> exact State.besideDrum_of_frame rfl rfl rfl

theorem State.airflowSwitch_beside (s : State) (closed : Bool) : s.besideDrum (s.airflowSwitch closed) := by
  unfold State.airflowSwitch
  split
  · exact State.besideDrum_of_frame rfl rfl rfl
  · exact State.besideDrum_trans (State.besideDrum_of_frame (t := { s with hsc := { s.hsc with
      airflow := .lost
      graceDue := if s.csq.phase.supervisesAir then some (s.clock + 30000) else s.hsc.graceDue } }) rfl rfl rfl)
      (State.enforce_beside _)
  · exact State.besideDrum_of_frame rfl rfl rfl
  all_goals exact s.besideDrum_refl

theorem State.stageTestOff_beside (s : State) (n : StageNo) : s.besideDrum (s.stageTestOff n) := by
  unfold State.stageTestOff
  dsimp only
  split
  · exact State.besideDrum_trans (s.setStage_beside n _) (State.stageOff_beside _ n)
  · exact s.setStage_beside n _

theorem State.countSecond_beside (s : State) (n : StageNo) : s.besideDrum (s.countSecond n) := by
  unfold State.countSecond
  dsimp only
  split <;> exact State.besideDrum_of_frame rfl rfl rfl

theorem State.inletSeen_beside (s : State) (j : Judged) : s.besideDrum (s.inletSeen j) := by
  unfold State.inletSeen
  split
  · exact s.setInletCap_beside 2
  · exact s.besideDrum_refl

theorem State.heatTemperature_tIn_beside (s : State) (j : Judged) : s.besideDrum (s.heatTemperature .tIn j) := by
  rw [s.heatTemperature_tIn]
  split
  · exact State.besideDrum_trans (s.inletSeen_beside j) (State.updateInletCap_beside _)
  · exact s.inletSeen_beside j

theorem State.heatRead_beside (s : State) (v : Int) : s.besideDrum (s.heatRead v) := by
  unfold State.heatRead
  split
  · exact State.besideDrum_trans (s.recordAfter_beside v) (State.judgeTests_beside _)
  · exact s.recordAfter_beside v

theorem State.locksOut_beside (s : State) (v : Int) : s.besideDrum (s.locksOut v) :=
  State.besideDrum_trans (State.besideDrum_trans (t := { s with hsc := { s.hsc with lockout := true } })
    (State.besideDrum_of_frame rfl rfl rfl) (State.enforce_beside _)) (State.notifyBoth_beside _ _)

/-! ### Beside the drum: records, readings, links and the settings store -/

theorem State.offerRecord_beside (s : State) (r : Record) : s.besideDrum (s.offerRecord r) :=
  State.besideDrum_of_hsc (by simp) (by simp) (by simp) (by simp) (by simp) (by simp)

theorem State.answer_beside (s : State) (l : Link) (k : Byte) (st : Status) (c : List Byte) : s.besideDrum (s.answer l k st c) :=
  State.besideDrum_of_hsc (by simp) (by simp) (by simp) (by simp) (by simp) (by simp)

theorem State.answerStatus_beside (s : State) (l : Link) (k : Byte) (st : Status) : s.besideDrum (s.answerStatus l k st) :=
  s.answer_beside l k st []

theorem State.modLink_beside (s : State) (l : Link) (f : LinkState → LinkState) : s.besideDrum (s.modLink l f) :=
  State.besideDrum_of_hsc (by simp) (by simp) (by simp) (by simp) (by simp) (by simp)

theorem State.told_beside (s : State) (ch : Channel) (code : Code) : s.besideDrum (s.told ch code) :=
  State.besideDrum_of_hsc (by simp) (by simp) (by simp) (by simp) (by simp) (by simp)

theorem State.startWindow_beside (s : State) : s.besideDrum s.startWindow :=
  State.besideDrum_of_hsc (by simp) (by simp) (by simp) (by simp) (by simp) (by simp)

theorem State.nextWindow_beside (s : State) : s.besideDrum s.nextWindow := by
  unfold State.nextWindow
  split
  · exact s.startWindow_beside
  · exact s.besideDrum_refl

theorem State.storeRequest_beside (s : State) (l : Link) (b : Byte) : s.besideDrum (s.storeRequest l b) := by
  refine State.besideDrum_of_hsc (by simp) (by simp) (by simp) (by simp) (by simp) ?_
  unfold State.storeRequest
  dsimp only
  split
  · simp
  · split
    · simp
    · simp [State.beginStore]

theorem State.completeStore_beside (s : State) : s.besideDrum s.completeStore := by
  refine State.besideDrum_of_hsc (by simp) (by simp) (by simp) (by simp) (by simp) ?_
  unfold State.completeStore
  dsimp only
  split
  · rfl
  · split <;> simp [State.beginStore]

theorem State.writeBlock_same (s : State) (b first : Nat) (ws : List Word) : s.sameDrum (s.writeBlock b first ws) := by
  unfold State.writeBlock
  split
  · exact State.besideDrum.tosameDrum (State.besideDrum_of_frame rfl rfl rfl)
  · refine State.sameDrum_trans (t := { s with sst := { s.sst with
      blocks := s.sst.blocks.set b (writeWords (s.sst.blocks.get b) first ws) } }) ⟨rfl, rfl, rfl, rfl, rfl, rfl⟩ ?_
    exact (State.besideDrum_trans (State.stagesOff_beside _ _) (State.shedToCap_beside _)).tosameDrum

/-- SET writes the settings, and switches no more than stages. -/
theorem State.setRequest_same (s : State) (l : Link) (b first : Byte) (vs : List Word) : s.sameDrum (s.setRequest l b first vs) := by
  have answers (v : State) (st : Status) (c : List Byte) (k : Byte) : v.sameDrum (v.answer l k st c) :=
    (v.answer_beside l k st c).tosameDrum
  unfold State.setRequest
  dsimp only
  split
  · exact answers s _ _ _
  split
  · exact answers s _ _ _
  split
  · exact answers s _ _ _
  have writes := State.sameDrum_trans (s.writeBlock_same b.toNat first.toNat (fixWords b.toNat first.toNat vs))
    (State.settleTests_beside _).tosameDrum
  split
  · exact State.sameDrum_trans writes (answers _ _ _ _)
  · exact State.sameDrum_trans writes (answers _ _ _ _)

theorem State.loadComplete_same (s : State) : s.sameDrum s.loadComplete := by
  unfold State.loadComplete
  exact ⟨by simp, by simp, by simp, by simp, by simp [State.setOnTimes], by simp [State.setOnTimes]⟩

theorem State.beginTransmission_beside (s : State) (l : Link) : s.besideDrum (s.beginTransmission l) :=
  State.besideDrum_of_hsc (by simp) (by simp) (by simp) (by simp) (by simp) (by simp)

/-! ### What an event can do to the drum, step by step -/

/-- A relation between an event's states that each of its steps at the drum, the tangle monitor and the sequencer keeps. -/
structure KeptByDrum (R : State → State → Prop) : Prop where
  refl : ∀ s, R s s
  trans : ∀ {s t u}, R s t → R t u → R s u
  beside : ∀ {s t : State}, s.besideDrum t → R s t
  sequencer : ∀ (s : State) (c : Csq), c.phase = s.csq.phase → (s.csq.consistent → c.consistent) → R s { s with csq := c }
  enters : ∀ (s : State) (c : Csq) (p : Phase) (cause : Cause), c.phase = s.csq.phase →
    (s.csq.consistent → (c.setPhase p).consistent) → (p = .drying → s.csq.phase ≠ .drying) →
    R s (State.changePhase { s with csq := c } p cause)
  demands : ∀ s : State, s.csq.phase = .fault → R s (s.motionDemand .fault .fault)
  idles : ∀ (s : State) (c : Csq), c.phase = s.csq.phase → (s.csq.consistent → c.consistent) →
    (s.csq.consistent → s.csq.phase ≠ .drying) → R s (State.idleDrum { s with csq := c })
  testRest : ∀ s : State, s.csq.phase = .service → R s s.testRest
  testRun : ∀ (s : State) a v, s.csq.phase = .service → R s (s.testRun a v)
  starts : ∀ s : State, s.csq.phase ≠ .drying → R s s.tangleAtStart.heatAtStart
  gate : ∀ s : State, R s s.judgeGate
  steps : ∀ s : State, s.dmc.remaining.isSome = true → R s s.stepEnds
  burstTime : ∀ s : State, s.dmc.burstDue.isSome = true → R s s.burstTimeEnds
  runs : ∀ (s : State) d, s.dmc.motion = .starting d →
    R s (State.setTurning { s with dmc := { s.dmc with motion := .run d } }).openRevolution
  opposes : ∀ (s : State) d, s.dmc.motion = .runOpp d → R s s.setTurning.openRevolution
  reopens : ∀ (s : State) d h, s.dmc.motion = .run d ∨ s.dmc.motion = .runOpp d ∧ s.dmc.turning = true →
    R s (State.openRevolution { s with dmc := { s.dmc with history := h } })
  bursts : ∀ {s t : State} (chain : Nat), s.csq.phase = .drying → s.takeBurst = some t →
    R s (State.refreshCapFlag { t with tgm := { t.tgm with
      c := 0, b := chain, recheck := none, burst := true, outstanding := false } })
  counts : ∀ (s : State) n, R s { s with tgm := { s.tgm with c := n } }
  chainEnds : ∀ (s : State) c b, R s (State.refreshCapFlag { s with tgm := { s.tgm with c := c, b := b, recheck := none } })
  samples : ∀ (s : State) i, R s (s.motorSample i)
  checks : ∀ (s : State) x, s.dmc.restCheck ≠ .none → x ≠ .none → R s { s with dmc := { s.dmc with restCheck := x } }
  stalls : ∀ (s : State) due, s.dmc.stallDue.isSome = true → R s { s with dmc := { s.dmc with stallDue := some due } }
  restMinimum : ∀ s : State, R s { s with dmc := { s.dmc with restMinDue := none } }

theorem State.beforeFault_beside (s : State) (k : FaultKind) : s.besideDrum { s.beforeFault k with csq := s.csq } := by
  have hsc : (s.beforeFault k).hsc.turning = s.hsc.turning ∧ (s.beforeFault k).hsc.tangleCap = s.hsc.tangleCap := by
    unfold State.beforeFault State.modRecord
    dsimp only
    split
    · rw [State.endService_hsc]; exact ⟨rfl, rfl⟩
    · exact ⟨rfl, rfl⟩
  exact ⟨⟨by simp, by simp, by simp, rfl, hsc.1, hsc.2⟩, by simp⟩

/-- The drum has made a revolution, before the pulse has its effect (R44). -/
def State.pulsed (s : State) : State := { s with dmc := { s.dmc with lastPulse := some s.clock, still := false } }

/-- The effect of the pulse by motion state (R49, R57). -/
def State.pulseActs (v : State) : State :=
  match v.dmc.motion with
  | .idle => v
  | .starting d => v.pulseStarting d
  | .run _ => v.pulseTurning
  | .runOpp _ => if v.dmc.turning then v.pulseTurning else v.setTurning.openRevolution
  | .rest | .restIn | .restOut => v.pulseResting

theorem State.pulse_eq (s : State) : s.pulse = s.pulsed.pulseActs := rfl

section Acts

variable {v : State} {d : Dir}

theorem State.pulseActs_idle (h : v.dmc.motion = .idle) : v.pulseActs = v := by rw [State.pulseActs, h]

theorem State.pulseActs_starting (h : v.dmc.motion = .starting d) : v.pulseActs = v.pulseStarting d := by
  rw [State.pulseActs, h]

theorem State.pulseActs_turning (h : v.dmc.motion = .run d ∨ v.dmc.motion = .runOpp d ∧ v.dmc.turning = true) :
    v.pulseActs = v.pulseTurning := by
  rcases h with run | ⟨runOpp, turns⟩
  · rw [State.pulseActs, run]
  · rw [State.pulseActs, runOpp]; exact if_pos turns

theorem State.pulseActs_opposing (h : v.dmc.motion = .runOpp d) (turning : v.dmc.turning = false) :
    v.pulseActs = v.setTurning.openRevolution := by
  rw [State.pulseActs, h]; exact if_neg (by rw [turning]; exact Bool.false_ne_true)

theorem State.pulseActs_resting (h : v.dmc.motion.isRest = true) : v.pulseActs = v.pulseResting := by
  cases motion : v.dmc.motion with
  | rest | restIn | restOut => rw [State.pulseActs, motion]
  | idle | starting | run | runOpp => rw [motion] at h; exact absurd h Bool.false_ne_true

end Acts

theorem Csq.setTimer_consistent {c : Csq} (h : c.consistent) (a : Actuator) (due : Option Nat)
    (service : due.isSome = true → c.phase = .service) : (c.setTimer a due).consistent := by
  obtain ⟨r, o, t, isTarget, held, holds, sup, due', sil, tk, st, f, dr, flt⟩ := h
  cases a with
  | stage n =>
    refine ⟨r, o, t, isTarget, held, holds, sup, due', sil, tk, fun m some => ?_, f, dr, flt⟩
    by_cases e : m = n
    · subst e; rw [show (c.setTimer (.stage m) due).stageTimers.get m = due from Quad.get_set_same _ m due] at some
      exact service some
    · exact st m ((congrArg Option.isSome (Quad.get_set_other c.stageTimers n m due e)).symm.trans some)
  | fan => exact ⟨r, o, t, isTarget, held, holds, sup, due', sil, tk, st, service, dr, flt⟩
  | drum => exact ⟨r, o, t, isTarget, held, holds, sup, due', sil, tk, st, f, service, flt⟩

section Kept

variable {R : State → State → Prop} (kept : KeptByDrum R)

include kept

theorem KeptByDrum.afterBeside {s t u : State} (h : s.besideDrum t) (h' : R t u) : R s u := kept.trans (kept.beside h) h'

theorem KeptByDrum.beforeBeside {s t u : State} (h : R s t) (h' : t.besideDrum u) : R s u := kept.trans h (kept.beside h')

theorem KeptByDrum.changePhase (s : State) (p : Phase) (cause : Cause) (consistent : s.csq.consistent → (s.csq.setPhase p).consistent)
    (drying : p = .drying → s.csq.phase ≠ .drying) : R s (s.changePhase p cause) :=
  kept.enters s s.csq p cause rfl consistent drying

/-! ### Faults (R117 to R119) -/

theorem KeptByDrum.countFault (s : State) : R s s.countFault := by
  unfold State.countFault
  split
  · exact kept.refl s
  · next f recorded =>
    refine kept.beforeBeside ?_ (State.notifyBoth_beside _ _)
    exact kept.sequencer s _ rfl fun h => Csq.consistent_record h _ rfl fun _ => rfl

theorem KeptByDrum.driveInFault (s : State) (before : Motion) : R s (s.driveInFault before) := by
  unfold State.driveInFault
  split
  · exact kept.countFault s
  · exact kept.refl s

theorem KeptByDrum.replaceFault (s : State) (f : FaultRecord) (fault : s.csq.phase = .fault) : R s (s.replaceFault f) := by
  unfold State.replaceFault
  dsimp only
  refine kept.trans ?_ (kept.driveInFault _ _)
  refine kept.beforeBeside ?_ (State.notifyBoth_beside _ _)
  refine kept.beforeBeside ?_ (State.followFan_beside _ _)
  refine kept.trans ?_ (kept.demands _ fault)
  exact kept.sequencer s _ rfl fun h => Csq.consistent_record h _ rfl fun _ => rfl

theorem KeptByDrum.faultInFault (s : State) (k : FaultKind) (fault : s.csq.phase = .fault) : R s (s.faultInFault k) := by
  unfold State.faultInFault
  split
  · exact kept.refl s
  · split
    · exact kept.replaceFault s _ fault
    · exact kept.countFault s

theorem KeptByDrum.enterFault (s : State) (k : FaultKind) : R s (s.enterFault k) := by
  rw [s.enterFault_eq]
  refine kept.trans ?_ (kept.driveInFault _ _)
  refine kept.beforeBeside ?_ (State.notifyBoth_beside _ _)
  refine kept.afterBeside (s.beforeFault_beside k) ?_
  have phase : (s.beforeFault k).csq.phase = s.csq.phase := by simp
  refine kept.enters { s.beforeFault k with csq := s.csq } (s.beforeFault k).csq .fault .fault phase (fun h => ?_) nofun
  rw [State.beforeFault_csq]
  dsimp only
  split
  · exact Csq.afterService_clearForFault_consistent _ _
  · next service => exact Csq.clearForFault_consistent h service _

theorem KeptByDrum.takeFault (s : State) (k : FaultKind) : R s (s.takeFault k) := by
  unfold State.takeFault
  split
  · next fault => exact kept.faultInFault s k fault
  · exact kept.enterFault s k

theorem KeptByDrum.faultIf (s : State) (c : Bool) (k : FaultKind) : R s (s.faultIf c k) := by
  unfold State.faultIf
  split
  · exact kept.takeFault s k
  · exact kept.refl s

/-! ### The ends of the phases (R105 to R108, R112) -/

theorem KeptByDrum.endDrying (s : State) (r : EndReason) : R s (s.endDrying r) := by
  unfold State.endDrying
  split
  · next drying => exact kept.enters s _ .cooling _ rfl (fun h => Csq.endDrying_consistent h drying r) nofun
  · exact kept.refl s

theorem KeptByDrum.declareDry (s : State) : R s s.declareDry := by
  unfold State.declareDry
  split
  · exact kept.afterBeside (State.notifyBoth_beside _ _) (kept.endDrying _ _)
  · exact kept.refl s

theorem KeptByDrum.checkHeat (s : State) : R s s.checkHeat := by
  unfold State.checkHeat
  split
  · exact kept.endDrying s _
  · exact kept.refl s

theorem KeptByDrum.enterDone (s : State) (c : Cause) (service : s.csq.consistent → s.csq.phase ≠ .service) : R s (s.enterDone c) :=
  kept.enters s _ .done c rfl (fun h => Csq.clearForDone_consistent h (service h)) nofun

theorem KeptByDrum.endCycle (s : State) (r : EndReason) (service : s.csq.consistent → s.csq.phase ≠ .service) :
    R s (s.endCycle r) := by
  have ends : R s (s.setEnd r) := kept.sequencer s _ rfl fun h => Csq.consistent_record h _ rfl id
  exact kept.trans ends (kept.enterDone _ _ fun h => service (Csq.consistent_record h s.csq.record rfl id))

theorem KeptByDrum.endCooling (s : State) (c : Cause) (cooling : s.csq.consistent → s.csq.phase = .cooling) :
    R s (s.endCooling c) := by
  unfold State.endCooling
  split
  · exact kept.enters s { s.csq with guardMs := 0 } .guard c rfl (fun h => Csq.guard_consistent h (cooling h)) nofun
  · exact kept.enterDone s c fun h => by rw [cooling h]; decide

theorem KeptByDrum.abortCycle (s : State) (r : EndReason) : R s (s.abortCycle r) := by
  unfold State.abortCycle
  split
  · exact kept.endDrying s r
  · next e => exact kept.endCycle s r fun _ => by rw [e]; decide
  · next e => exact kept.endCycle s r fun _ => by rw [e]; decide
  · next e => exact kept.endCycle s r fun _ => by rw [e]; decide
  · next e => exact kept.endCycle s r fun _ => by rw [e]; decide
  all_goals exact kept.refl s

/-! ### HOLD (R107, R110) -/

theorem KeptByDrum.enterHold (s : State) (r : HoldReason)
    (holds : s.csq.phase = .prep ∨ s.csq.phase = .drying ∨ s.csq.phase = .cooling) : R s (s.enterHold r) := by
  refine kept.beforeBeside ?_ (State.notifyBoth_beside _ _)
  exact kept.enters s _ .hold _ rfl (fun h => Csq.forHold_consistent h holds r _) nofun

theorem KeptByDrum.joinHold (s : State) (r : HoldReason) (hold : s.csq.phase = .hold) : R s (s.joinHold r) := by
  unfold State.joinHold
  split
  · exact kept.refl s
  · refine kept.beforeBeside (kept.sequencer s { s.csq with
      reasons := s.csq.reasons.add r, record := s.csq.record.countTangle r } rfl fun h => ?_) (State.notifyBoth_beside _ _)
    have held : (s.csq.record.countTangle r).held = s.csq.record.held ∧ (s.csq.record.countTangle r).fault = s.csq.record.fault := by
      unfold CycleRecord.countTangle; split <;> exact ⟨rfl, rfl⟩
    have counted := Csq.consistent_record h (s.csq.record.countTangle r) held.1 (by rw [held.2]; exact id)
    obtain ⟨-, rest⟩ := counted
    exact ⟨iff_of_true (s.csq.reasons.add_ne_empty r) hold, rest⟩

theorem KeptByDrum.takeHoldCause (s : State) (r : HoldReason) : R s (s.takeHoldCause r) := by
  unfold State.takeHoldCause
  split
  · next e => exact kept.enterHold s r (.inl e)
  · next e => exact kept.enterHold s r (.inr (.inl e))
  · next e => exact kept.enterHold s r (.inr (.inr e))
  · next e => exact kept.joinHold s r e
  · next e =>
    split
    · exact kept.refl s
    · exact kept.enterDone s _ fun _ => by rw [e]; decide
  all_goals exact kept.refl s

/-! ### PREP and START (R103 to R105) -/

theorem KeptByDrum.completePrep (s : State) (prep : s.csq.phase = .prep) : R s s.completePrep := by
  unfold State.completePrep
  split
  · exact kept.refl s
  · next target isTarget =>
    have enters : R s (State.changePhase { s with csq := s.csq.prepDone } target .prepComplete) :=
      kept.enters s _ target _ rfl (fun h => Csq.prepDone_consistent h prep isTarget) fun _ => by rw [prep]; decide
    dsimp only
    split
    · exact kept.trans enters (kept.endDrying _ _)
    · exact kept.trans enters (kept.checkHeat _)

theorem KeptByDrum.judgePrep (s : State) : R s s.judgePrep := by
  unfold State.judgePrep
  split
  · next h => exact kept.completePrep s h.1
  · exact kept.refl s

theorem KeptByDrum.enterPrep (s : State) (target : Phase) (cause : Cause) (isTarget : s.csq.consistent → target.isTarget)
    (service : s.csq.phase ≠ .service) : R s (s.enterPrep target cause) := by
  unfold State.enterPrep
  dsimp only
  refine kept.trans ?_ (kept.judgePrep _)
  refine kept.trans ?_ (kept.faultIf _ _ _)
  refine kept.trans ?_ (kept.faultIf _ _ _)
  refine kept.trans ?_ (kept.faultIf _ _ _)
  exact kept.enters s _ .prep cause rfl (fun h => Csq.forPrep_consistent h service (isTarget h) _) nofun

theorem KeptByDrum.beginCycle (s : State) (number : Nat) (rests : s.csq.phase = .idle ∨ s.csq.phase = .done) :
    R s (s.beginCycle number) := by
  have other (p : Phase) (idle : .idle ≠ p) (done : .done ≠ p) : s.csq.phase ≠ p := by
    rcases rests with e | e <;> rw [e] <;> assumption
  have enters := kept.sequencer s (s.csq.forStart number (s.programAt number) s.refTime) rfl fun h => by
    obtain ⟨r, o, t, isTarget, -, holds, s', due, sil, tk, st, f, dr, -⟩ := h
    exact ⟨r, o, t, isTarget, nofun, fun h => absurd h (other .hold nofun nofun), s', due, sil, tk, st, f, dr,
      fun h => absurd h (other .fault nofun nofun)⟩
  unfold State.beginCycle
  dsimp only
  refine kept.trans enters (kept.trans ?_ (kept.trans (kept.starts _ ?_) (kept.enterPrep _ _ _ (fun _ => .inl rfl) ?_)))
  · exact kept.beside (State.besideDrum_of_hsc rfl rfl rfl rfl rfl rfl)
  · exact other .drying nofun nofun
  · have phase : (s.csq.forStart number (s.programAt number) s.refTime).phase = s.csq.phase := rfl
    simpa [phase] using other .service nofun nofun

/-! ### The watch units and the window's values (R36, R136 to R138) -/

theorem KeptByDrum.byWatches : KeptByWatches R where
  refl := kept.refl
  trans := kept.trans
  judged _ _ _ _ := kept.beside (State.besideDrum_of_hsc rfl rfl rfl rfl rfl rfl)
  recorded _ _ _ _ _ := kept.beside (State.besideDrum_of_hsc (by simp) (by simp) (by simp) (by simp) (by simp) (by simp))
  told s l w v := kept.beside (s.notify_beside l _)

theorem KeptByDrum.offerValue (s : State) (q : Quantity) (v : Int) : R s (s.offerValue q v) :=
  foldl_rel kept.refl (fun _ _ _ => kept.trans)
    (fun s w => s.offerTo_kept kept.byWatches q v w fun _ t => kept.takeHoldCause t .watch) four s

theorem KeptByDrum.endWindow (s : State) (w : Window) : R s (s.endWindow w) := by
  rw [s.endWindow_eq]
  refine kept.beforeBeside ?_ (State.nextWindow_beside _)
  refine kept.trans ?_ (State.offerWindow_rel (R := R) (fun _ _ _ => kept.trans) kept.offerValue _ _ _ _)
  refine kept.trans (kept.beside (State.besideDrum_of_hsc (t := s.windowTold w) ?_ ?_ ?_ ?_ ?_ ?_)) ?_
  any_goals simp
  unfold State.windowTaken
  split
  · exact kept.declareDry _
  · exact kept.refl _

theorem KeptByDrum.windowEnds (s : State) : R s s.windowEnds := by
  unfold State.windowEnds
  split
  · exact kept.refl s
  · exact kept.endWindow s _

theorem KeptByDrum.dryingSecond (s : State) : R s s.dryingSecond := by
  refine kept.trans ?_ (kept.offerValue _ _ _)
  exact kept.sequencer s _ rfl fun h => Csq.consistent_of_same h rfl rfl rfl rfl rfl rfl rfl rfl id rfl rfl id id

/-! ### Conversions and the control period (R3, R79, R92, R93, R106) -/

theorem KeptByDrum.housingCheck (s : State) (v : Int) : R s (s.housingCheck v) := by
  rw [s.housingCheck_eq]
  split
  · exact kept.afterBeside (s.locksOut_beside v) (kept.endDrying _ _)
  · exact kept.refl s

theorem KeptByDrum.heatTemperature (s : State) (ch : Channel) (j : Judged) : R s (s.heatTemperature ch j) := by
  have sheds : s.besideDrum (if j.entered then s.enforce else s) := by
    split
    · exact s.enforce_beside
    · exact s.besideDrum_refl
  cases ch with
  | tIn => exact kept.beside (s.heatTemperature_tIn_beside j)
  | tExh => exact kept.beside sheds
  | tHsg =>
    unfold State.heatTemperature
    dsimp only
    split
    · exact kept.afterBeside sheds (kept.housingCheck _ _)
    · exact kept.beside sheds
  | iHeat | g | iMot => exact kept.refl s

theorem KeptByDrum.cycleTemperature (s : State) (ch : Channel) (j : Judged) : R s (s.cycleTemperature ch j) := by
  unfold State.cycleTemperature
  dsimp only
  split
  · next cools => exact kept.trans (kept.faultIf _ _ _) (kept.endCooling _ _ fun _ => cools.1)
  · exact kept.faultIf _ _ _

theorem KeptByDrum.offerTemperature (s : State) (ch : Channel) (j : Judged) : R s (s.offerTemperature ch j) := by
  unfold State.offerTemperature
  split
  · exact kept.offerValue _ _ _
  · exact kept.refl s

theorem KeptByDrum.heatCurrent (s : State) (v : Int) : R s (s.heatCurrent v) := by
  rw [s.heatCurrent_eq]
  have read := kept.beside (s.heatRead_beside v)
  split
  · exact kept.trans (kept.beforeBeside read (State.afterStuckCheck_beside _ v)) (kept.faultIf _ _ _)
  · exact read

theorem KeptByDrum.convert (s : State) (ch : Channel) (code : Code) : R s (s.convert ch code) := by
  have told := kept.beside (s.told_beside ch code)
  have temperature (temp : ch = .tIn ∨ ch = .tExh ∨ ch = .tHsg) : R s (s.convert ch code) := by
    rw [s.convert_temperature ch code temp]
    refine kept.trans told (kept.trans (kept.offerTemperature _ ch (s.judged ch code)) (kept.beforeBeside ?_ (State.settleTests_beside _)))
    exact kept.trans (kept.heatTemperature _ _ _) (kept.cycleTemperature _ _ _)
  cases ch with
  | tIn => exact temperature (.inl rfl)
  | tExh => exact temperature (.inr (.inl rfl))
  | tHsg => exact temperature (.inr (.inr rfl))
  | iHeat => exact kept.trans told (kept.beforeBeside (kept.heatCurrent _ _) (State.settleTests_beside _))
  | g => exact told
  | iMot => exact told

theorem KeptByDrum.fastConversion (s : State) (bar motor : Code) : R s (s.fastConversion bar motor) := by
  unfold State.fastConversion
  dsimp only
  refine kept.trans (kept.beside ?_) (kept.samples _ _)
  exact State.besideDrum_of_hsc (by simp) (by simp) (by simp) (by simp) (by simp) (by simp)

theorem KeptByDrum.roundConversion (s : State) (code : Code) : R s (s.roundConversion code) := by
  unfold State.roundConversion
  split
  · exact kept.refl s
  · exact kept.convert s _ code

theorem KeptByDrum.startupConversion (s : State) (code : Code) : R s (s.startupConversion code) := by
  unfold State.startupConversion
  split
  · exact kept.afterBeside (State.besideDrum_of_hsc (t := { s with mfe := { s.mfe with
      startupDone := s.mfe.startupDone + 1 } }) rfl rfl rfl rfl rfl rfl) (kept.convert _ _ code)
  · exact kept.refl s

theorem KeptByDrum.slowConversion (s : State) (code : Code) : R s (s.slowConversion code) :=
  kept.afterBeside (State.besideDrum_of_hsc (t := { s with mfe := { s.mfe with
    rotation := s.mfe.rotation.nextSlow, slowDue := some (s.clock + 250) } }) rfl rfl rfl rfl rfl rfl) (kept.convert _ _ code)

theorem KeptByDrum.controlPeriod (s : State) : R s s.controlPeriod := by
  have period (v : State) : R v v.heatPeriod := by
    unfold State.heatPeriod
    dsimp only
    have computed : R v (v.computeDemand.updateInletCap.switchStages.offerRecord
        v.computeDemand.updateInletCap.switchStages.heatRecord) := by
      refine kept.beforeBeside ?_ (State.offerRecord_beside _ _)
      exact kept.beside (State.besideDrum_trans (State.besideDrum_trans v.computeDemand_beside (State.updateInletCap_beside _))
        (State.switchStages_beside _))
    split
    · exact computed
    · exact kept.trans computed (kept.offerValue _ _ _)
  unfold State.controlPeriod
  refine kept.afterBeside (State.besideDrum_of_frame (t := { s with hsc := { s.hsc with periodDue := some (s.clock + 2000) } })
    rfl rfl rfl) (kept.afterBeside (State.judgeTests_beside _) (kept.trans (kept.checkHeat _) (period _)))

/-! ### Airflow, pins and service (R96, R97, R114, R117, R124, R125) -/

theorem KeptByDrum.airflowChanges (s : State) (closed : Bool) : R s (s.airflowChanges closed) := by
  refine kept.beforeBeside ?_ (State.settleTests_beside _)
  refine kept.trans (kept.beside ?_) (kept.judgePrep _)
  exact State.besideDrum_trans (t := { s with pins := { s.pins with afsClosed := closed } })
    (State.besideDrum_of_hsc rfl rfl rfl rfl rfl rfl) (State.airflowSwitch_beside _ _)

theorem KeptByDrum.doorOpened (s : State) : R s s.doorOpened := by
  unfold State.doorOpened
  dsimp only
  generalize hv : State.enforce { s with pins := { s.pins with doorOpen := true } } = v
  have sheds : R s v := by
    rw [← hv]
    exact kept.afterBeside (State.besideDrum_of_hsc (t := { s with pins := { s.pins with doorOpen := true } })
      rfl rfl rfl rfl rfl rfl) (kept.beside (State.enforce_beside _))
  refine kept.trans sheds ?_
  split
  · exact kept.takeHoldCause _ _
  · exact kept.takeHoldCause _ _
  · exact kept.takeHoldCause _ _
  · exact kept.takeHoldCause _ _
  · exact kept.takeHoldCause _ _
  · next e => exact kept.changePhase _ _ _ (fun h => Csq.idle_consistent h (.inl e)) nofun
  · next e =>
    exact kept.idles v { v.csq with drumTimer := none } rfl
      (fun h => Csq.consistent_of_same h rfl rfl rfl rfl rfl rfl rfl rfl id rfl rfl nofun id) fun _ => by rw [e]; decide
  · exact kept.refl _
  · exact kept.refl _

theorem KeptByDrum.release (s : State) (c : Cause) (service : s.csq.consistent → s.csq.phase = .service) : R s (s.release c) := by
  have beside : s.besideDrum { s.endService with csq := s.csq } :=
    ⟨⟨by simp, by simp, by simp, rfl, by simp only [State.endService_hsc]; rfl, by simp only [State.endService_hsc]; rfl⟩, by simp⟩
  refine kept.afterBeside beside ?_
  have phase : s.endService.csq.phase = s.csq.phase := by rw [State.endService_csq]; rfl
  exact kept.enters { s.endService with csq := s.csq } s.endService.csq .idle c phase
    (fun h => by rw [State.endService_csq]; exact Csq.afterService_consistent h (service h)) nofun

theorem KeptByDrum.setTimer (s : State) (a : Actuator) (due : Option Nat) (service : due.isSome = true → s.csq.phase = .service) :
    R s { s with csq := s.csq.setTimer a due } :=
  kept.sequencer s _ (by cases a <;> rfl) fun h => Csq.setTimer_consistent h a due service

theorem KeptByDrum.drumTest (s : State) (act : State → State) (acts : R s (act s)) : R s (s.drumTest act) :=
  kept.trans acts (kept.faultIf _ _ _)

theorem KeptByDrum.testDemand (s : State) (a : Actuator) (demand speed : Nat) (t : State) (service : s.csq.phase = .service)
    (made : s.testDemand a demand speed = some t) : R s t := by
  have timer := kept.setTimer s a (some (s.clock + 120000)) fun _ => service
  have phase : ({ s with csq := s.csq.setTimer a (some (s.clock + 120000)) } : State).csq.phase = .service := by
    cases a <;> exact service
  generalize hv : ({ s with csq := s.csq.setTimer a (some (s.clock + 120000)) } : State) = v at timer phase
  unfold State.testDemand at made
  dsimp only at made
  rw [hv] at made
  refine kept.trans timer ?_
  cases a with
  | stage n =>
    dsimp only at made
    split at made
    · obtain rfl := Option.some.inj made
      exact kept.beside (State.besideDrum_trans (v.stageTestOff_beside n) (State.settleTests_beside _))
    · split at made
      · obtain rfl := Option.some.inj made
        exact kept.beside (State.besideDrum_trans (v.setStage_beside n _) (State.settleTests_beside _))
      · exact absurd made nofun
  | fan =>
    obtain rfl := Option.some.inj made
    split
    · exact kept.beside v.fanDemandEnds_beside
    · exact kept.beside v.fanOn_beside
  | drum =>
    dsimp only at made
    split at made
    · obtain rfl := Option.some.inj made
      exact kept.drumTest v _ (kept.testRest v phase)
    · split at made
      · exact absurd made nofun
      · obtain rfl := Option.some.inj made
        exact kept.drumTest v _ (kept.testRun v _ _ phase)

theorem KeptByDrum.testTimerEnds (s : State) (a : Actuator) (runs : (s.csq.timer a).isSome = true) : R s (s.testTimerEnds a) := by
  have timer := kept.setTimer s a none nofun
  unfold State.testTimerEnds
  dsimp only
  cases a with
  | stage n =>
    exact kept.trans timer (kept.beside (State.besideDrum_trans (State.stageTestOff_beside _ n) (State.settleTests_beside _)))
  | fan => exact kept.trans timer (kept.beside (State.fanDemandEnds_beside _))
  | drum =>
    refine kept.idles s _ rfl (fun h => Csq.setTimer_consistent h .drum none nofun) fun h => ?_
    obtain ⟨-, -, -, -, -, -, -, -, -, -, -, -, drum, -⟩ := h
    rw [drum runs]
    decide

/-! ### The drum's own events (R44, R47 to R54, R56 to R58, R68) -/

theorem KeptByDrum.becomeStill (s : State) :
    R { s with dmc := { s.dmc with still := true } } s.becomeStill := by
  have judged := kept.gate { s with dmc := { s.dmc with still := true } }
  cases waits : s.csq.pendingTake with
  | true =>
    rw [s.becomeStill_waiting waits]
    refine kept.trans judged (kept.beforeBeside (kept.sequencer s.stillJudged { s.csq with pendingTake := false } ?_ fun h => ?_)
      (State.answerStatus_beside _ _ _ _))
    · simp
    · rw [s.stillJudged_frame.1] at h
      exact Csq.consistent_of_same h rfl rfl rfl rfl rfl rfl rfl rfl nofun rfl rfl id id
  | false => rw [s.becomeStill_free waits]; exact judged

theorem KeptByDrum.restMinimumPasses (s : State) : R s s.restMinimumPasses := kept.trans (kept.restMinimum s) (kept.gate _)

theorem KeptByDrum.stallExpires (s : State) (runs : s.dmc.stallDue.isSome = true) : R s s.stallExpires :=
  kept.trans (kept.stalls s _ runs) (kept.takeFault _ _)

theorem KeptByDrum.restCheckExpires (s : State) (runs : s.dmc.restCheck ≠ .none) : R s s.restCheckExpires := by
  unfold State.restCheckExpires
  split
  · exact kept.checks s .awaitingPulse runs (by decide)
  · exact kept.trans (kept.checks s .reported runs (by decide)) (kept.takeFault _ _)

theorem KeptByDrum.recheckExpires (s : State) : R s s.recheckExpires :=
  kept.beforeBeside (kept.chainEnds s s.tgm.c 0) (State.settleTests_beside _)

theorem KeptByDrum.ivfChanges (s : State) (active : Bool) : R s (s.ivfChanges active) :=
  kept.trans (kept.beside (State.besideDrum_of_hsc (t := { s with pins := { s.pins with ivf := active } })
    rfl rfl rfl rfl rfl rfl)) (kept.faultIf _ _ _)

theorem KeptByDrum.burstAccepted {s t before : State} (chain : Nat) (drying : s.csq.phase = .drying)
    (taken : s.takeBurst = some t) : R s (t.burstAccepted before chain) := by
  refine kept.trans (kept.beforeBeside (kept.bursts chain drying taken)
    (State.offerRecord_beside _ (before.tangleRecord false chain))) ?_
  exact kept.sequencer _ _ rfl fun h => Csq.consistent_record h _ rfl id

theorem KeptByDrum.escalate (s : State) (chain : Nat) : R s (s.escalate chain) := by
  refine kept.trans (kept.chainEnds s 0 0) (kept.afterBeside (State.offerRecord_beside _ (s.tangleRecord true chain)) ?_)
  exact kept.afterBeside (State.notifyBoth_beside _ (.tangle chain)) (kept.takeHoldCause _ _)

theorem KeptByDrum.actOnTangle (s : State) (drying : s.csq.phase = .drying) : R s s.actOnTangle := by
  unfold State.actOnTangle
  dsimp only
  split
  · split
    · next t taken => exact kept.burstAccepted _ drying taken
    · exact kept.refl s
  · exact kept.escalate s _

theorem KeptByDrum.scoreRevolution (s : State) : R s s.scoreRevolution := by
  unfold State.scoreRevolution
  split
  · next scores =>
    have drying : s.csq.phase = .drying := by simp [State.scores] at scores; exact scores.1.1
    have counts := kept.counts s (nextCounter s.tgm.c (s.conditionA && s.conditionB))
    dsimp only
    split
    · exact kept.trans counts (kept.actOnTangle _ drying)
    · exact counts
  · exact kept.refl s

theorem KeptByDrum.pulseTurning (s : State) (d : Dir)
    (turns : s.dmc.motion = .run d ∨ s.dmc.motion = .runOpp d ∧ s.dmc.turning = true) : R s s.pulseTurning := by
  unfold State.pulseTurning
  split
  · next o _ =>
    refine kept.trans (kept.reopens s d (appendRevolution s.dmc.history (o.close s.clock)) turns) ?_
    refine kept.afterBeside (State.offerRecord_beside _ (o.close s.clock).record) ?_
    exact kept.trans (kept.offerValue _ .revTime _) (kept.trans (kept.offerValue _ .ripple _) (kept.scoreRevolution _))
  · exact kept.reopens s d s.dmc.history turns

theorem KeptByDrum.judgeRunning (s : State) : R s (State.judgePrep { s with csq := { s.csq with revSeen := true } }) :=
  kept.trans (kept.sequencer s { s.csq with revSeen := true } rfl fun h =>
    Csq.consistent_of_same h rfl rfl rfl rfl rfl rfl rfl rfl id rfl rfl id id) (kept.judgePrep _)

theorem KeptByDrum.pulseStarting (s : State) (d : Dir) (starts : s.dmc.motion = .starting d) : R s (s.pulseStarting d) := by
  unfold State.pulseStarting
  dsimp only
  refine kept.trans (kept.runs s d starts) ?_
  split
  · exact kept.judgeRunning _
  · exact kept.refl _

theorem KeptByDrum.pulseResting (s : State) : R s s.pulseResting := by
  unfold State.pulseResting
  split
  · next waits => exact kept.trans (kept.checks s .reported (by rw [waits]; decide) (by decide)) (kept.takeFault _ _)
  · exact kept.refl s

theorem KeptByDrum.pulse (s : State) : R s.pulsed s.pulse := by
  rw [s.pulse_eq]
  generalize s.pulsed = v
  cases motion : v.dmc.motion with
  | idle => rw [State.pulseActs_idle motion]; exact kept.refl v
  | starting d => rw [State.pulseActs_starting motion]; exact kept.pulseStarting v d motion
  | run d => rw [State.pulseActs_turning (.inl motion)]; exact kept.pulseTurning v d (.inl motion)
  | runOpp d =>
    cases turning : v.dmc.turning with
    | true =>
      rw [State.pulseActs_turning (.inr ⟨motion, turning⟩)]
      exact kept.pulseTurning v d (.inr ⟨motion, turning⟩)
    | false => rw [State.pulseActs_opposing motion turning]; exact kept.opposes v d motion
  | rest | restIn | restOut => rw [State.pulseActs_resting (by rw [motion]; rfl)]; exact kept.pulseResting v

end Kept

/-! ### From an event's beginning to its end -/

/-- The drum has gone from `s` as `R` says, and what followed, a settings word it may be, left it as it was. -/
def State.drumReaches (R : State → State → Prop) (s t : State) : Prop := ∃ v, R s v ∧ v.sameDrum t

/-- The state as a command begins: the clock at the command's moment, the pulse or the still flag noted. -/
inductive State.begins (s : State) : State → Prop
  | now : s.begins s
  | later (n : Nat) : s.begins (s.elapse n)
  | pulsed : s.begins s.pulsed
  | still (n : Nat) : s.begins { s.elapse n with dmc := { (s.elapse n).dmc with still := true } }

theorem Csq.reportFrame_consistent (s : State) (l : Link) (h : s.csq.consistent) : (s.reportFrame l).csq.consistent := by
  unfold State.reportFrame
  split
  · split
    · next supervised =>
      obtain ⟨-, -, -, -, -, -, supervision, -⟩ := id h
      exact Csq.consistent_of_same h rfl rfl rfl rfl rfl (by rw [supervision, supervised]; rfl) rfl rfl id rfl rfl id id
    · exact h
  · split
    · next service =>
      obtain ⟨-, -, -, -, -, -, -, -, silence, -⟩ := id h
      exact Csq.consistent_of_same h rfl rfl rfl rfl rfl rfl rfl (by rw [silence, service]; rfl) id rfl rfl id id
    · exact h

theorem State.reportFrame_phase (s : State) (l : Link) : (s.reportFrame l).csq.phase = s.csq.phase := by
  unfold State.reportFrame
  split <;> split <;> rfl

theorem State.isSome_of_left {s : State} {due : Option Nat} {n : Nat} (h : s.left due = some n) : due.isSome = true := by
  cases due with
  | none => exact absurd h nofun
  | some d => rfl

theorem State.phase_of_limitLeft {s : State} {p : Phase} {minutes elapsed n : Nat} (h : s.limitLeft p minutes elapsed = some n) :
    s.csq.phase = p := by
  unfold State.limitLeft at h
  split at h
  · assumption
  · exact absurd h nofun

theorem State.setAssembler_beside (s : State) (l : Link) (a : Assembler) : s.besideDrum (s.setAssembler l a) := by
  unfold State.setAssembler
  exact s.modLink_beside l _

theorem State.gapExpires_beside (s : State) (l : Link) : s.besideDrum (s.gapExpires l) := by
  unfold State.gapExpires State.countError
  exact State.besideDrum_trans (s.setAssembler_beside l .hunt) (State.modLink_beside _ _ _)

theorem State.drumReaches_of {R : State → State → Prop} {s t : State} (h : R s t) : s.drumReaches R t := ⟨t, h, t.sameDrum_refl⟩

section Kept

variable {R : State → State → Prop} (kept : KeptByDrum R)

include kept

theorem KeptByDrum.reachesAfter {s t u : State} (h : R s t) (h' : t.drumReaches R u) : s.drumReaches R u := by
  obtain ⟨v, first, same⟩ := h'
  exact ⟨v, kept.trans h first, same⟩

theorem KeptByDrum.reachesBeside {s t : State} (h : s.besideDrum t) : s.drumReaches R t := State.drumReaches_of (kept.beside h)

/-! ### Requests to the sequencer (R103, R111, R115, R120, R123 to R125) -/

theorem KeptByDrum.answered {s t : State} (h : R s t) (l : Link) (k : Byte) (st : Status) : R s (t.answerStatus l k st) :=
  kept.beforeBeside h (t.answerStatus_beside l k st)

theorem KeptByDrum.startRequest (s : State) (l : Link) (p : Byte) : R s (s.startRequest l p) := by
  unfold State.startRequest
  dsimp only
  split
  · exact kept.answered (kept.refl s) _ _ _
  · next accepted =>
    refine kept.answered (kept.beginCycle s _ ?_) _ _ _
    unfold State.startRefusal at accepted
    by_contra busy
    rw [not_or] at busy
    rw [if_pos busy] at accepted
    split at accepted
    · exact absurd accepted nofun
    · split at accepted <;> exact absurd accepted nofun

theorem KeptByDrum.pauseRequest (s : State) (l : Link) : R s (s.pauseRequest l) := by
  unfold State.pauseRequest
  cases s.csq.phase with
  | prep | drying | cooling | hold => exact kept.answered (kept.takeHoldCause s _) _ _ _
  | idle | guard | done | fault | service => exact kept.answered (kept.refl s) _ _ _

theorem KeptByDrum.resumeRequest (s : State) (l : Link) : R s (s.resumeRequest l) := by
  unfold State.resumeRequest
  dsimp only
  split
  · exact kept.answered (kept.refl s) _ _ _
  · next hold =>
    split
    · exact kept.answered (kept.refl s) _ _ _
    · refine kept.answered (kept.enterPrep s _ _ (fun h => ?_) (by rw [not_not.mp hold]; decide)) _ _ _
      obtain ⟨-, -, -, -, held, -⟩ := h
      cases e : s.csq.record.held with
      | none => exact .inl rfl
      | some p => exact held p e

theorem KeptByDrum.abortRequest (s : State) (l : Link) : R s (s.abortRequest l) := by
  unfold State.abortRequest
  cases s.csq.phase with
  | drying | prep | cooling | guard | hold => exact kept.answered (kept.abortCycle s _) _ _ _
  | idle | done | fault | service => exact kept.answered (kept.refl s) _ _ _

theorem KeptByDrum.advanceRequest (s : State) (l : Link) : R s (s.advanceRequest l) := by
  unfold State.advanceRequest
  dsimp only
  split
  · exact kept.answered (kept.refl s) _ _ _
  · split
    · exact kept.answered (kept.endDrying s _) _ _ _
    · exact kept.answered (kept.refl s) _ _ _

theorem KeptByDrum.clearRequest (s : State) (l : Link) : R s (s.clearRequest l) := by
  have clears (h : s.csq.phase = .done ∨ s.csq.phase = .fault) : R s (s.changePhase .idle .clear) :=
    kept.changePhase s _ _ (fun c => Csq.idle_consistent c h) nofun
  unfold State.clearRequest
  dsimp only
  split
  · next done => exact kept.answered (clears (.inl done)) _ _ _
  · next fault =>
    split
    · exact kept.answered (clears (.inr fault)) _ _ _
    · exact kept.answered (kept.refl s) _ _ _
  all_goals exact kept.answered (kept.refl s) _ _ _

theorem KeptByDrum.takeControlRequest (s : State) (l : Link) : R s (s.takeControlRequest l) := by
  unfold State.takeControlRequest
  dsimp only
  split
  · exact kept.answered (kept.refl s) _ _ _
  split
  · exact kept.answered (kept.refl s) _ _ _
  next idle =>
  have takes : R s (State.changePhase { s with csq := { s.csq with owner := some .s, silenceDue := some (s.clock + 30000) } }
      .service .takeControl) :=
    kept.enters s _ .service _ rfl (fun h => Csq.takeControl_consistent h (not_not.mp idle) _) nofun
  have service := State.changePhase_csq { s with csq := { s.csq with owner := some .s, silenceDue := some (s.clock + 30000) } }
    .service .takeControl
  generalize State.changePhase { s with csq := { s.csq with owner := some .s, silenceDue := some (s.clock + 30000) } }
    .service .takeControl = v at *
  split
  · exact kept.answered takes _ _ _
  · refine kept.trans takes (kept.beforeBeside (kept.sequencer v { v.csq with pendingTake := true } rfl fun h => ?_)
      (State.modLink_beside _ _ _))
    obtain ⟨r, o, t, isTarget, held, holds, sup, due, sil, -, rest⟩ := h
    exact ⟨r, o, t, isTarget, held, holds, sup, due, sil, fun _ => congrArg Csq.phase service, rest⟩

theorem KeptByDrum.releaseControlRequest (s : State) (l : Link) : R s (s.releaseControlRequest l) := by
  unfold State.releaseControlRequest
  dsimp only
  split
  · exact kept.answered (kept.refl s) _ _ _
  · split
    · exact kept.answered (kept.refl s) _ _ _
    · next service => exact kept.answered (kept.release s _ fun _ => not_not.mp service) _ _ _

theorem KeptByDrum.testRequest (s : State) (l : Link) (a d v : Byte) : R s (s.testRequest l a d v) := by
  unfold State.testRequest
  dsimp only
  split
  · exact kept.answered (kept.refl s) _ _ _
  split
  · exact kept.answered (kept.refl s) _ _ _
  next service =>
  split
  · exact kept.answered (kept.refl s) _ _ _
  split
  · split
    · exact kept.answered (kept.refl s) _ _ _
    · next made => exact kept.answered (kept.testDemand s _ _ _ _ (not_not.mp service) made) _ _ _
  · exact kept.answered (kept.refl s) _ _ _

/-! ### Requests, frames and link resets (R166 to R168) -/

theorem KeptByDrum.serve (s : State) (l : Link) (r : Request) : s.drumReaches R (s.serve l r) := by
  cases r with
  | pause => exact State.drumReaches_of (kept.pauseRequest s l)
  | resume => exact State.drumReaches_of (kept.resumeRequest s l)
  | abort => exact State.drumReaches_of (kept.abortRequest s l)
  | advance => exact State.drumReaches_of (kept.advanceRequest s l)
  | clear => exact State.drumReaches_of (kept.clearRequest s l)
  | start p => exact State.drumReaches_of (kept.startRequest s l p)
  | takeControl => exact State.drumReaches_of (kept.takeControlRequest s l)
  | test a d v => exact State.drumReaches_of (kept.testRequest s l a d v)
  | releaseControl => exact State.drumReaches_of (kept.releaseControlRequest s l)
  | set b f vs => exact ⟨s, kept.refl s, s.setRequest_same l b f vs⟩
  | store b => exact kept.reachesBeside (s.storeRequest_beside l b)
  | identify | status | read | measure | get | noticeCfg | ackNotice | claimCapture | configure | arm | stopCapture
  | releaseCapture | claimWatch | setWatch | releaseWatch | post | flush | cancel | linkStats =>
    exact kept.reachesBeside (State.besideDrum_of_hsc (by simp [State.serve]) (by simp [State.serve]) (by simp [State.serve])
      (by simp [State.serve]) (by simp [State.serve]) (by simp [State.serve]))

theorem KeptByDrum.reportFrame (s : State) (l : Link) : R s (s.reportFrame l) := by
  refine kept.trans (kept.sequencer s (s.reportFrame l).csq (s.reportFrame_phase l) fun h => Csq.reportFrame_consistent s l h)
    (kept.beside (State.besideDrum_of_hsc ?_ ?_ ?_ rfl ?_ ?_)) <;> simp

theorem KeptByDrum.arrive (s : State) (l : Link) (r : Request) : s.drumReaches R (s.arrive l r) := by
  unfold State.arrive
  dsimp only
  split
  · exact kept.reachesAfter (kept.reportFrame s l) (kept.serve _ l r)
  · exact State.drumReaches_of (kept.beforeBeside (kept.reportFrame s l) (State.modLink_beside _ _ _))

theorem KeptByDrum.takeFrame (s : State) (l : Link) (f : Frame) : s.drumReaches R (s.takeFrame l f) := by
  unfold State.takeFrame
  split
  · exact kept.reachesBeside (s.answerStatus_beside l _ _)
  · exact kept.reachesBeside (s.answerStatus_beside l _ _)
  · exact kept.serve s l _

theorem KeptByDrum.takeRequest (s : State) (l : Link) : s.drumReaches R (s.takeRequest l) := by
  unfold State.takeRequest
  split
  · exact State.drumReaches_of (kept.refl s)
  · next f rest _ =>
    split
    · exact kept.reachesAfter (kept.beside (s.modLink_beside l fun lk => { lk with queue := rest })) (kept.takeFrame _ l f)
    · exact State.drumReaches_of (kept.refl s)

theorem KeptByDrum.resetArrives (s : State) (l : Link) : R s (s.resetArrives l) := by
  unfold State.resetArrives
  dsimp only
  split <;> exact kept.beforeBeside (kept.reportFrame s l) (State.modLink_beside _ _ _)

theorem KeptByDrum.judgeFrame (s : State) (l : Link) (len : Nat) (bytes : List Byte) (error : Bool) (check : Byte) :
    R s (s.judgeFrame l len bytes error check) := by
  unfold State.judgeFrame
  split
  · exact kept.beside (s.modLink_beside l _)
  split
  · exact kept.beside (s.modLink_beside l _)
  split
  · exact kept.refl s
  unfold State.frameArrives
  split
  · exact kept.resetArrives s l
  · exact kept.beforeBeside (kept.reportFrame s l) (State.modLink_beside _ _ _)

theorem KeptByDrum.receive (s : State) (l : Link) (b : Byte) (error : Bool) : R s (s.receive l b error) := by
  have assembles (a : Assembler) : R s (s.setAssembler l a) := kept.beside (s.setAssembler_beside l a)
  unfold State.receive
  split
  · split
    · exact assembles _
    · exact kept.refl s
  · split
    · exact kept.beforeBeside (assembles _) (State.modLink_beside _ _ _)
    · exact assembles _
  · dsimp only
    split <;> exact assembles _
  · exact kept.trans (assembles _) (kept.judgeFrame _ _ _ _ _ _)

theorem KeptByDrum.resetEffects (s : State) (l : Link) : R s (s.resetEffects l) := by
  have sequencer (v : State) : R v (v.resetAtSequencer l) := by
    unfold State.resetAtSequencer
    split
    · exact kept.abortCycle v _
    · split
      · next service => exact kept.release v _ fun _ => service
      · exact kept.refl v
  unfold State.resetEffects
  dsimp only
  have links : s.besideDrum ((s.modLink l (·.clearForReset)).takeLinkDefaults l) :=
    State.besideDrum_of_hsc (by simp) (by simp) (by simp) (by simp) (by simp) (by simp)
  refine kept.afterBeside links ?_
  generalize (s.modLink l (·.clearForReset)).takeLinkDefaults l = v
  refine kept.trans (kept.sequencer v (v.csq.dropTake l) ?_ fun h => ?_) (kept.trans (kept.beside
    (State.besideDrum_of_hsc ?_ ?_ ?_ ?_ ?_ ?_)) (sequencer _))
  · unfold Csq.dropTake; split <;> rfl
  · unfold Csq.dropTake
    split
    · exact Csq.consistent_of_same h rfl rfl rfl rfl rfl rfl rfl rfl nofun rfl rfl id id
    · exact h
  all_goals simp [Sst.resetLink]

theorem KeptByDrum.endTransmission (s : State) (l : Link) : R s (s.endTransmission l) := by
  unfold State.endTransmission
  split
  · exact kept.refl s
  · dsimp only
    split
    · exact kept.afterBeside (s.modLink_beside l _) (kept.resetEffects _ l)
    · exact kept.beside (s.modLink_beside l _)

theorem KeptByDrum.becomeReady (s : State) : R s s.becomeReady := by
  rw [s.becomeReady_eq]
  exact kept.afterBeside (State.besideDrum_of_hsc (t := s.readied) rfl rfl rfl rfl rfl rfl) (kept.faultIf _ _ _)

/-! ### The commands -/

/-- What a command can do at the drum: it begins and goes on as `R` says, or the part takes its reset values. -/
def State.drumGoes (R : State → State → Prop) (s t : State) : Prop :=
  (∃ u, s.begins u ∧ u.drumReaches R t) ∨ ∃ pending boot clock pins stored, t = State.resetWith pending boot clock pins stored

theorem KeptByDrum.ofEvent {s t : State} {f : State → State} (h : s.event f = .next t) (each : s.drumReaches R (f s)) :
    s.drumGoes R t := by
  obtain rfl := Host.Outcome.next.inj h
  refine .inl ⟨s, .now, ?_⟩
  unfold State.powered
  split
  · exact State.drumReaches_of (kept.refl s)
  · exact each

theorem KeptByDrum.ofTimed {s t : State} {i : Instr} {f : State → State} (h : s.timed i f = .next t)
    (each : ∀ n, s.commandLeft i = some n → (s.elapse n).drumReaches R (f (s.elapse n))) : s.drumGoes R t := by
  obtain rfl := Host.Outcome.next.inj h
  unfold State.powered
  split
  · exact .inl ⟨s, .now, State.drumReaches_of (kept.refl s)⟩
  · dsimp only
    cases left : s.commandLeft i with
    | none => exact .inl ⟨s, .now, State.drumReaches_of (kept.refl s)⟩
    | some n => exact .inl ⟨s.elapse n, .later n, each n left⟩

theorem KeptByDrum.ofArrival {s t : State} {l : Link} {r : Request} (h : s.event (fun s => s.arrive l r) = .next t) :
    s.drumGoes R t := kept.ofEvent h (kept.arrive s l r)

/-- What a command does at the drum, when it neither notes a pulse nor sets the still flag. -/
theorem KeptByDrum.ofTimedBy {s t : State} {i : Instr} {f : State → State} (h : s.timed i f = .next t)
    (each : ∀ n, s.commandLeft i = some n → R (s.elapse n) (f (s.elapse n))) : s.drumGoes R t :=
  kept.ofTimed h fun n left => State.drumReaches_of (each n left)

theorem KeptByDrum.pulseGoes {s t : State} (h : exec .revolutionPulse s = .next t) : s.drumGoes R t := by
  obtain rfl := Host.Outcome.next.inj h
  unfold State.powered
  split
  · exact .inl ⟨s, .now, State.drumReaches_of (kept.refl s)⟩
  · exact .inl ⟨s.pulsed, .pulsed, State.drumReaches_of (kept.beforeBeside (kept.pulse s) (State.settleTests_beside _))⟩

theorem KeptByDrum.stillGoes {s t : State} (h : exec .stillTimeout s = .next t) : s.drumGoes R t := by
  obtain rfl := Host.Outcome.next.inj h
  unfold State.powered
  split
  · exact .inl ⟨s, .now, State.drumReaches_of (kept.refl s)⟩
  · dsimp only
    cases s.commandLeft .stillTimeout with
    | none => exact .inl ⟨s, .now, State.drumReaches_of (kept.refl s)⟩
    | some n => exact .inl ⟨_, .still n, State.drumReaches_of (kept.becomeStill (s.elapse n))⟩

/-- Each command at the drum. -/
theorem KeptByDrum.goes {s t : State} {i : Instr} (h : exec i s = .next t) : s.drumGoes R t := by
  have beside {f : State → State} (h : s.timed i f = .next t) (each : ∀ v : State, v.besideDrum (f v)) : s.drumGoes R t :=
    kept.ofTimedBy h fun n _ => kept.beside (each _)
  have phase (n : Nat) : (s.elapse n).csq.phase = s.csq.phase := by simp
  cases i with
  | onTimeSecond n => exact beside h fun v => v.countSecond_beside n
  | windowEnd => exact kept.ofTimedBy h fun n _ => kept.windowEnds _
  | stillTimeout => exact kept.stillGoes h
  | restMinimumExpiry => exact kept.ofTimedBy h fun n _ => kept.restMinimumPasses _
  | stepEnd =>
    refine kept.ofTimedBy h fun n (left : s.dmc.remaining = some n) => kept.steps _ ?_
    rw [State.elapse_dmc, Dmc.elapse, left]
    rfl
  | burstTimeExpiry => exact kept.ofTimedBy h fun n left => kept.burstTime _ (State.isSome_of_left left)
  | stallDeadlineExpiry => exact kept.ofTimedBy h fun n left => kept.stallExpires _ (State.isSome_of_left left)
  | restCheckExpiry =>
    refine kept.ofTimedBy h fun n left => kept.restCheckExpires _ fun none => ?_
    have due : s.dmc.restCheck.due.isSome = true := State.isSome_of_left left
    rw [show s.dmc.restCheck = .none from none] at due
    exact absurd due Bool.false_ne_true
  | recheckDeadlineExpiry => exact kept.ofTimedBy h fun n _ => kept.recheckExpires _
  | controlPeriod => exact kept.ofTimedBy h fun n _ => kept.controlPeriod _
  | pauseAllowanceExpiry =>
    exact beside h fun v => State.besideDrum_trans (t := { v with hsc := { v.hsc with pauseDue := none, spent := true } })
      (State.besideDrum_of_frame rfl rfl rfl) (State.enforce_beside _)
  | afterRunExpiry => exact beside h fun v => v.fanOff_beside
  | proofDeadlineExpiry =>
    exact kept.ofTimedBy h fun n _ => kept.afterBeside (State.besideDrum_of_frame
      (t := { s.elapse n with hsc := { (s.elapse n).hsc with proofDue := none } }) rfl rfl rfl) (kept.faultIf _ _ _)
  | graceDeadlineExpiry =>
    exact kept.ofTimedBy h fun n _ => kept.afterBeside (State.besideDrum_of_frame
      (t := { s.elapse n with hsc := { (s.elapse n).hsc with graceDue := none } }) rfl rfl rfl) (kept.faultIf _ _ _)
  | testStageMinOffExpiry n => exact beside h fun v => v.settleTests_beside
  | testStageMinOnExpiry n => exact beside h fun v => State.besideDrum_trans (v.stageOff_beside n) (State.settleTests_beside _)
  | dryingElapsedSecond => exact kept.ofTimedBy h fun n _ => kept.dryingSecond _
  | timeLimit => exact kept.ofTimedBy h fun n _ => kept.endDrying _ _
  | coolTime =>
    exact kept.ofTimedBy h fun n left => kept.endCooling _ _ fun _ => (phase n).trans (State.phase_of_limitLeft left)
  | guardTime =>
    refine kept.ofTimedBy h fun n left => kept.enterDone _ _ fun _ => ?_
    rw [phase, State.phase_of_limitLeft left]
    decide
  | holdLimitExpiry =>
    refine kept.ofTimedBy h fun n left => kept.endCycle _ _ fun consistent => ?_
    obtain ⟨-, -, -, -, -, -, -, due, -⟩ := consistent
    have isDue : (s.elapse n).csq.holdDue.isSome = true := by simpa using State.isSome_of_left left
    rw [beq_iff_eq.mp (due.symm.trans isDue)]
    decide
  | supervisionExpiry => exact kept.ofTimedBy h fun n _ => kept.takeHoldCause _ _
  | silenceExpiry =>
    refine kept.ofTimedBy h fun n left => kept.release _ _ fun consistent => ?_
    obtain ⟨-, -, -, -, -, -, -, -, silence, -⟩ := consistent
    have isDue : (s.elapse n).csq.silenceDue.isSome = true := by simpa using State.isSome_of_left left
    exact beq_iff_eq.mp (silence.symm.trans isDue)
  | testTimerExpiry a =>
    refine kept.ofTimedBy h fun n left => kept.testTimerEnds _ a ?_
    have runs : (s.csq.timer a).isSome = true := State.isSome_of_left left
    cases a <;> simpa [Csq.timer] using runs
  | gapExpiry l => exact beside h fun v => v.gapExpires_beside l
  | periodicPeriodExpiry l => exact beside h fun v => v.modLink_beside l _
  | requestTake l => exact kept.ofEvent h (kept.takeRequest s l)
  | transmitBegin l => exact kept.ofEvent h (kept.reachesBeside (s.beginTransmission_beside l))
  | transmitComplete l => exact kept.ofEvent h (State.drumReaches_of (kept.endTransmission s l))
  | characterReceived l data parity stop => exact kept.ofEvent h (State.drumReaches_of (kept.receive s l _ _))
  | resetLink l => exact kept.ofEvent h (State.drumReaches_of (kept.resetArrives s l))
  | revolutionPulse => exact kept.pulseGoes h
  | ivfChange active => exact kept.ofEvent h (State.drumReaches_of (kept.ivfChanges s active))
  | airflowSwitchChange closed => exact kept.ofEvent h (State.drumReaches_of (kept.airflowChanges s closed))
  | doorOpens => exact kept.ofEvent h (State.drumReaches_of (kept.doorOpened s))
  | doorCloses =>
    exact kept.ofEvent h (kept.reachesBeside (State.besideDrum_trans (State.besideDrum_of_hsc
      (t := { s with pins := { s.pins with doorOpen := false } }) rfl rfl rfl rfl rfl rfl) (State.settleTests_beside _)))
  | cutoffOpens =>
    exact kept.ofEvent h (State.drumReaches_of (kept.afterBeside (State.besideDrum_trans (State.besideDrum_of_hsc
      (t := { s with pins := { s.pins with cutOpen := true } }) rfl rfl rfl rfl rfl rfl) (State.enforce_beside _))
      (kept.takeFault _ _)))
  | cutoffCloses =>
    exact kept.ofEvent h (kept.reachesBeside (State.besideDrum_trans (State.besideDrum_of_hsc
      (t := { s with pins := { s.pins with cutOpen := false } }) rfl rfl rfl rfl rfl rfl) (State.settleTests_beside _)))
  | fastConversion bar motor => exact kept.ofTimedBy h fun n _ => kept.fastConversion _ bar motor
  | slowConversion code => exact kept.ofTimedBy h fun n _ => kept.slowConversion _ code
  | roundConversion code => exact kept.ofEvent h (State.drumReaches_of (kept.roundConversion s code))
  | startupRoundConversion code => exact kept.ofEvent h (State.drumReaches_of (kept.startupConversion s code))
  | startupRoundComplete =>
    refine kept.ofEvent h ?_
    split
    · exact State.drumReaches_of (kept.becomeReady s)
    · exact State.drumReaches_of (kept.refl s)
  | settingsLoadComplete =>
    refine kept.ofEvent h ?_
    split
    · exact ⟨s, kept.refl s, s.loadComplete_same⟩
    · exact State.drumReaches_of (kept.refl s)
  | storeComplete => exact kept.ofEvent h (kept.reachesBeside s.completeStore_beside)
  | powerOn stop => exact .inr ⟨_, _, _, _, _, (Host.Outcome.next.inj h).symm⟩
  | rst stop | lossOfSupply stop =>
    obtain rfl := Host.Outcome.next.inj h
    unfold State.powered
    split
    · exact .inl ⟨s, .now, State.drumReaches_of (kept.refl s)⟩
    · exact .inr ⟨_, _, _, _, _, rfl⟩
  | measure | read | start | pause | resume | abort | advance | clear | takeControl | test | releaseControl | claimCapture
  | configure | arm | stopCapture | releaseCapture | claimWatch | setWatch | releaseWatch | post | flush | cancel | set | get
  | store | noticeCfg | ackNotice | linkStats | identify | status => exact kept.ofArrival h

end Kept

/-! ### The steps of the machine at the drum -/

/-- What a step of the machine does at the drum: the queue aside, what a command or a millisecond does. -/
theorem KeptByDrum.stepGoes {R : State → State → Prop} (kept : KeptByDrum R) {s t : State} (h : step s = .next t) :
    ∃ queue, ({ s with pending := queue } : State).drumGoes R t := by
  unfold step at h
  cases pending : s.pending with
  | cons c rest => rw [pending] at h; exact ⟨rest, kept.goes h⟩
  | nil =>
    rw [pending] at h
    obtain rfl := Host.Outcome.next.inj h
    refine ⟨s.pending, .inl ?_⟩
    unfold State.tick State.powered
    split
    · exact ⟨s, .now, State.drumReaches_of (kept.refl s)⟩
    · dsimp only
      split
      · exact ⟨s, .now, kept.reachesBeside (State.besideDrum_of_hsc rfl rfl rfl rfl rfl rfl)⟩
      · exact ⟨s.elapse 1, .later 1, State.drumReaches_of (kept.refl _)⟩

/-! ### The drum and its settings after a change of phase -/

theorem State.minRest_congr {s t : State} (blocks : t.sst.blocks = s.sst.blocks) : t.minRest = s.minRest := by
  rw [State.minRest, State.minRest, State.setting, State.setting, State.word, State.word, blocks]

theorem State.changePhase_blocks (s : State) (p : Phase) (c : Cause) : (s.changePhase p c).sst.blocks = s.sst.blocks := by
  by_cases done : p = .done
  · have sst : (s.changePhase p c).sst = ((s.afterDrum p).followHeat s.csq.phase p).wearSave.sst := by
      rw [s.changePhase_eq, if_pos done]; simp
    rw [sst, State.wearSave_sst]
    simp
  · rw [s.changePhase_sst p c done]

/-! ### Reversal (R48) -/

/-- The direction line that is on is the last one's. -/
def State.lined (s : State) : Prop := ∀ e ∈ s.dmc.motion.driven, s.dmc.lastDir = some e

/-- The outputs are off, the rest minimum has passed and the drum is still. -/
def State.stood (s : State) : Prop :=
  s.dmc.motion.driven = none ∧ s.dmc.offTime + 1000 * s.dmc.restMin ≤ s.clock ∧ s.dmc.still = true

/-- From `s` to `t` no reversal without a standstill in `s`: the direction of the drum has stood, or the drum stood past the
rest minimum, of 1 s at least. A standstill does not come about within. -/
structure State.reversesSafely (s t : State) : Prop where
  clock : t.clock = s.clock
  minRest : t.minRest = s.minRest
  still : t.dmc.still = s.dmc.still
  lastPulse : t.dmc.lastPulse = s.dmc.lastPulse
  lined : s.lined → t.lined
  stood : 0 < s.minRest → t.stood → s.stood
  turns : 0 < s.minRest → t.dmc.lastDir = s.dmc.lastDir ∨ s.stood

theorem State.reversesSafely_refl (s : State) : s.reversesSafely s := ⟨rfl, rfl, rfl, rfl, id, fun _ => id, fun _ => .inl rfl⟩

theorem State.reversesSafely_trans {s t u : State} (h : s.reversesSafely t) (h' : t.reversesSafely u) : s.reversesSafely u where
  clock := h'.clock.trans h.clock
  minRest := h'.minRest.trans h.minRest
  still := h'.still.trans h.still
  lastPulse := h'.lastPulse.trans h.lastPulse
  lined := h'.lined ∘ h.lined
  stood rests := h.stood rests ∘ h'.stood (h.minRest ▸ rests)
  turns rests := by
    rcases h'.turns (h.minRest ▸ rests) with same | stood
    · exact (h.turns rests).imp same.trans id
    · exact .inr (h.stood rests stood)

/-- What the outputs' history says stands. -/
structure Dmc.sameDrive (d e : Dmc) : Prop where
  driven : e.motion.driven = d.motion.driven
  lastDir : e.lastDir = d.lastDir
  offTime : e.offTime = d.offTime
  restMin : e.restMin = d.restMin
  still : e.still = d.still
  lastPulse : e.lastPulse = d.lastPulse

theorem Dmc.sameDrive_of_eq {d e : Dmc} (h : e = d) : d.sameDrive e := by subst h; exact ⟨rfl, rfl, rfl, rfl, rfl, rfl⟩

section Drive

variable {s t : State} (clock : t.clock = s.clock) (blocks : t.sst.blocks = s.sst.blocks)

include clock blocks

theorem State.reversesSafely_of_drive (same : s.dmc.sameDrive t.dmc) : s.reversesSafely t where
  clock := clock
  minRest := State.minRest_congr blocks
  still := same.still
  lastPulse := same.lastPulse
  lined h e driven := by rw [same.lastDir]; exact h e (same.driven ▸ driven)
  stood _ h := by
    obtain ⟨off, past, still⟩ := h
    rw [same.driven] at off
    rw [same.offTime, same.restMin, clock] at past
    rw [same.still] at still
    exact ⟨off, past, still⟩
  turns _ := .inl same.lastDir

theorem State.reversesSafely_of_dmc (dmc : t.dmc = s.dmc) : s.reversesSafely t :=
  State.reversesSafely_of_drive clock blocks (Dmc.sameDrive_of_eq dmc)

/-- The outputs go off, or are off. -/
theorem State.reversesSafely_of_off (off : t.dmc.motion.driven = none) (offTime : t.dmc.offTime = s.drumOff.dmc.offTime)
    (restMin : t.dmc.restMin = s.drumOff.dmc.restMin) (lastDir : t.dmc.lastDir = s.dmc.lastDir)
    (still : t.dmc.still = s.dmc.still) (lastPulse : t.dmc.lastPulse = s.dmc.lastPulse) : s.reversesSafely t where
  clock := clock
  minRest := State.minRest_congr blocks
  still := still
  lastPulse := lastPulse
  lined _ e driven := by rw [off] at driven; exact absurd driven nofun
  stood rests h := by
    obtain ⟨-, past, isStill⟩ := h
    rw [offTime, restMin, clock, s.drumOff_dmc] at past
    rw [still] at isStill
    split at past
    · dsimp only at past; omega
    · next driven => exact ⟨by simpa using driven, past, isStill⟩
  turns _ := .inl lastDir

/-- The drum starts through an open gate. -/
theorem State.reversesSafely_of_start (d : Dir) (opens : s.gateIsOpen d) (driven : t.dmc.motion.driven = some d)
    (lastDir : t.dmc.lastDir = some d) (still : t.dmc.still = s.dmc.still) (lastPulse : t.dmc.lastPulse = s.dmc.lastPulse) :
    s.reversesSafely t where
  clock := clock
  minRest := State.minRest_congr blocks
  still := still
  lastPulse := lastPulse
  lined _ e h := by rw [lastDir]; exact driven.symm.trans h
  stood _ h := by obtain ⟨off, -⟩ := h; exact absurd (driven.symm.trans off) nofun
  turns _ := opens.imp (fun same => lastDir.trans same.symm) id

end Drive

/-! ### Reversal at each operation of the drum -/

theorem State.enterRest_reverses (s : State) (target : Motion) (empty : Bool) (off : target.driven = none) :
    s.reversesSafely (s.enterRest target empty) := by
  have lastDir : s.drumOff.dmc.lastDir = s.dmc.lastDir ∧ s.drumOff.dmc.still = s.dmc.still
      ∧ s.drumOff.dmc.lastPulse = s.dmc.lastPulse := by rw [s.drumOff_dmc]; split <;> exact ⟨rfl, rfl, rfl⟩
  obtain ⟨lastDir, still, lastPulse⟩ := lastDir
  refine State.reversesSafely_of_off (by simp) (by simp) ?_ ?_ ?_ ?_ ?_ ?_ <;> rw [s.enterRest_dmc]
  exacts [off, lastDir, still, lastPulse]

theorem State.idleDrum_reverses (s : State) : s.reversesSafely s.idleDrum := by
  have lastDir : s.drumOff.dmc.lastDir = s.dmc.lastDir ∧ s.drumOff.dmc.still = s.dmc.still
      ∧ s.drumOff.dmc.lastPulse = s.dmc.lastPulse := by rw [s.drumOff_dmc]; split <;> exact ⟨rfl, rfl, rfl⟩
  obtain ⟨lastDir, still, lastPulse⟩ := lastDir
  refine State.reversesSafely_of_off (by simp) (by simp) ?_ ?_ ?_ ?_ ?_ ?_ <;> rw [s.idleDrum_dmc]
  exacts [rfl, lastDir, still, lastPulse]

theorem State.restDrum_reverses (s : State) : s.reversesSafely s.restDrum := by
  unfold State.restDrum
  split
  · next rest =>
    exact State.reversesSafely_of_drive rfl rfl ⟨(Motion.driven_of_isRest rest).symm, rfl, rfl, rfl, rfl, rfl⟩
  · exact s.enterRest_reverses .rest true rfl

/-- The drum's figures are set before the drum rests. -/
theorem State.setStep_restDrum_reverses (s : State) (c : CurrentStep) (r : Option Nat) :
    s.reversesSafely (s.setStep c r).restDrum :=
  State.reversesSafely_trans (t := s.setStep c r) (State.reversesSafely_of_drive rfl rfl ⟨rfl, rfl, rfl, rfl, rfl, rfl⟩)
    (State.restDrum_reverses _)

theorem State.actStep_reverses (s : State) (c : CurrentStep) : s.reversesSafely (s.actStep c) := by
  rcases s.actStep_cases c with ⟨-, made⟩ | ⟨d, -, ⟨-, made⟩ | ⟨opens, ⟨-, made⟩ | ⟨-, made⟩⟩⟩
  · rw [made]; exact s.setStep_restDrum_reverses _ _
  · rw [made]; exact s.setStep_restDrum_reverses _ _
  · rw [made]; exact State.reversesSafely_of_drive rfl rfl ⟨rfl, rfl, rfl, rfl, rfl, rfl⟩
  · rw [made]
    refine State.reversesSafely_of_start (by simp) (by simp) d opens ?_ ?_ ?_ ?_ <;> simp only [State.enterStarting_dmc, Motion.driven, State.setStep]

theorem State.beginStep_reverses (s : State) (k : Nat) : s.reversesSafely (s.beginStep k) := by
  unfold State.beginStep
  split
  · exact s.reversesSafely_refl
  · next steps _ =>
    split
    · exact s.reversesSafely_refl
    · exact State.reversesSafely_trans (t := { s with dmc := { s.dmc with
        staged := some (if k + 1 < steps.length then k + 1 else 0) } })
        (State.reversesSafely_of_drive rfl rfl ⟨rfl, rfl, rfl, rfl, rfl, rfl⟩) (State.actStep_reverses _ _)

theorem State.startPattern_reverses (s : State) (q : Nat) : s.reversesSafely (s.startPattern q) := by
  unfold State.startPattern
  dsimp only
  refine State.reversesSafely_trans (t := { s with dmc := { s.dmc with
    pattern := some (s.patternSteps q), current := none, remaining := none, staged := none } })
    (State.reversesSafely_of_drive rfl rfl ⟨rfl, rfl, rfl, rfl, rfl, rfl⟩) ?_
  split
  · exact State.restDrum_reverses _
  · exact State.beginStep_reverses _ _

theorem State.motionDemand_reverses (s : State) (left p : Phase) : s.reversesSafely (s.motionDemand left p) := by
  unfold State.motionDemand
  split
  · exact s.startPattern_reverses _
  · exact s.reversesSafely_refl
  · split
    · exact s.startPattern_reverses _
    · exact s.reversesSafely_refl
  · exact s.startPattern_reverses _
  · exact State.reversesSafely_trans (t := { s with dmc := { s.dmc with
      pattern := none, current := none, remaining := none, staged := none } })
      (State.reversesSafely_of_drive rfl rfl ⟨rfl, rfl, rfl, rfl, rfl, rfl⟩) (State.restDrum_reverses _)
  · exact s.idleDrum_reverses
  · exact s.idleDrum_reverses
  · exact s.idleDrum_reverses
  · split
    · split
      · exact s.startPattern_reverses _
      · exact s.idleDrum_reverses
    · exact s.idleDrum_reverses

theorem State.abandonBurst_reverses (s : State) : s.reversesSafely s.abandonBurst := by
  unfold State.abandonBurst
  split
  · dsimp only
    refine State.reversesSafely_of_drive (by simp) (by simp) ?_
    simp only [(State.burstEnded_frame _).2.2.2.2.2.2.2.1]
    refine ⟨?_, rfl, rfl, rfl, rfl, rfl⟩
    cases s.dmc.motion <;> rfl
  · exact s.reversesSafely_refl

theorem State.followDrum_reverses (s : State) (left p : Phase) : s.reversesSafely (s.followDrum left p) :=
  State.reversesSafely_trans s.abandonBurst_reverses (State.motionDemand_reverses _ _ _)

theorem State.changePhase_reverses (s : State) (p : Phase) (c : Cause) : s.reversesSafely (s.changePhase p c) := by
  refine State.reversesSafely_trans (State.reversesSafely_of_dmc (t := s.afterFront p) ?_ ?_ ?_)
    (State.reversesSafely_trans (State.followDrum_reverses _ s.csq.phase p) (State.reversesSafely_of_dmc ?_ ?_ (s.changePhase_dmc p c)))
  · simp
  · simp
  · simp
  · simp
  · rw [s.changePhase_blocks]; simp

theorem State.judgeGate_reverses (s : State) : s.reversesSafely s.judgeGate := by
  rcases s.judgeGate_cases with ⟨c, d, _, _, _, _, opens, made⟩ | ⟨i, _, _, opens, made⟩ | ⟨i, _, _, opens, made⟩ | ⟨made, _⟩
  · rw [made]
    refine State.reversesSafely_of_start (by simp) (by simp) d opens ?_ ?_ ?_ ?_ <;> simp only [State.startWaiting_dmc, Motion.driven]
  · rw [made]; exact State.reversesSafely_of_start rfl rfl _ opens rfl rfl rfl rfl
  · rw [made]
    refine State.reversesSafely_of_start (by simp) (by simp) _ opens ?_ ?_ ?_ ?_ <;> simp only [State.resumeStep_dmc, Motion.driven]
  · rw [made]; exact s.reversesSafely_refl

/-- A burst sets the step of RUN aside, to resume it at its end. -/
def State.interruptedBy (s : State) (d : Dir) (c : CurrentStep) (r k : Nat) : State :=
  { s with dmc := { s.dmc with
      interrupted := some { index := k, step := c.step, dir := d, speed := s.dmc.speed, remaining := r }
      current := none, remaining := none } }

/-- What an accepted burst request makes of the drum: the step of RUN is interrupted, and REST_IN entered (R53). -/
theorem State.takeBurst_cases {s t : State} (taken : s.takeBurst = some t) : ∃ d c r k,
    s.dmc.motion = .run d ∧ s.dmc.current = some c ∧ s.dmc.remaining = some r ∧ c.index = some k
      ∧ t = ((s.interruptedBy d c r k).enterRest .restIn true).markBurst := by
  unfold State.takeBurst at taken
  split at taken
  · next d c r motion current remaining =>
    split at taken
    · next k index => exact ⟨d, c, r, k, motion, current, remaining, index, (Option.some.inj taken).symm⟩
    · exact absurd taken nofun
  · exact absurd taken nofun

theorem State.takeBurst_reverses {s t : State} (taken : s.takeBurst = some t) : s.reversesSafely t := by
  obtain ⟨d, c, r, k, -, -, -, -, rfl⟩ := State.takeBurst_cases taken
  exact State.reversesSafely_trans (t := s.interruptedBy d c r k) (State.reversesSafely_of_drive rfl rfl ⟨rfl, rfl, rfl, rfl, rfl, rfl⟩)
    (State.reversesSafely_trans (State.enterRest_reverses _ .restIn true rfl)
      (State.reversesSafely_of_dmc (by simp) (by simp) (by simp)))

theorem State.reversesSafely_kept : KeptByDrum State.reversesSafely where
  refl := State.reversesSafely_refl
  trans := State.reversesSafely_trans
  beside h := State.reversesSafely_of_dmc h.clock h.blocks h.dmc
  sequencer _ _ _ _ := State.reversesSafely_of_dmc rfl rfl rfl
  enters s c p cause _ _ _ := State.reversesSafely_trans (t := { s with csq := c }) (State.reversesSafely_of_dmc rfl rfl rfl)
    (State.changePhase_reverses _ p cause)
  demands s _ := s.motionDemand_reverses .fault .fault
  idles s c _ _ _ := State.reversesSafely_trans (t := { s with csq := c }) (State.reversesSafely_of_dmc rfl rfl rfl)
    (State.idleDrum_reverses _)
  testRest s _ := State.reversesSafely_trans (t := { s with dmc := { s.dmc with
      pattern := none, staged := none, current := none, remaining := none } })
    (State.reversesSafely_of_drive rfl rfl ⟨rfl, rfl, rfl, rfl, rfl, rfl⟩) (State.restDrum_reverses _)
  testRun s a v _ := State.reversesSafely_trans (t := { s with dmc := { s.dmc with pattern := none, staged := none } })
    (State.reversesSafely_of_drive rfl rfl ⟨rfl, rfl, rfl, rfl, rfl, rfl⟩) (State.actStep_reverses _ _)
  starts s _ := State.reversesSafely_of_dmc (by simp) (by simp) (by simp)
  gate := State.judgeGate_reverses
  steps s _ := by
    unfold State.stepEnds
    split
    · exact s.beginStep_reverses _
    · exact State.reversesSafely_of_drive rfl rfl ⟨rfl, rfl, rfl, rfl, rfl, rfl⟩
  burstTime s _ := s.enterRest_reverses .restOut false rfl
  runs s d motion := State.reversesSafely_of_drive (by simp) (by simp) ⟨by rw [motion]; rfl, rfl, rfl, rfl, rfl, rfl⟩
  opposes s d _ := State.reversesSafely_of_drive (by simp) (by simp) ⟨rfl, rfl, rfl, rfl, rfl, rfl⟩
  reopens s d h _ := State.reversesSafely_of_drive rfl rfl ⟨rfl, rfl, rfl, rfl, rfl, rfl⟩
  bursts chain _ taken := State.reversesSafely_trans (State.takeBurst_reverses taken)
    (State.reversesSafely_of_dmc (by simp) (by simp) (by simp))
  counts _ _ := State.reversesSafely_of_dmc rfl rfl rfl
  chainEnds s c b := State.reversesSafely_of_dmc (by simp) (by simp) (by simp)
  samples _ _ := State.reversesSafely_of_drive rfl rfl ⟨rfl, rfl, rfl, rfl, rfl, rfl⟩
  checks _ _ _ _ := State.reversesSafely_of_drive rfl rfl ⟨rfl, rfl, rfl, rfl, rfl, rfl⟩
  stalls _ _ _ := State.reversesSafely_of_drive rfl rfl ⟨rfl, rfl, rfl, rfl, rfl, rfl⟩
  restMinimum _ := State.reversesSafely_of_drive rfl rfl ⟨rfl, rfl, rfl, rfl, rfl, rfl⟩

/-- A command begins with the drum's history as it was. -/
theorem State.begins_drive {s u : State} (h : s.begins u) : u.dmc.motion = s.dmc.motion ∧ u.dmc.lastDir = s.dmc.lastDir
    ∧ u.dmc.offTime = s.dmc.offTime ∧ u.dmc.restMin = s.dmc.restMin ∧ u.sst = s.sst := by
  cases h <;> exact ⟨rfl, rfl, rfl, rfl, rfl⟩

theorem State.drumReaches_reversal {s t : State} (h : s.drumReaches State.reversesSafely t) (lined : s.lined)
    (rests : 0 < s.minRest) (d : Dir) (driven : t.dmc.motion.driven = some d) (other : s.dmc.lastDir ≠ some d) :
    s.stood ∧ t.clock = s.clock ∧ t.dmc.still = s.dmc.still := by
  obtain ⟨v, reverses, same⟩ := h
  rw [same.dmc] at driven
  have lastDir := reverses.lined lined d driven
  refine ⟨(reverses.turns rests).resolve_left fun stands => other (stands ▸ lastDir), ?_, ?_⟩
  · rw [same.clock, reverses.clock]
  · rw [same.dmc, reverses.still]

/-- Settles O18, by a relation that every step at the drum keeps: no reversal without a standstill. -/
theorem reversalNeedsStandstill : Obligations.ReversalNeedsStandstill := by
  unfold Obligations.ReversalNeedsStandstill
  intro s t d lined rests stepped driven other
  obtain ⟨queue, goes⟩ := State.reversesSafely_kept.stepGoes stepped
  rcases goes with ⟨u, begins, reaches⟩ | ⟨pending, boot, clock, pins, stored, rfl⟩
  · obtain ⟨motion, lastDir, offTime, restMin, sst⟩ := State.begins_drive begins
    have minRest : u.minRest = s.minRest := State.minRest_congr (by rw [sst])
    obtain ⟨⟨off, past, still⟩, clock, stays⟩ := State.drumReaches_reversal reaches
      (fun e h => lastDir.trans (lined e (by rw [← show u.dmc.motion = s.dmc.motion from motion]; exact h)))
      (minRest ▸ rests) d driven (by rw [lastDir]; exact other)
    rw [motion] at off
    rw [offTime, restMin, ← clock] at past
    exact ⟨off, past, stays.trans still⟩
  · exact absurd driven nofun

/-! ### The drum's marks, with and without a burst (R43, R49, R50, R56, R57, R67) -/

/-- The marks of the motion state hold, but for those of a burst. -/
structure State.marksRight (s : State) : Prop where
  lined : ∀ e ∈ s.dmc.motion.driven, s.dmc.lastDir = some e
  revolution : s.dmc.turning = s.dmc.revolution.isSome
  runs : s.dmc.motion.isRun = true → s.dmc.turning = true
  turns : s.dmc.turning = true → s.dmc.motion.isRun = true ∨ s.dmc.motion = .runOpp .fwd ∨ s.dmc.motion = .runOpp .rev
  report : s.hsc.turning = s.dmc.turning
  stall : s.dmc.stallDue.isSome = s.dmc.motion.driven.isSome
  check : s.dmc.restCheck ≠ .none ↔ s.dmc.motion.isRest = true

/-- A burst's marks hold, wherever it is in progress. -/
structure State.burstRight (s : State) : Prop where
  resumes : ∀ i ∈ s.dmc.interrupted, i.speed = i.step.speed ∧ i.step.action.dir = some i.dir
  burst : s.tgm.burst = s.dmc.motion.inBurst
  interrupted : s.dmc.interrupted.isSome = s.dmc.motion.inBurst
  burstDue : s.dmc.burstDue.isSome = true → s.dmc.motion = .runOpp .fwd ∨ s.dmc.motion = .runOpp .rev

/-- Nothing of a burst is held, whatever the motion state. -/
structure State.burstless (s : State) : Prop where
  burst : s.tgm.burst = false
  interrupted : s.dmc.interrupted = none
  burstDue : s.dmc.burstDue = none

/-- The drum's outputs and marks stand with a motion state that is not a burst's. -/
structure State.settled (s : State) : Prop where
  outputs : s.dmc.outputsRight
  marks : s.marksRight
  burstless : s.burstless
  motion : s.dmc.motion.inBurst = false

/-- What every step of the drum keeps. -/
structure State.drumKept (s : State) : Prop where
  consistent : s.csq.consistent
  outputs : s.dmc.outputsRight
  marks : s.marksRight
  burst : s.burstRight
  within : s.dmc.motion.inBurst = true → s.csq.phase = .drying ∧ s.dmc.remaining = none
  flag : s.capFlagRight

theorem State.drumKept_iff (s : State) : s.drumKept ↔ s.csq.consistent ∧ s.drumRight ∧ s.capFlagRight := by
  constructor
  · intro ⟨consistent, outputs, ⟨lined, revolution, runs, turns, report, stall, check⟩, ⟨resumes, burst, interrupted, due⟩,
      within, flag⟩
    exact ⟨consistent, ⟨outputs, resumes, lined, revolution, runs, turns, report, stall, check, burst, interrupted, due,
      within⟩, flag⟩
  · intro ⟨consistent, ⟨outputs, resumes, lined, revolution, runs, turns, report, stall, check, burst, interrupted, due,
      within⟩, flag⟩
    exact ⟨consistent, outputs, ⟨lined, revolution, runs, turns, report, stall, check⟩, ⟨resumes, burst, interrupted, due⟩,
      within, flag⟩

theorem State.burstless_of_motion {s : State} (h : s.burstRight) (motion : s.dmc.motion.inBurst = false) : s.burstless where
  burst := h.burst.trans motion
  interrupted := Option.not_isSome_iff_eq_none.mp (by rw [h.interrupted, motion]; exact Bool.false_ne_true)
  burstDue := Option.not_isSome_iff_eq_none.mp fun due => by
    rcases h.burstDue due with e | e <;> rw [e] at motion <;> exact absurd motion (by decide)

theorem State.burstRight_of_less {s : State} (h : s.burstless) (motion : s.dmc.motion.inBurst = false) : s.burstRight where
  resumes i e := by rw [h.interrupted] at e; exact absurd e nofun
  burst := h.burst.trans motion.symm
  interrupted := by rw [h.interrupted, motion]; rfl
  burstDue due := absurd_of_none h.burstDue due

theorem State.settled_of_kept {s : State} (h : s.drumKept) (motion : s.dmc.motion.inBurst = false) : s.settled :=
  ⟨h.outputs, h.marks, State.burstless_of_motion h.burst motion, motion⟩

theorem State.kept_of_settled {s : State} (h : s.settled) (consistent : s.csq.consistent) (flag : s.capFlagRight) : s.drumKept :=
  ⟨consistent, h.outputs, h.marks, State.burstRight_of_less h.burstless h.motion,
    fun burst => absurd (h.motion.symm.trans burst) Bool.false_ne_true, flag⟩

theorem State.not_inBurst_of_phase {s : State} (h : s.drumKept) (phase : s.csq.phase ≠ .drying) :
    s.dmc.motion.inBurst = false :=
  Bool.eq_false_of_not_eq_true fun burst => phase (h.within burst).1

theorem State.marksRight_congr {s t : State} (h : s.marksRight) (dmc : t.dmc = s.dmc) (turning : t.hsc.turning = s.hsc.turning) :
    t.marksRight := by
  obtain ⟨lined, revolution, runs, turns, report, stall, check⟩ := h
  rw [← dmc] at revolution runs turns report stall check
  exact ⟨by rw [dmc]; exact lined, revolution, runs, turns, turning.trans report, stall, check⟩

theorem State.settled_congr {s t : State} (h : s.settled) (dmc : t.dmc = s.dmc) (turning : t.hsc.turning = s.hsc.turning)
    (burst : t.tgm.burst = s.tgm.burst ∨ t.tgm.burst = false) : t.settled := by
  obtain ⟨outputs, marks, ⟨unburst, interrupted, due⟩, motion⟩ := h
  rw [← dmc] at outputs interrupted due motion
  exact ⟨outputs, State.marksRight_congr marks dmc turning, ⟨burst.elim (·.trans unburst) id, interrupted, due⟩, motion⟩

theorem State.drumKept_of_same {s t : State} (h : s.sameDrum t) (kept : s.drumKept) : t.drumKept := by
  obtain ⟨consistent, outputs, marks, ⟨resumes, burst, interrupted, due⟩, within, flag⟩ := kept
  obtain ⟨-, dmc, tgm, csq, turning, tangleCap⟩ := h
  have marks' := State.marksRight_congr marks dmc turning
  rw [← dmc] at outputs resumes interrupted due within
  rw [← tgm, ← dmc] at burst
  rw [← csq] at consistent within
  rw [State.capFlagRight, ← tgm, ← tangleCap] at flag
  exact ⟨consistent, outputs, marks', ⟨resumes, burst, interrupted, due⟩, within, flag⟩

theorem State.marksRight_rests {s : State} (h : s.marksRight) (rest : s.dmc.motion.isRest = true) : s.dmc.turning = false := by
  refine Bool.eq_false_of_not_eq_true fun turns => ?_
  rcases h.turns turns with e | e | e
  · cases motion : s.dmc.motion <;> simp_all [Motion.isRest, Motion.isRun]
  · rw [e] at rest; exact absurd rest (by decide)
  · rw [e] at rest; exact absurd rest (by decide)

/-! ### The drum settled again -/

/-- The operation gives the drum a motion state outside a burst, with its outputs and marks, and leaves the rest. -/
structure State.settlesDrum (s t : State) : Prop where
  tgm : t.tgm = s.tgm
  tangleCap : t.hsc.tangleCap = s.hsc.tangleCap
  csq : t.csq = s.csq
  settled : s.marksRight → s.burstless → t.settled

/-- What is set of the pattern and its steps beforehand does not matter. -/
theorem State.settlesDrum_figures {s t : State} {p : Option (List Step)} {c : Option CurrentStep} {r g : Option Nat}
    (h : State.settlesDrum { s with dmc := { s.dmc with pattern := p, current := c, remaining := r, staged := g } } t) :
    s.settlesDrum t where
  tgm := h.tgm
  tangleCap := h.tangleCap
  csq := h.csq
  settled m b := h.settled ⟨m.lined, m.revolution, m.runs, m.turns, m.report, m.stall, m.check⟩
    ⟨b.burst, b.interrupted, b.burstDue⟩

theorem State.settlesDrum_capFlag {s t : State} (h : s.settlesDrum t) (flag : s.capFlagRight) : t.capFlagRight := by
  rw [State.capFlagRight, h.tgm, h.tangleCap]; exact flag

/-- Turning has ended, and the report with it. -/
theorem State.stopsTurning_report {s t : State} (h : s.stopsTurning t) (report : s.hsc.turning = s.dmc.turning) :
    t.hsc.turning = false := by
  cases turning : s.dmc.turning with
  | true => exact (h.ends turning).1
  | false => rw [h.stands turning, report, turning]

/-- The drum ceases to turn in a motion state that is none of RUN: its marks are the stall deadline and the rest check. -/
theorem State.marksRight_of_stops {s t : State} (h : s.marksRight) (stops : s.stopsTurning t)
    (revolution : t.dmc.revolution = none) (lined : ∀ e ∈ t.dmc.motion.driven, t.dmc.lastDir = some e)
    (run : t.dmc.motion.isRun = false)
    (stall : t.dmc.stallDue.isSome = t.dmc.motion.driven.isSome)
    (check : t.dmc.restCheck ≠ .none ↔ t.dmc.motion.isRest = true) : t.marksRight where
  lined := lined
  revolution := by rw [stops.turning, revolution]; rfl
  runs isRun := absurd (run.symm.trans isRun) Bool.false_ne_true
  turns turning := absurd (stops.turning.symm.trans turning) Bool.false_ne_true
  report := (State.stopsTurning_report stops h.report).trans stops.turning.symm
  stall := stall
  check := check

/-- The outputs are off and no step need drive. -/
theorem Dmc.outputsRight_of_off {d : Dmc} (off : d.motion.driven = none) : d.outputsRight := by
  cases motion : d.motion <;> rw [motion] at off <;> simp_all [Dmc.outputsRight, Dmc.pins, Motion.driven]

/-- The outputs are on as the current step says. -/
theorem Dmc.outputsRight_of_step {d : Dmc} {e : Dir} {c : CurrentStep} (motion : d.motion = .starting e ∨ d.motion = .run e)
    (current : d.current = some c) (waiting : c.waiting = false) (dir : c.step.action.dir = some e)
    (speed : d.speed = c.step.speed) : d.outputsRight := by
  rcases motion with motion | motion <;> cases e <;>
    simp [Dmc.outputsRight, Dmc.pins, motion, Motion.driven, current, waiting, dir, speed]

/-- What the outputs in STARTING and RUN say of the step. -/
theorem Dmc.step_of_outputsRight {d : Dmc} {e : Dir} (h : d.outputsRight) (motion : d.motion = .starting e ∨ d.motion = .run e) :
    ∃ c, d.current = some c ∧ c.waiting = false ∧ c.step.action.dir = some e ∧ d.speed = c.step.speed := by
  obtain ⟨pins, step⟩ := h
  cases current : d.current with
  | none => rcases motion with motion | motion <;> simp [motion, current] at step
  | some c =>
    rcases motion with motion | motion <;> rw [motion, current] at pins step <;>
      simp [Dmc.pins, motion, Motion.driven] at pins step <;> exact ⟨c, rfl, step.1, step.2, pins⟩

theorem State.lined_of_off {s : State} (off : s.dmc.motion.driven = none) : s.lined := fun e driven => by
  rw [off] at driven; exact absurd driven nofun

theorem State.drumOff_keeps (s : State) : s.drumOff.dmc.interrupted = s.dmc.interrupted
    ∧ s.drumOff.dmc.remaining = s.dmc.remaining := by
  rw [s.drumOff_dmc]; split <;> exact ⟨rfl, rfl⟩

/-- A rest is entered with the marks of a rest. -/
theorem State.enterRest_marks {s : State} (h : s.marksRight) (target : Motion) (empty : Bool) (rest : target.isRest = true) :
    (s.enterRest target empty).marksRight := by
  have off := Motion.driven_of_isRest rest
  have run : target.isRun = false := by cases target <;> simp_all [Motion.isRest, Motion.isRun]
  refine State.marksRight_of_stops h (s.enterRest_stops target empty) ?_ (State.lined_of_off ?_) ?_ ?_ ?_ <;>
    rw [s.enterRest_dmc] <;> simp [off, run, rest]

theorem State.enterStarting_marks {s : State} (h : s.marksRight) (d : Dir) (v : Nat) : (s.enterStarting d v).marksRight := by
  refine State.marksRight_of_stops h (s.enterStarting_stops d v) ?_ ?_ ?_ ?_ ?_ <;>
    rw [s.enterStarting_dmc] <;> simp [Motion.driven, Motion.isRun, Motion.isRest]

theorem State.restDrum_settles (s : State) : s.settlesDrum s.restDrum := by
  refine ⟨by simp, ?_, by simp, fun marks less => ?_⟩
  · rcases s.restDrum_reports with stops | ⟨hsc, -⟩
    · exact stops.tangleCap
    · rw [hsc]
  · by_cases rest : s.dmc.motion.isRest = true
    · have made : s.restDrum = { s with dmc := { s.dmc with motion := .rest } } := if_pos rest
      have still := State.marksRight_rests marks rest
      rw [made]
      refine ⟨Dmc.outputsRight_of_off rfl, ⟨State.lined_of_off rfl, marks.revolution, nofun, fun turns => ?_, marks.report, ?_, ?_⟩,
        ⟨less.burst, less.interrupted, less.burstDue⟩, rfl⟩
      · exact absurd (still.symm.trans turns) Bool.false_ne_true
      · exact marks.stall.trans (by rw [Motion.driven_of_isRest rest]; rfl)
      · exact ⟨fun _ => rfl, fun _ => marks.check.mpr rest⟩
    · have made : s.restDrum = s.enterRest .rest true := if_neg rest
      rw [made]
      refine ⟨Dmc.outputsRight_of_off (by rw [s.enterRest_dmc]; rfl), State.enterRest_marks marks .rest true rfl,
        ⟨by simpa using less.burst, ?_, ?_⟩, ?_⟩ <;> rw [s.enterRest_dmc]
      · exact s.drumOff_keeps.1.trans less.interrupted
      · rfl

theorem State.idleDrum_settles (s : State) : s.settlesDrum s.idleDrum := by
  refine ⟨by simp, s.idleDrum_stops.tangleCap, by simp, fun marks less => ?_⟩
  have idle : s.idleDrum.dmc.motion = .idle := by rw [s.idleDrum_dmc]
  refine ⟨Dmc.outputsRight_of_off (by rw [idle]; rfl), State.marksRight_of_stops marks s.idleDrum_stops ?_
    (State.lined_of_off (by rw [idle]; rfl)) (by rw [idle]; rfl) ?_ ?_, ⟨by simpa using less.burst, ?_, ?_⟩, by rw [idle]; rfl⟩ <;>
    rw [s.idleDrum_dmc] <;> simp [Motion.driven, Motion.isRest]

/-- A step that says so starts the drum. -/
theorem State.enterStarting_settles (s : State) (d : Dir) (v : Nat) (c : CurrentStep) (current : s.dmc.current = some c)
    (waiting : c.waiting = false) (dir : c.step.action.dir = some d) (speed : v = c.step.speed) :
    s.settlesDrum (s.enterStarting d v) := by
  refine ⟨by simp, (s.enterStarting_stops d v).tangleCap, by simp, fun marks less => ?_⟩
  refine ⟨Dmc.outputsRight_of_step (e := d) (c := c) ?_ ?_ waiting dir ?_, State.enterStarting_marks marks d v,
    ⟨by simpa using less.burst, ?_, ?_⟩, ?_⟩ <;> rw [s.enterStarting_dmc]
  · exact .inl rfl
  · exact current
  · exact speed
  · exact less.interrupted
  · rfl

theorem State.actStep_settles (s : State) (c : CurrentStep) : s.settlesDrum (s.actStep c) := by
  rcases s.actStep_cases c with ⟨-, made⟩ | ⟨d, dir, ⟨-, made⟩ | ⟨-, ⟨drives, made⟩ | ⟨-, made⟩⟩⟩
  · rw [made]; exact State.settlesDrum_figures (State.restDrum_settles _)
  · rw [made]; exact State.settlesDrum_figures (State.restDrum_settles _)
  · have motion := (Motion.drives_iff _ d).mp drives
    rw [made]
    refine ⟨rfl, rfl, rfl, fun m b => ⟨Dmc.outputsRight_of_step motion rfl rfl dir rfl,
      ⟨m.lined, m.revolution, m.runs, m.turns, m.report, m.stall, m.check⟩, ⟨b.burst, b.interrupted, b.burstDue⟩, ?_⟩⟩
    rcases motion with motion | motion <;> exact congrArg Motion.inBurst motion
  · rw [made]
    exact State.settlesDrum_figures (State.enterStarting_settles _ d _ { c with waiting := false } rfl rfl dir rfl)

/-- Without a pattern, or past its end, no step begins. -/
theorem State.beginStep_settles (s : State) (k : Nat) : s.settlesDrum (s.beginStep k) ∨
    s.beginStep k = s ∧ ∀ steps, s.dmc.pattern = some steps → steps.length ≤ k := by
  unfold State.beginStep
  cases pattern : s.dmc.pattern with
  | none => exact .inr ⟨rfl, nofun⟩
  | some steps =>
    cases step : steps[k]? with
    | none => exact .inr ⟨by simp [step], fun _ e => Option.some.inj e ▸ List.getElem?_eq_none_iff.mp step⟩
    | some st => simp only [step]; exact .inl (State.settlesDrum_figures (State.actStep_settles _ _))

theorem State.startPattern_settles (s : State) (q : Nat) : s.settlesDrum (s.startPattern q) := by
  unfold State.startPattern
  dsimp only
  split
  · exact State.settlesDrum_figures (State.restDrum_settles _)
  · next some =>
    refine State.settlesDrum_figures ((State.beginStep_settles _ 0).resolve_right fun ⟨_, short⟩ => ?_)
    have := short _ rfl
    exact some (by rw [List.isEmpty_iff_length_eq_zero]; omega)

/-- The phases whose entry leaves the drum's motion: DRYING, and COOLING but from DRYING (R45). -/
theorem State.motionDemand_settles (s : State) (left p : Phase) : s.settlesDrum (s.motionDemand left p) ∨
    s.motionDemand left p = s ∧ (p = .drying ∨ left ≠ .drying) := by
  cases p with
  | prep => exact .inl (s.startPattern_settles _)
  | drying => exact .inr ⟨rfl, .inl rfl⟩
  | cooling =>
    by_cases e : left = .drying
    · have made : s.motionDemand left .cooling = s.startPattern s.program.coolingPattern := if_pos e
      rw [made]; exact .inl (s.startPattern_settles _)
    · exact .inr ⟨if_neg e, .inr e⟩
  | guard => exact .inl (s.startPattern_settles _)
  | hold => exact .inl (State.settlesDrum_figures (State.restDrum_settles _))
  | done | idle | service => exact .inl s.idleDrum_settles
  | fault =>
    refine .inl ?_
    unfold State.motionDemand
    dsimp only
    split
    · split
      · exact s.startPattern_settles _
      · exact s.idleDrum_settles
    · exact s.idleDrum_settles

/-! ### A burst abandoned (R55) -/

theorem State.burstEnded_capFlag {s : State} (flag : s.capFlagRight) : s.burstEnded.capFlagRight := by
  unfold State.burstEnded
  split
  · exact State.refreshCapFlag_right _ flag.2
  · exact flag

theorem State.abandonBurst_of_out {s : State} (out : s.dmc.motion.inBurst = false) : s.abandonBurst = s := by
  unfold State.abandonBurst
  exact if_neg (by rw [out]; exact Bool.false_ne_true)

theorem State.abandonBurst_less {s : State} (marks : s.marksRight) (burst : s.burstRight) (flag : s.capFlagRight) :
    s.abandonBurst.marksRight ∧ s.abandonBurst.burstless ∧ s.abandonBurst.capFlagRight := by
  by_cases inBurst : s.dmc.motion.inBurst = true
  · let m := if s.dmc.motion.isRest then Motion.rest else s.dmc.motion
    let v : State := { s with dmc := { s.dmc with interrupted := none, burstDue := none, motion := m } }
    have made : s.abandonBurst = v.burstEnded := if_pos inBurst
    have dmc : v.burstEnded.dmc = v.dmc := by simp
    have burst' : v.burstEnded.tgm.burst = false := by
      rw [v.burstEnded_tgm, if_pos (burst.burst.trans inBurst)]
    have first : v.marksRight := by
      by_cases rest : s.dmc.motion.isRest = true
      · have isRest : v.dmc.motion = .rest := if_pos rest
        have still := State.marksRight_rests marks rest
        refine ⟨State.lined_of_off (by rw [isRest]; rfl), marks.revolution, by rw [isRest]; nofun, fun turns => ?_, marks.report,
          ?_, ?_⟩
        · exact absurd (still.symm.trans turns) Bool.false_ne_true
        · rw [isRest]; exact marks.stall.trans (by rw [Motion.driven_of_isRest rest]; rfl)
        · rw [isRest]; exact ⟨fun _ => rfl, fun _ => marks.check.mpr rest⟩
      · have same : v.dmc.motion = s.dmc.motion := if_neg rest
        refine ⟨?_, marks.revolution, ?_, ?_, marks.report, ?_, ?_⟩ <;> rw [same]
        exacts [marks.lined, marks.runs, marks.turns, marks.stall, marks.check]
    rw [made]
    refine ⟨State.marksRight_congr first dmc (by rw [v.burstEnded_hsc]), ⟨burst', ?_, ?_⟩, State.burstEnded_capFlag flag⟩ <;>
      rw [dmc]
  · have out := Bool.eq_false_of_not_eq_true inBurst
    rw [State.abandonBurst_of_out out]
    exact ⟨marks, State.burstless_of_motion burst out, flag⟩

/-- After a phase change the drum is settled: a burst was in DRYING, and leaving it demands a motion. -/
theorem State.followDrum_settled {v : State} {left p : Phase} (outputs : v.dmc.outputsRight) (marks : v.marksRight)
    (burst : v.burstRight) (flag : v.capFlagRight) (only : v.dmc.motion.inBurst = true → left = .drying)
    (drying : p = .drying → left ≠ .drying) : (v.followDrum left p).settled ∧ (v.followDrum left p).capFlagRight := by
  obtain ⟨marks', less, flag'⟩ := State.abandonBurst_less marks burst flag
  rcases v.abandonBurst.motionDemand_settles left p with settles | ⟨same, stays⟩
  · exact ⟨settles.settled marks' less, State.settlesDrum_capFlag settles flag'⟩
  · have out : v.dmc.motion.inBurst = false :=
      Bool.eq_false_of_not_eq_true fun e => stays.elim (fun h => drying h (only e)) fun h => h (only e)
    have made : v.followDrum left p = v := same.trans (State.abandonBurst_of_out out)
    rw [made]
    exact ⟨⟨outputs, marks, State.burstless_of_motion burst out, out⟩, flag⟩

/-! ### The tangle monitor at a phase change (R72, R84) -/

theorem State.followTangle_keeps (v : State) (left p : Phase) (flag : v.capFlagRight) : (v.followTangle left p).capFlagRight
    ∧ ((v.followTangle left p).tgm.burst = v.tgm.burst ∨ (v.followTangle left p).tgm.burst = false)
    ∧ (v.followTangle left p).hsc.turning = v.hsc.turning := by
  unfold State.followTangle
  split
  · exact ⟨flag, .inl rfl, rfl⟩
  · exact ⟨State.refreshCapFlag_right _ flag.2, .inr (by rw [State.refreshCapFlag_tgm]), by rw [State.refreshCapFlag_hsc]⟩
  · exact ⟨State.refreshCapFlag_right _ flag.2, .inr (by rw [State.refreshCapFlag_tgm]), by rw [State.refreshCapFlag_hsc]⟩
  · exact ⟨flag, .inl rfl, rfl⟩

theorem State.changePhase_tgm (s : State) (p : Phase) (c : Cause) : (s.changePhase p c).tgm = (s.afterDrum p).tgm := by
  rw [s.changePhase_eq]; split <;> simp

theorem State.changePhase_kept {s : State} {p : Phase} (cause : Cause) (outputs : s.dmc.outputsRight) (marks : s.marksRight)
    (burst : s.burstRight) (flag : s.capFlagRight) (only : s.dmc.motion.inBurst = true → s.csq.phase = .drying)
    (drying : p = .drying → s.csq.phase ≠ .drying) (consistent : (s.csq.setPhase p).consistent) :
    (s.changePhase p cause).drumKept := by
  have front : (s.afterFront p).dmc = s.dmc ∧ (s.afterFront p).tgm = s.tgm ∧ (s.afterFront p).hsc = s.hsc := by simp
  obtain ⟨dmc, tgm, hsc⟩ := front
  obtain ⟨settled, flag'⟩ := State.followDrum_settled (v := s.afterFront p) (left := s.csq.phase) (p := p) (by rw [dmc]; exact outputs)
    (State.marksRight_congr marks dmc (by rw [hsc]))
    ⟨by rw [dmc]; exact burst.resumes, by rw [dmc, tgm]; exact burst.burst, by rw [dmc]; exact burst.interrupted,
      by rw [dmc]; exact burst.burstDue⟩
    (by rw [State.capFlagRight, tgm, hsc]; exact flag) (by rw [dmc]; exact only) drying
  obtain ⟨right, unburst, turning⟩ := ((s.afterFront p).followDrum s.csq.phase p).followTangle_keeps s.csq.phase p flag'
  have heat := (s.afterDrum p).followHeat_beside s.csq.phase p
  refine State.kept_of_settled (State.settled_congr settled (s.changePhase_dmc p cause) ?_ ?_) ?_ ?_
  · rw [s.changePhase_hsc, heat.turning]; exact turning
  · rw [s.changePhase_tgm]; exact unburst
  · rw [s.changePhase_csq]; exact consistent
  · rw [State.capFlagRight, s.changePhase_tgm, s.changePhase_hsc, heat.tangleCap]; exact right

/-! ### Each change of the drum keeps it -/

/-- An operation that settles the drum keeps it, outside a burst. -/
theorem State.drumKept_of_settles {s t : State} (h : s.settlesDrum t) (out : s.dmc.motion.inBurst = false) (kept : s.drumKept) :
    t.drumKept :=
  State.kept_of_settled (h.settled kept.marks (State.burstless_of_motion kept.burst out)) (by rw [h.csq]; exact kept.consistent)
    (State.settlesDrum_capFlag h kept.flag)

theorem State.judgeGate_kept {s : State} (kept : s.drumKept) : s.judgeGate.drumKept := by
  rcases s.judgeGate_cases with ⟨c, d, motion, current, -, dir, -, made⟩ | ⟨i, motion, interrupted, -, made⟩
    | ⟨i, motion, interrupted, -, made⟩ | ⟨made, -⟩
  · rw [made]
    exact State.drumKept_of_settles (State.settlesDrum_figures
      (State.enterStarting_settles _ d _ { c with waiting := false } rfl rfl dir rfl)) (by rw [motion]; rfl) kept
  · have inBurst : s.dmc.motion.inBurst = true := by rw [motion]; rfl
    have still := State.marksRight_rests kept.marks (by rw [motion]; rfl)
    rw [made]
    refine ⟨kept.consistent, ⟨?_, rfl⟩, ⟨fun e driven => driven, ?_, nofun, fun turns => ?_, kept.marks.report, rfl, ?_⟩,
      ⟨kept.burst.resumes, kept.burst.burst.trans inBurst, kept.burst.interrupted.trans inBurst, fun _ => ?_⟩,
      fun _ => kept.within inBurst, kept.flag⟩
    · cases i.dir <;> rfl
    · exact still
    · exact absurd (still.symm.trans turns) Bool.false_ne_true
    · exact ⟨fun h => absurd rfl h, nofun⟩
    · cases i.dir <;> simp [State.enterRunOpp, Dir.flip]
  · have inBurst : s.dmc.motion.inBurst = true := by rw [motion]; rfl
    obtain ⟨speed, dir⟩ := kept.burst.resumes i interrupted
    let c : CurrentStep := { index := some i.index, step := i.step, waiting := false }
    let v : State := { s with dmc := { s.dmc with interrupted := none, current := some c, remaining := some i.remaining } }
    have marks : v.marksRight := ⟨kept.marks.lined, kept.marks.revolution, kept.marks.runs, kept.marks.turns, kept.marks.report,
      kept.marks.stall, kept.marks.check⟩
    have started := State.enterStarting_marks marks i.dir i.speed
    have same : (v.enterStarting i.dir i.speed).burstEnded.dmc = (v.enterStarting i.dir i.speed).dmc := by simp
    have flag : (v.enterStarting i.dir i.speed).capFlagRight := by
      rw [State.capFlagRight, (v.enterStarting_stops i.dir i.speed).tangleCap, (by simp : (v.enterStarting i.dir i.speed).tgm = v.tgm)]
      exact kept.flag
    have burst : (v.enterStarting i.dir i.speed).tgm.burst = true := by simpa using kept.burst.burst.trans inBurst
    rw [made]
    refine State.kept_of_settled (s := (v.enterStarting i.dir i.speed).burstEnded) ⟨?_,
      State.marksRight_congr started same (by rw [State.burstEnded_hsc]), ⟨?_, ?_, ?_⟩, ?_⟩ (by simpa using kept.consistent)
      (State.burstEnded_capFlag flag)
    · rw [same, v.enterStarting_dmc]; exact Dmc.outputsRight_of_step (.inl rfl) rfl rfl dir speed
    · rw [State.burstEnded_tgm, if_pos burst]
    · rw [same, v.enterStarting_dmc]
    · rw [same, v.enterStarting_dmc]
    · rw [same, v.enterStarting_dmc]; rfl
  · rw [made]; exact kept

theorem State.stepEnds_kept {s : State} (running : s.dmc.remaining.isSome = true) (kept : s.drumKept) : s.stepEnds.drumKept := by
  have out : s.dmc.motion.inBurst = false :=
    Bool.eq_false_of_not_eq_true fun e => absurd_of_none (kept.within e).2 running
  unfold State.stepEnds
  split
  · next k _ =>
    rcases s.beginStep_settles k with settles | ⟨same, -⟩
    · exact State.drumKept_of_settles settles out kept
    · rw [same]; exact kept
  · have marks := kept.marks
    exact ⟨kept.consistent, kept.outputs, ⟨marks.lined, marks.revolution, marks.runs, marks.turns, marks.report, marks.stall,
      marks.check⟩, ⟨kept.burst.resumes, kept.burst.burst, kept.burst.interrupted, kept.burst.burstDue⟩, fun e => absurd (out.symm.trans e) Bool.false_ne_true, kept.flag⟩

theorem State.burstTimeEnds_kept {s : State} (due : s.dmc.burstDue.isSome = true) (kept : s.drumKept) :
    s.burstTimeEnds.drumKept := by
  have inBurst : s.dmc.motion.inBurst = true := by rcases kept.burst.burstDue due with e | e <;> rw [e] <;> rfl
  obtain ⟨drying, remaining⟩ := kept.within inBurst
  have motion : s.burstTimeEnds.dmc.motion = .restOut := by rw [State.burstTimeEnds, s.enterRest_dmc]
  have interrupted : s.burstTimeEnds.dmc.interrupted = s.dmc.interrupted := by
    rw [State.burstTimeEnds, s.enterRest_dmc]; exact s.drumOff_keeps.1
  have tgm : s.burstTimeEnds.tgm = s.tgm := by simp [State.burstTimeEnds]
  refine ⟨by simpa [State.burstTimeEnds] using kept.consistent, Dmc.outputsRight_of_off (by rw [motion]; rfl),
    State.enterRest_marks kept.marks .restOut false rfl, ⟨?_, ?_, ?_, ?_⟩, fun _ => ⟨?_, ?_⟩, ?_⟩
  · rw [interrupted]; exact kept.burst.resumes
  · rw [tgm, motion]; exact kept.burst.burst.trans inBurst
  · rw [interrupted, motion]; exact kept.burst.interrupted.trans inBurst
  · rw [State.burstTimeEnds, s.enterRest_dmc]; nofun
  · simpa [State.burstTimeEnds] using drying
  · rw [State.burstTimeEnds, s.enterRest_dmc]; exact s.drumOff_keeps.2.trans remaining
  · rw [State.capFlagRight, tgm, State.burstTimeEnds, (s.enterRest_stops .restOut false).tangleCap]; exact kept.flag

/-- A burst request accepted: the interrupted step is the one the outputs were on for. -/
theorem State.takeBurst_kept {s t : State} (chain : Nat) (drying : s.csq.phase = .drying) (taken : s.takeBurst = some t)
    (kept : s.drumKept) : (State.refreshCapFlag { t with tgm := { t.tgm with
      c := 0, b := chain, recheck := none, burst := true, outstanding := false } }).drumKept := by
  obtain ⟨d, c, r, k, motion, current, -, -, rfl⟩ := State.takeBurst_cases taken
  obtain ⟨c', current', -, dir, speed⟩ := Dmc.step_of_outputsRight kept.outputs (.inr motion)
  obtain rfl : c = c' := Option.some.inj (current.symm.trans current')
  have marks : (s.interruptedBy d c r k).marksRight := ⟨kept.marks.lined, kept.marks.revolution, kept.marks.runs,
    kept.marks.turns, kept.marks.report, kept.marks.stall, kept.marks.check⟩
  have entered := State.enterRest_marks marks .restIn true rfl
  have stops := (s.interruptedBy d c r k).enterRest_stops .restIn true
  generalize hv : (s.interruptedBy d c r k).enterRest .restIn true = v at entered stops
  have dmc : v.dmc.motion = .restIn ∧ v.dmc.interrupted = some
      { index := k, step := c.step, dir := d, speed := s.dmc.speed, remaining := r } ∧ v.dmc.remaining = none
      ∧ v.dmc.burstDue = none := by
    rw [← hv, State.enterRest_dmc]
    exact ⟨rfl, (State.drumOff_keeps _).1, (State.drumOff_keeps _).2, rfl⟩
  obtain ⟨isRestIn, interrupted, remaining, due⟩ := dmc
  have csq : v.csq = s.csq := by rw [← hv, ((s.interruptedBy d c r k).enterRest_frame .restIn true).2.2.2.2.2.2.2.2.1]; rfl
  have tgm : v.tgm = s.tgm := by rw [← hv]; simp [State.interruptedBy]
  let w : State := { v.markBurst with tgm := { v.markBurst.tgm with
    c := 0, b := chain, recheck := none, burst := true, outstanding := false } }
  have wdmc : w.refreshCapFlag.dmc = v.dmc := by simp [w]
  have wcsq : w.refreshCapFlag.csq = s.csq := by rw [← csq]; simp [w]
  have whsc : w.hsc = v.hsc := by simp [w]
  refine ⟨?_, ?_, State.marksRight_congr entered wdmc ?_, ⟨?_, ?_, ?_, ?_⟩, fun _ => ?_, ?_⟩
  · rw [wcsq]; exact kept.consistent
  · rw [wdmc]; exact Dmc.outputsRight_of_off (by rw [isRestIn]; rfl)
  · rw [w.refreshCapFlag_hsc, whsc]
  · rw [wdmc, interrupted]
    rintro i ⟨⟩
    exact ⟨speed, dir⟩
  · rw [w.refreshCapFlag_tgm, wdmc, isRestIn]; rfl
  · rw [wdmc, interrupted, isRestIn]; rfl
  · rw [wdmc, due]; nofun
  · rw [wcsq, wdmc]; exact ⟨drying, remaining⟩
  · refine State.refreshCapFlag_right w ?_
    rw [whsc, stops.tangleCap, show w.tgm.capFlag = v.tgm.capFlag by simp [w], tgm]
    exact kept.flag.2

/-- A revolution opens while the drum turns. -/
theorem State.opensRevolution_kept {s : State} {m : Motion} {history : List Revolution} (kept : s.drumKept)
    (same : m = s.dmc.motion ∨ ∃ d, s.dmc.motion = .starting d ∧ m = .run d)
    (turns : m.isRun = true ∨ m = .runOpp .fwd ∨ m = .runOpp .rev) {t : State}
    (csq : t.csq = s.csq) (tgm : t.tgm = s.tgm) (turning : t.hsc.turning = true) (tangleCap : t.hsc.tangleCap = s.hsc.tangleCap)
    (dmc : ∃ o due len, t.dmc = { s.dmc with
      motion := m, turning := true, history := history, revolution := some o, stallDue := some due, stallLength := len }) :
    t.drumKept := by
  obtain ⟨o, due, len, dmc⟩ := dmc
  have driven : m.driven = s.dmc.motion.driven := by
    rcases same with rfl | ⟨d, motion, rfl⟩
    · rfl
    · rw [motion]; rfl
  have inBurst : m.inBurst = s.dmc.motion.inBurst := by
    rcases same with rfl | ⟨d, motion, rfl⟩
    · rfl
    · rw [motion]; rfl
  have isRest : m.isRest = s.dmc.motion.isRest := by
    rcases same with rfl | ⟨d, motion, rfl⟩
    · rfl
    · rw [motion]; rfl
  have some : m.driven.isSome = true := by
    rcases turns with run | rfl | rfl
    · revert run; clear * -; cases m <;> simp [Motion.isRun, Motion.driven]
    · rfl
    · rfl
  have outputs : t.dmc.outputsRight := by
    rcases same with rfl | ⟨d, motion, rfl⟩
    · rw [dmc]; exact kept.outputs
    · obtain ⟨c, current, waiting, dir, speed⟩ := Dmc.step_of_outputsRight kept.outputs (.inl motion)
      rw [dmc]; exact Dmc.outputsRight_of_step (.inr rfl) current waiting dir speed
  refine ⟨by rw [csq]; exact kept.consistent, outputs, ?_, ?_, ?_, ?_⟩
  · refine ⟨?_, ?_, ?_, ?_, ?_, ?_, ?_⟩ <;> rw [dmc]
    · dsimp only; rw [driven]; exact kept.marks.lined
    · rfl
    · exact fun _ => rfl
    · exact fun _ => turns
    · exact turning
    · exact some.symm
    · dsimp only; rw [isRest]; exact kept.marks.check
  · refine ⟨?_, ?_, ?_, fun e => ?_⟩
    · rw [dmc]; exact kept.burst.resumes
    · rw [tgm, dmc]; exact kept.burst.burst.trans inBurst.symm
    · rw [dmc]; exact kept.burst.interrupted.trans inBurst.symm
    · rw [dmc] at e ⊢
      rcases same with rfl | ⟨d, motion, rfl⟩
      · exact kept.burst.burstDue e
      · rcases kept.burst.burstDue e with other | other <;> exact absurd (motion.symm.trans other) nofun
  · rw [csq, dmc]
    intro e
    exact kept.within (inBurst.symm.trans e)
  · rw [State.capFlagRight, tgm, tangleCap]; exact kept.flag

theorem State.drumKept_kept : KeptByDrum (fun s t => s.drumKept → t.drumKept) where
  refl _ := id
  trans h h' := h' ∘ h
  beside h := State.drumKept_of_same h.tosameDrum
  sequencer s c phase consistent kept := by
    have within := kept.within
    rw [← phase] at within
    exact ⟨consistent kept.consistent, kept.outputs, State.marksRight_congr kept.marks rfl rfl,
      ⟨kept.burst.resumes, kept.burst.burst, kept.burst.interrupted, kept.burst.burstDue⟩, within, kept.flag⟩
  enters s c p cause phase consistent drying kept :=
    State.changePhase_kept cause kept.outputs (State.marksRight_congr kept.marks rfl rfl)
      ⟨kept.burst.resumes, kept.burst.burst, kept.burst.interrupted, kept.burst.burstDue⟩ kept.flag
      (fun e => phase.trans (kept.within e).1) (fun e => phase.trans_ne (drying e)) (consistent kept.consistent)
  demands s fault kept := by
    rcases s.motionDemand_settles .fault .fault with settles | ⟨same, -⟩
    · exact State.drumKept_of_settles settles (State.not_inBurst_of_phase kept (by rw [fault]; decide)) kept
    · rw [same]; exact kept
  idles s c phase consistent drying kept := by
    have out := State.not_inBurst_of_phase kept (drying kept.consistent)
    have settles := State.idleDrum_settles { s with csq := c }
    have settled := settles.settled (State.marksRight_congr kept.marks rfl rfl)
      ⟨(State.burstless_of_motion kept.burst out).burst, (State.burstless_of_motion kept.burst out).interrupted,
        (State.burstless_of_motion kept.burst out).burstDue⟩
    exact State.kept_of_settled settled (by rw [settles.csq]; exact consistent kept.consistent)
      (State.settlesDrum_capFlag settles kept.flag)
  testRest s service kept := State.drumKept_of_settles (State.settlesDrum_figures (State.restDrum_settles _))
    (State.not_inBurst_of_phase kept (by rw [service]; decide)) kept
  testRun s a v service kept := State.drumKept_of_settles (State.settlesDrum_figures (State.actStep_settles _ _))
    (State.not_inBurst_of_phase kept (by rw [service]; decide)) kept
  starts s drying kept := by
    have out := State.not_inBurst_of_phase kept drying
    have hsc : s.tangleAtStart.heatAtStart.hsc.turning = s.hsc.turning ∧ s.tangleAtStart.heatAtStart.hsc.tangleCap = 4 := by
      unfold State.heatAtStart
      dsimp only
      rw [State.shedAll, (State.stagesOff_sheds _ four).frame, State.tangleAtStart, State.refreshCapFlag_hsc]
      exact ⟨rfl, rfl⟩
    have tgm : s.tangleAtStart.heatAtStart.tgm.burst = false ∧ s.tangleAtStart.heatAtStart.tgm.recheck = none
        ∧ s.tangleAtStart.heatAtStart.tgm.capFlag = false := by
      rw [(by simp : s.tangleAtStart.heatAtStart.tgm = s.tangleAtStart.tgm), State.tangleAtStart, State.refreshCapFlag_tgm]
      exact ⟨rfl, rfl, rfl⟩
    obtain ⟨burst, recheck, capFlag⟩ := tgm
    refine State.kept_of_settled (State.settled_congr (State.settled_of_kept kept out) (by simp) hsc.1 (.inr burst))
      (by simpa using kept.consistent) ⟨?_, ?_⟩
    · rw [burst, recheck, capFlag]; rfl
    · rw [hsc.2, capFlag]; rfl
  gate _ := State.judgeGate_kept
  steps _ := State.stepEnds_kept
  burstTime _ := State.burstTimeEnds_kept
  runs s d motion kept := State.opensRevolution_kept kept (.inr ⟨d, motion, rfl⟩) (.inl rfl) rfl rfl rfl rfl ⟨_, _, _, rfl⟩
  opposes s d motion kept := State.opensRevolution_kept kept (.inl rfl) (.inr (by rw [motion]; cases d <;> simp)) rfl rfl rfl rfl
    ⟨_, _, _, rfl⟩
  reopens s d h turns kept := by
    have turning : s.dmc.turning = true := turns.elim (fun run => kept.marks.runs (by rw [run]; rfl)) And.right
    have report := kept.marks.report.trans turning
    exact State.opensRevolution_kept (m := s.dmc.motion) (history := h) kept (.inl rfl) (kept.marks.turns turning) rfl rfl
      report rfl ⟨.opened s.clock, _, _, by rw [← turning]; rfl⟩
  bursts chain := State.takeBurst_kept chain
  counts s n kept := ⟨kept.consistent, kept.outputs, State.marksRight_congr kept.marks rfl rfl,
    ⟨kept.burst.resumes, kept.burst.burst, kept.burst.interrupted, kept.burst.burstDue⟩, kept.within, kept.flag⟩
  chainEnds s c b kept := by
    refine ⟨by simpa using kept.consistent, by simpa using kept.outputs,
      State.marksRight_congr kept.marks (by simp) (by rw [State.refreshCapFlag_hsc]), ⟨?_, ?_, ?_, ?_⟩, ?_,
      State.refreshCapFlag_right _ kept.flag.2⟩
    · simpa using kept.burst.resumes
    · rw [State.refreshCapFlag_tgm]; simpa using kept.burst.burst
    · simpa using kept.burst.interrupted
    · simpa using kept.burst.burstDue
    · simpa using kept.within
  samples s i kept := ⟨kept.consistent, kept.outputs, ⟨kept.marks.lined,
      kept.marks.revolution.trans (Option.isSome_map ..).symm, kept.marks.runs, kept.marks.turns, kept.marks.report,
      kept.marks.stall, kept.marks.check⟩,
    ⟨kept.burst.resumes, kept.burst.burst, kept.burst.interrupted, kept.burst.burstDue⟩, kept.within, kept.flag⟩
  checks s x before after kept := ⟨kept.consistent, kept.outputs, ⟨kept.marks.lined, kept.marks.revolution, kept.marks.runs,
      kept.marks.turns, kept.marks.report, kept.marks.stall, ⟨fun _ => kept.marks.check.mp before, fun _ => after⟩⟩,
    ⟨kept.burst.resumes, kept.burst.burst, kept.burst.interrupted, kept.burst.burstDue⟩, kept.within, kept.flag⟩
  stalls s due before kept := ⟨kept.consistent, kept.outputs, ⟨kept.marks.lined, kept.marks.revolution, kept.marks.runs,
      kept.marks.turns, kept.marks.report, before.symm.trans kept.marks.stall, kept.marks.check⟩,
    ⟨kept.burst.resumes, kept.burst.burst, kept.burst.interrupted, kept.burst.burstDue⟩, kept.within, kept.flag⟩
  restMinimum s kept := ⟨kept.consistent, kept.outputs, ⟨kept.marks.lined, kept.marks.revolution, kept.marks.runs,
      kept.marks.turns, kept.marks.report, kept.marks.stall, kept.marks.check⟩,
    ⟨kept.burst.resumes, kept.burst.burst, kept.burst.interrupted, kept.burst.burstDue⟩, kept.within, kept.flag⟩

/-! ### From step to step -/

theorem State.elapse_kept (n : Nat) {s : State} (kept : s.drumKept) : (s.elapse n).drumKept := by
  refine ⟨Csq.elapse_consistent kept.consistent n, kept.outputs, ⟨kept.marks.lined, kept.marks.revolution, kept.marks.runs,
      kept.marks.turns, kept.marks.report, kept.marks.stall, kept.marks.check⟩,
    ⟨kept.burst.resumes, kept.burst.burst, kept.burst.interrupted, kept.burst.burstDue⟩, fun burst => ?_, kept.flag⟩
  obtain ⟨drying, remaining⟩ := kept.within burst
  refine ⟨(s.csq.elapse_frame n).1.trans drying, ?_⟩
  rw [State.elapse_dmc, Dmc.elapse, remaining]
  rfl

/-- The moment of the last pulse and the still flag are none of the marks. -/
theorem State.standstill_kept {s : State} (pulse : Option Nat) (still : Bool) (kept : s.drumKept) :
    ({ s with dmc := { s.dmc with lastPulse := pulse, still := still } } : State).drumKept :=
  ⟨kept.consistent, kept.outputs, ⟨kept.marks.lined, kept.marks.revolution, kept.marks.runs, kept.marks.turns,
    kept.marks.report, kept.marks.stall, kept.marks.check⟩,
    ⟨kept.burst.resumes, kept.burst.burst, kept.burst.interrupted, kept.burst.burstDue⟩, kept.within, kept.flag⟩

theorem State.begins_kept {s u : State} (h : s.begins u) (kept : s.drumKept) : u.drumKept := by
  cases h with
  | now => exact kept
  | later n => exact State.elapse_kept n kept
  | pulsed => exact State.standstill_kept _ _ kept
  | still n => exact State.standstill_kept _ _ (State.elapse_kept n kept)

theorem State.resetWith_kept (pending : List Instr) (boot : Boot) (clock : Nat) (pins : Pins) (stored : Seven (List StoredWord)) :
    (State.resetWith pending boot clock pins stored).drumKept := by
  obtain ⟨consistent, -⟩ := resetMeetsInvariants
  refine ⟨consistent, ⟨rfl, rfl⟩, ⟨nofun, rfl, nofun, nofun, rfl, rfl, ⟨fun h => absurd rfl h, nofun⟩⟩, ⟨nofun, rfl, rfl, nofun⟩,
    nofun, ⟨rfl, rfl⟩⟩

/-- Settles O56, by an invariant that every step at the drum keeps. -/
theorem drumAndTangleKept : Obligations.DrumAndTangleKept := by
  unfold Obligations.DrumAndTangleKept
  intro s t consistent drum flag stepped
  rw [← State.drumKept_iff]
  have kept : s.drumKept := (State.drumKept_iff s).mpr ⟨consistent, drum, flag⟩
  obtain ⟨queue, goes⟩ := State.drumKept_kept.stepGoes stepped
  rcases goes with ⟨u, begins, v, reaches, same⟩ | ⟨pending, boot, clock, pins, stored, rfl⟩
  · exact State.drumKept_of_same same (reaches (State.begins_kept begins
      (State.drumKept_of_same (s := s) (State.sameDrum_of_hsc rfl rfl rfl rfl rfl) kept)))
  · exact State.resetWith_kept pending boot clock pins stored

/-! ### What no pulse touches (R9, R77) -/

theorem State.followHeat_onTime (s : State) (left p : Phase) (n : StageNo) :
    ((s.followHeat left p).stage n).onTime = (s.stage n).onTime := by
  by_cases service : p = .service
  · let v : State := { s with hsc := { s.hsc with
      periodDue := if p = Phase.drying then some (s.clock + 2000) else none } }
    let w : State := { v with hsc := v.hsc.enterService }
    have made : s.followHeat left p = ((w.enforce.followFan p).followAirflow left p).enforce := by
      rw [State.followHeat, if_pos service]
    have cools : w.onlyCools (s.followHeat left p) := by
      rw [made]
      exact State.onlyCools_enforce (State.onlyCools_trans (State.onlyCools_trans (State.onlyCools_enforce w.onlyCools_refl)
        (State.followFan_onlyCools ..)) (State.followAirflow_onlyCools ..))
    have stage : w.stage n = { s.stage n with openMark := false } := Quad.get_map ..
    rw [cools.onTime, stage]
  · exact (s.followHeat_onlyCools left p service).onTime n

/-- A phase change keeps the frame, whatever phase is entered. -/
theorem State.changePhase_outer (s : State) (p : Phase) (c : Cause) : s.outerFrame (s.changePhase p c) := by
  by_cases service : p = .service
  · refine State.outerFrame_of_hsc (by simp) (by simp) (by simp) (by simp) (by simp)
      (s.changePhase_sst p c (by rw [service]; decide)) fun n => ?_
    have drum : s.onlyCools (s.afterDrum p) := State.onlyCools_trans
      (State.onlyCools_after (State.followDrum_onlyCools (s.afterFront p) s.csq.phase p) (by simp)) (State.followTangle_onlyCools ..)
    rw [State.stage, s.changePhase_hsc]
    exact ((s.afterDrum p).followHeat_onTime s.csq.phase p n).trans (drum.onTime n)
  · exact (s.changePhase_carries p c service).outer

theorem State.checkHeat_outer (s : State) : s.outerFrame s.checkHeat := by
  unfold State.checkHeat
  split
  · exact (s.endDrying_carries _).outer
  · exact s.carries_refl.outer

theorem State.completePrep_outer (s : State) : s.outerFrame s.completePrep := by
  unfold State.completePrep
  split
  · exact s.carries_refl.outer
  · next target _ =>
    have entered : s.outerFrame (State.changePhase { s with csq := s.csq.prepDone } target .prepComplete) :=
      State.outerFrame_trans (s.carries_csq (c := s.csq.prepDone) id).outer (State.changePhase_outer _ _ _)
    dsimp only
    split
    · exact State.outerFrame_trans entered (State.endDrying_carries _ _).outer
    · exact State.outerFrame_trans entered (State.checkHeat_outer _)

theorem State.judgePrep_outer (s : State) : s.outerFrame s.judgePrep := by
  unfold State.judgePrep
  split
  · exact s.completePrep_outer
  · exact s.carries_refl.outer

theorem State.offerRecord_outer (s : State) (r : Record) : s.outerFrame (s.offerRecord r) :=
  State.outerFrame_of_hsc (by simp) (by simp) (by simp) (by simp) (by simp) (by simp) fun n => by simp [State.stage]

theorem State.refreshCapFlag_outer (s : State) : s.outerFrame s.refreshCapFlag :=
  State.outerFrame_of_hsc (by simp) (by simp) (by simp) (by simp) (by simp) (by simp) (State.refreshCapFlag_onlyCools s).onTime

theorem State.takeBurst_outer {s t : State} (taken : s.takeBurst = some t) : s.outerFrame t := by
  obtain ⟨d, c, r, k, -, -, -, -, rfl⟩ := State.takeBurst_cases taken
  refine State.outerFrame_of_hsc (by simp [State.interruptedBy]) (by simp [State.interruptedBy]) (by simp [State.interruptedBy])
    (by simp [State.interruptedBy]) (by simp [State.interruptedBy]) (by simp [State.interruptedBy]) fun n => ?_
  rw [State.stage, (by simp : (((s.interruptedBy d c r k).enterRest .restIn true).markBurst).hsc
    = ((s.interruptedBy d c r k).enterRest .restIn true).hsc)]
  exact (State.enterRest_onlyCools (s.interruptedBy d c r k) .restIn true).onTime n

/-- Of the machine only the drum and the tangle monitor have changed. -/
theorem State.outerFrame_of_drum (s : State) (d : Dmc) (t : Tgm) : s.outerFrame { s with dmc := d, tgm := t } :=
  State.outerFrame_of_hsc rfl rfl rfl rfl rfl rfl fun _ => rfl

theorem State.actOnTangle_outer (s : State) : s.outerFrame s.actOnTangle := by
  unfold State.actOnTangle
  dsimp only
  split
  · split
    · next t taken =>
      unfold State.burstAccepted
      refine State.outerFrame_trans (State.takeBurst_outer taken) (State.outerFrame_trans (t.outerFrame_of_drum t.dmc _)
        (State.outerFrame_trans (State.refreshCapFlag_outer _) (State.outerFrame_trans (State.offerRecord_outer _ _)
          (State.modRecord_carries _ _).outer)))
    · exact s.carries_refl.outer
  · unfold State.escalate
    exact State.outerFrame_trans (s.outerFrame_of_drum s.dmc _) (State.outerFrame_trans (State.refreshCapFlag_outer _)
      (State.outerFrame_trans (State.offerRecord_outer _ _) (State.outerFrame_trans (State.notifyBoth_carries _ _).outer
        (State.takeHoldCause_carries _ _).outer)))

theorem State.scoreRevolution_outer (s : State) : s.outerFrame s.scoreRevolution := by
  unfold State.scoreRevolution
  split
  · dsimp only
    split
    · exact State.outerFrame_trans (s.outerFrame_of_drum s.dmc _) (State.actOnTangle_outer _)
    · exact s.outerFrame_of_drum s.dmc _
  · exact s.carries_refl.outer

theorem State.pulseTurning_outer (s : State) : s.outerFrame s.pulseTurning := by
  unfold State.pulseTurning
  split
  · next o _ =>
    unfold State.closeRevolution
    exact State.outerFrame_trans (s.outerFrame_of_drum _ s.tgm) (State.outerFrame_trans (State.offerRecord_outer _ _)
      (State.outerFrame_trans (State.offerValue_offersMade _ _ _).carries.outer
        (State.outerFrame_trans (State.offerValue_offersMade _ _ _).carries.outer (State.scoreRevolution_outer _))))
  · exact s.outerFrame_of_drum _ s.tgm

/-- Turning begins, and a revolution opens. -/
theorem State.setTurning_outer (s : State) (d : Dmc) :
    s.outerFrame (State.openRevolution (State.setTurning { s with dmc := d })) :=
  State.outerFrame_of_hsc rfl rfl rfl rfl rfl rfl fun _ => rfl

theorem State.pulseActs_outer (v : State) : v.outerFrame v.pulseActs := by
  unfold State.pulseActs
  split
  · exact v.carries_refl.outer
  · unfold State.pulseStarting
    dsimp only
    split
    · exact State.outerFrame_trans (v.setTurning_outer _) (State.outerFrame_trans (State.carries_csq _ id).outer
        (State.judgePrep_outer _))
    · exact v.setTurning_outer _
  · exact v.pulseTurning_outer
  · split
    · exact v.pulseTurning_outer
    · exact v.setTurning_outer v.dmc
  all_goals
    unfold State.pulseResting
    split
    · exact State.outerFrame_trans (v.outerFrame_of_drum _ v.tgm) (State.takeFault_carries _ _).outer
    · exact v.carries_refl.outer

theorem State.pulse_outer (s : State) : s.outerFrame s.pulse :=
  State.outerFrame_trans (s.outerFrame_of_drum s.pulsed.dmc s.tgm) s.pulsed.pulseActs_outer

/-! ### The pulse in each motion state (R49, R51, R57) -/

theorem appendRevolution_eq (h : List Revolution) (r : Revolution) (room : h.length ≤ 8) :
    appendRevolution h r = lastEight h r := by
  unfold appendRevolution lastEight
  split
  · next full =>
    have eight : h.length = 8 := Nat.le_antisymm room full
    rw [eight, List.drop_append_of_le_length (by omega)]
  · next short =>
    have fits : h.length + 1 - 8 = 0 := by
      have : ¬8 ≤ h.length := short
      omega
    rw [fits, List.drop_zero]

/-- A record is made of the drum as it was, whatever the pulse has made of it. -/
theorem State.offerRecord_drum (s : State) (d : Dmc) (r : Record) :
    State.offerRecord { s with dmc := d } r = { s.offerRecord r with dmc := d } := by
  refine (s.withRest_offerRecord { s with dmc := d } r).trans ?_
  apply State.ext_blocks <;> simp [State.withRest]

/-- The pulse closes a revolution that the tangle monitor does not score. -/
theorem State.closeRevolution_of_unscored (s : State) (o : OpenRevolution) (no : s.noWatch) (room : s.dmc.history.length ≤ 8)
    (unscored : s.scores = false) : s.pulsed.closeRevolution o =
      { s.offerRecord (.rev (s.closedRevolution o).time (s.closedRevolution o).min (s.closedRevolution o).max
          (s.closedRevolution o).mean) with
        dmc := { s.pulseOpens with history := lastEight s.dmc.history (s.closedRevolution o) } } := by
  let d : Dmc := { s.pulseOpens with history := lastEight s.dmc.history (s.closedRevolution o) }
  have opened : State.openRevolution { s.pulsed with dmc := { s.pulsed.dmc with
      history := appendRevolution s.pulsed.dmc.history (o.close s.pulsed.clock) } } = { s with dmc := d } := by
    rw [show o.close s.pulsed.clock = s.closedRevolution o from rfl, appendRevolution_eq s.pulsed.dmc.history _ room]; rfl
  have record : Revolution.record (o.close s.pulsed.clock) = .rev (s.closedRevolution o).time (s.closedRevolution o).min
      (s.closedRevolution o).max (s.closedRevolution o).mean := rfl
  have unarmed : (State.offerRecord { s with dmc := d } (Revolution.record (o.close s.pulsed.clock))).noWatch :=
    State.noWatch_of_armsLess (State.offerRecord_observes _ _).armed no
  have same : (State.offerRecord { s with dmc := d } (Revolution.record (o.close s.pulsed.clock))).scores = false := by
    rw [← unscored, (State.offerRecord_observes { s with dmc := d } _).frame]; rfl
  unfold State.closeRevolution
  dsimp only
  rw [opened, State.offerValue_of_noWatch _ _ _ unarmed, State.offerValue_of_noWatch _ _ _ unarmed, State.scoreRevolution, same,
    if_neg Bool.false_ne_true, State.offerRecord_drum, record]

theorem State.pulse_of_closing (s : State) {d : Dir} {o : OpenRevolution} (no : s.noWatch) (isOpen : s.dmc.revolution = some o)
    (room : s.dmc.history.length ≤ 8)
    (turns : s.dmc.motion = .run d ∧ ¬(s.csq.phase = .drying ∧ s.program.tangleEnable = true)
      ∨ s.dmc.motion = .runOpp d ∧ s.dmc.turning = true) :
    s.pulse = { s.offerRecord (.rev (s.closedRevolution o).time (s.closedRevolution o).min (s.closedRevolution o).max
          (s.closedRevolution o).mean) with
        dmc := { s.pulseOpens with history := lastEight s.dmc.history (s.closedRevolution o) } } := by
  have unscored : s.scores = false := by
    rcases turns with ⟨-, off⟩ | ⟨motion, -⟩
    · rw [not_and_or] at off
      rcases off with phase | enable
      · simp [State.scores, phase]
      · simp [State.scores, enable]
    · simp [State.scores, motion, Motion.isRun]
  have made : s.pulse = s.pulsed.pulseTurning := by
    rw [s.pulse_eq, State.pulseActs_turning (v := s.pulsed) (d := d) (turns.imp And.left id)]
  have closes : s.pulsed.pulseTurning = s.pulsed.closeRevolution o := by
    rw [State.pulseTurning, show s.pulsed.dmc.revolution = some o from isOpen]
  rw [made, closes, s.closeRevolution_of_unscored o no room unscored]

/-- The first pulse of STARTING, where it does not complete PREP. -/
theorem State.pulse_of_starting (s : State) {d : Dir} (motion : s.dmc.motion = .starting d)
    (waits : ¬(s.csq.phase = .prep ∧ s.hsc.airflow = .proven)) :
    s.pulse = { s with
      dmc := { s.pulseOpens with motion := .run d, turning := true }
      hsc := { s.hsc with turning := true, pauseDue := none, spent := false }
      csq := { s.csq with revSeen := s.csq.revSeen || s.csq.phase == .prep } } := by
  rw [s.pulse_eq, State.pulseActs_starting (v := s.pulsed) (d := d) motion, State.pulseStarting]
  dsimp only
  by_cases prep : s.csq.phase = .prep
  · have seen : (s.csq.revSeen || s.csq.phase == .prep) = true := by simp [prep]
    rw [seen]
    exact (if_pos prep).trans (if_neg fun ⟨_, proven, _⟩ => waits ⟨prep, proven⟩)
  · have seen : (s.csq.revSeen || s.csq.phase == .prep) = s.csq.revSeen := by simp [prep]
    rw [seen]
    exact if_neg prep

/-- A pulse in a rest that has stood its 15 s is the fault; before that it is noted. -/
theorem State.pulse_of_resting (s : State) (rest : s.dmc.motion.isRest = true) : s.pulse =
    if s.dmc.restCheck = .awaitingPulse then
      State.takeFault { s.pulsed with dmc := { s.pulsed.dmc with restCheck := .reported } } .notStopping
    else s.pulsed := by
  rw [s.pulse_eq, State.pulseActs_resting (v := s.pulsed) rest]
  rfl

/-- The fault NOT_STOPPING at a pulse, with the stage tests judged afterwards: in FAULT there are none. -/
theorem State.pulse_notStopping (s : State) (rest : s.dmc.motion.isRest = true) (awaits : s.dmc.restCheck = .awaitingPulse) :
    (s.csq.phase ≠ .fault →
      s.pulse.settleTests.faulted .notStopping s.csq.phase ∧ s.pulse.settleTests.stopped)
      ∧ ∀ f ∈ s.csq.record.fault, s.csq.phase = .fault → s.pulse.settleTests.faultedAgain f := by
  let v : State := { s.pulsed with dmc := { s.pulsed.dmc with restCheck := .reported } }
  obtain ⟨enters, counts⟩ := v.takeFault_drum .notStopping (by decide)
  have settled (phase : (v.takeFault .notStopping).csq.phase = .fault) :
      s.pulse.settleTests = v.takeFault .notStopping := by
    rw [s.pulse_of_resting rest, if_pos awaits]
    exact State.settleTests_of_phase _ (by rw [phase]; decide)
  refine ⟨fun outside => ?_, fun f recorded fault => ?_⟩
  · obtain ⟨faulted, stopped⟩ := enters outside
    obtain ⟨⟨phase, -⟩, -⟩ := id faulted
    rw [settled phase]
    exact ⟨faulted, stopped⟩
  · obtain ⟨again, -⟩ := counts f recorded fault
    obtain ⟨phase, -⟩ := id again
    rw [settled phase]
    exact again

/-- Settles O14, by the pulse in each motion state. -/
theorem revolutionPulse : Obligations.RevolutionPulse := by
  unfold Obligations.RevolutionPulse
  intro s on no p turns
  have noted := State.reversesSafely_kept.pulse s
  have dmc : s.pulse.settleTests.dmc = s.pulse.dmc := by simp
  refine ⟨s.pulse.settleTests, s.event_on _ on, ?_, ?_, State.outerFrame_trans s.pulse_outer
    (State.carries_of_heats s.pulse.settleTests_heats).outer, fun idle => ?_, fun d motion waits => ?_,
    fun d o isOpen room motion => ?_, fun d motion off => ?_, fun rest => ?_⟩
  · rw [dmc, noted.lastPulse]; rfl
  · rw [dmc, noted.still]; rfl
  · have made : s.pulse = p := by rw [s.pulse_eq]; exact State.pulseActs_idle idle
    rw [made]; exact p.settleTests_judged
  · rw [s.pulse_of_starting motion waits]; exact State.settleTests_judged _
  · rw [s.pulse_of_closing no isOpen room motion]; exact State.settleTests_judged _
  · have made : s.pulse = { s with dmc := { s.pulseOpens with turning := true }, hsc := turns } := by
      rw [s.pulse_eq]; exact State.pulseActs_opposing motion off
    rw [made]; exact State.settleTests_judged _
  · have isRest : s.dmc.motion.isRest = true := by rcases rest with e | e | e <;> rw [e] <;> rfl
    split
    · next awaits => exact s.pulse_notStopping isRest awaits
    · next other => rw [s.pulse_of_resting isRest, if_neg other]; exact p.settleTests_judged

end Sys2Proof.Machine

-- ==== Proofs: the heater stages and the airflow ====
/-! PROOFS. The heat stage controller: its interlocks and caps kept by every step, the control period and the open-element
tests, the stage tests, the fan and the airflow, and what a phase change reports. -/

namespace Sys2Proof.Machine

/-! ### A heater that is interlocked and within its cap (R76, R82, R88) -/

/-- Every output is off, or no interlock holds and the outputs are within the cap. -/
def State.heatSafe (s : State) : Prop := s.heatOff ∨ s.interlocked = false ∧ s.withinCap

/-- The heater's part of the invariant. -/
structure State.heatKept (s : State) : Prop where
  safe : s.heatSafe
  idle : s.bootIdle

theorem State.stagesOn_of_heatOff {s : State} (off : s.heatOff) : s.stagesOn = 0 := by
  rw [s.stagesOn_countP, List.countP_eq_zero]
  intro n _
  rw [off n]
  decide

theorem State.withinCap_of_heatOff {s : State} (off : s.heatOff) : s.withinCap :=
  ⟨by rw [State.stagesOn_of_heatOff off]; exact Nat.zero_le _, fun n on => absurd ((off n).symm.trans on) Bool.false_ne_true⟩

theorem State.heatSafe_iff (s : State) : s.heatSafe ↔ s.heaterInterlocked ∧ s.withinCap := by
  constructor
  · rintro (off | ⟨free, within⟩)
    · exact ⟨fun ⟨n, on⟩ => absurd ((off n).symm.trans on) Bool.false_ne_true, State.withinCap_of_heatOff off⟩
    · exact ⟨fun _ => free, within⟩
  · rintro ⟨interlocked, within⟩
    by_cases h : ∃ n : StageNo, (s.stage n).on = true
    · exact .inr ⟨interlocked h, within⟩
    · exact .inl fun n => Bool.eq_false_of_not_eq_true fun on => h ⟨n, on⟩

theorem State.heatKept.within {s : State} (kept : s.heatKept) : s.withinCap := ((s.heatSafe_iff).mp kept.safe).2

theorem State.heatKept.off_of_interlocked {s : State} (kept : s.heatKept) (h : s.interlocked = true) : s.heatOff :=
  kept.safe.resolve_right fun ⟨free, _⟩ => Bool.false_ne_true (free.symm.trans h)

theorem State.heatKept.off_of_phase {s : State} (kept : s.heatKept) (h : s.csq.phase.mayHeat = false) : s.heatOff :=
  kept.off_of_interlocked (s.interlocked_of_phase h)

/-- In a phase other than IDLE and FAULT the part is ready. -/
theorem State.heatKept.ready {s : State} (kept : s.heatKept) (idle : s.csq.phase ≠ .idle) (fault : s.csq.phase ≠ .fault) :
    s.boot = .ready := by
  by_contra other
  exact (kept.idle other).elim idle fault

/-! ### What the cap and the interlocks see -/

/-- From `s` to `t` the phase stands, no stage has come on, and nothing that the cap is formed of has changed. -/
structure State.sameCap (s t : State) : Prop where
  on : ∀ n : StageNo, (t.stage n).on = true → (s.stage n).on = true
  openMark : ∀ n : StageNo, (t.stage n).openMark = (s.stage n).openMark
  inletCap : t.hsc.inletCap = s.hsc.inletCap
  tangleCap : t.hsc.tangleCap = s.hsc.tangleCap
  program : t.csq.program = s.csq.program
  blocks : t.sst.blocks = s.sst.blocks
  boot : t.boot = s.boot
  phase : t.csq.phase = s.csq.phase

/-- Nor has anything that the interlocks are formed of, but for what has ended. -/
structure State.sameHeat (s t : State) : Prop extends s.sameCap t where
  free : s.interlocked = false → t.interlocked = false

theorem State.available_congr {s t : State} (blocks : t.sst.blocks = s.sst.blocks) {n : StageNo}
    (openMark : (t.stage n).openMark = (s.stage n).openMark) : t.available n = s.available n := by
  rw [State.available, State.available, State.stageEnabled, State.stageEnabled, State.setting, State.setting,
    State.word, State.word, blocks, openMark]

theorem State.sameCap.effectiveCap {s t : State} (h : s.sameCap t) : t.effectiveCap = s.effectiveCap := by
  simp only [State.effectiveCap, State.maxStages, State.nAvailable, h.program, h.inletCap, h.tangleCap,
    State.available_congr h.blocks (h.openMark _)]

theorem State.stagesOn_le {s t : State} (on : ∀ n : StageNo, (t.stage n).on = true → (s.stage n).on = true) :
    t.stagesOn ≤ s.stagesOn := by
  rw [s.stagesOn_countP, t.stagesOn_countP, (wearOrder_perm _).countP_eq, (wearOrder_perm _).countP_eq]
  exact List.countP_mono_left fun n _ => on n

theorem State.sameCap.withinCap {s t : State} (h : s.sameCap t) (within : s.withinCap) : t.withinCap := by
  obtain ⟨few, available⟩ := within
  refine ⟨h.effectiveCap ▸ Nat.le_trans (State.stagesOn_le h.on) few, fun n on => ?_⟩
  rw [State.available_congr h.blocks (h.openMark n)]
  exact available n (h.on n on)

theorem State.sameCap.bootIdle {s t : State} (h : s.sameCap t) (idle : s.bootIdle) : t.bootIdle := by
  unfold State.bootIdle
  rw [h.boot, h.phase]
  exact idle

theorem State.sameCap.heatOff {s t : State} (h : s.sameCap t) (off : s.heatOff) : t.heatOff := fun n =>
  Bool.eq_false_of_not_eq_true fun on => Bool.false_ne_true ((off n).symm.trans (h.on n on))

theorem State.heatKept.alike {s t : State} (kept : s.heatKept) (h : s.sameHeat t) : t.heatKept where
  safe := kept.safe.imp h.heatOff fun ⟨free, within⟩ => ⟨h.free free, h.withinCap within⟩
  idle := h.bootIdle kept.idle

theorem State.sameCap_refl (s : State) : s.sameCap s := ⟨fun _ => id, fun _ => rfl, rfl, rfl, rfl, rfl, rfl, rfl⟩

theorem State.sameCap_of_sheds {s t : State} (h : s.sheds t) : s.sameCap t := by
  refine ⟨h.on, h.openMark, ?_, ?_, ?_, ?_, ?_, ?_⟩ <;> rw [h.frame]

theorem State.sameHeat_of_sheds {s t : State} (h : s.sheds t) : s.sameHeat t :=
  ⟨State.sameCap_of_sheds h, fun free => by rw [h.frame]; exact free⟩

/-- The heater stands, and so does all else that its interlocks and its cap are formed of. -/
theorem State.sameHeat_of_hsc {s t : State} (hsc : t.hsc = s.hsc) (program : t.csq.program = s.csq.program)
    (blocks : t.sst.blocks = s.sst.blocks) (boot : t.boot = s.boot) (phase : t.csq.phase = s.csq.phase)
    (pins : t.pins = s.pins) (mfe : t.mfe = s.mfe) : s.sameHeat t where
  on n := by rw [State.stage_congr hsc]; exact id
  openMark n := by rw [State.stage_congr hsc]
  inletCap := by rw [hsc]
  tangleCap := by rw [hsc]
  program := program
  blocks := blocks
  boot := boot
  phase := phase
  free := by simp only [State.interlocked, State.pauseInterlock, hsc, phase, pins, mfe]; exact id

/-- What the interlocks hold is shed. -/
theorem State.enforce_heatKept {s : State} (within : s.withinCap) (idle : s.bootIdle) : s.enforce.heatKept where
  safe := by
    cases h : s.interlocked with
    | true => exact .inl (s.enforce_heatOff h)
    | false =>
      have same : s.enforce = s := by rw [State.enforce, h]; rfl
      rw [same]; exact .inr ⟨h, within⟩
  idle := (State.sameCap_of_sheds s.enforce_sheds).bootIdle idle

/-- What is above the cap is shed. -/
theorem State.shedToCap_heatKept {s : State} (free : s.heatOff ∨ s.interlocked = false)
    (available : ∀ n : StageNo, (s.stage n).on = true → s.available n = true) (idle : s.bootIdle) : s.shedToCap.heatKept where
  safe := by
    have sheds := State.sameHeat_of_sheds s.shedToCap_sheds
    refine free.imp sheds.heatOff fun free => ⟨sheds.free free, s.shedToCap_within, fun n on => ?_⟩
    rw [State.available_congr sheds.blocks (sheds.openMark n)]
    exact available n (sheds.on n on)
  idle := (State.sameCap_of_sheds s.shedToCap_sheds).bootIdle idle

theorem State.heatKept.enforced {s t : State} (kept : s.heatKept) (h : s.sameCap t) : t.enforce.heatKept :=
  State.enforce_heatKept (h.withinCap kept.within) (h.bootIdle kept.idle)

theorem State.openMark_stageOn (s : State) (n m : StageNo) : ((s.stageOn n).stage m).openMark = (s.stage m).openMark := by
  rw [s.stage_stageOn]
  split
  · next e => rw [e]
  · rfl

theorem State.effectiveCap_stageOn (s : State) (n : StageNo) : (s.stageOn n).effectiveCap = s.effectiveCap :=
  State.effectiveCap_congr rfl rfl (s.openMark_stageOn n) rfl rfl

theorem State.stagesOn_stageOn (s : State) (n : StageNo) : (s.stageOn n).stagesOn ≤ s.stagesOn + 1 := by
  have off := (s.stageOn n).stagesOn_stageOff n
  have fewer : ((s.stageOn n).stageOff n).stagesOn ≤ s.stagesOn := State.stagesOn_le fun m on => by
    rw [State.on_stageOff, s.stage_stageOn] at on
    split at on
    · next e => simp [e] at on
    · simpa using (Bool.and_eq_true_iff.mp on).1
  omega

/-- One output more comes on: the stage is available, no interlock holds, and there is room under the cap. -/
theorem State.heatKept.stageOn {s : State} {n : StageNo} (kept : s.heatKept) (available : s.available n = true)
    (free : s.interlocked = false) (room : s.stagesOn < s.effectiveCap) : (s.stageOn n).heatKept where
  safe := by
    have few := s.stagesOn_stageOn n
    refine .inr ⟨free, by rw [s.effectiveCap_stageOn n]; omega, fun m on => ?_⟩
    rw [State.available_congr (s := s) (t := s.stageOn n) rfl (s.openMark_stageOn n m)]
    rw [s.stage_stageOn] at on
    split at on
    · next e => rw [e]; exact available
    · exact kept.within.2 m on
  idle := kept.idle

theorem State.heatKept.settleTests {s : State} (kept : s.heatKept) : s.settleTests.heatKept := by
  rcases s.settleTests_cases with same | ⟨n, -, may, on⟩
  · rw [same]; exact kept
  · obtain ⟨⟨-, -, available, -⟩, -, free, -, room⟩ := (testMayStart_iff s n).mp may
    rw [on]; exact kept.stageOn available free room

/-! ### The drum's reports to the heater (R50, R70, R84, R89) -/

section Reports

variable {s : State} (kept : s.heatKept)

include kept

theorem State.heatKept.heatTurningEnds : s.heatTurningEnds.heatKept := by
  unfold State.heatTurningEnds
  dsimp only
  split
  · exact kept.enforced ⟨fun _ => id, fun _ => rfl, rfl, rfl, rfl, rfl, rfl, rfl⟩
  · exact kept.alike ⟨⟨fun _ => id, fun _ => rfl, rfl, rfl, rfl, rfl, rfl, rfl⟩, fun free => by
      simp_all [State.interlocked, State.pauseInterlock]⟩

theorem State.heatKept.heatTurningBegins : s.heatTurningBegins.heatKept :=
  kept.alike ⟨⟨fun _ => id, fun _ => rfl, rfl, rfl, rfl, rfl, rfl, rfl⟩, fun free => by
    simp_all [State.interlocked, State.pauseInterlock, State.heatTurningBegins]⟩

theorem State.heatKept.setTangleCap (flag : Bool) : (s.setTangleCap flag).heatKept :=
  State.shedToCap_heatKept (kept.safe.imp id And.left) kept.within.2 kept.idle

theorem State.heatKept.setInletCap (c : Nat) : (s.setInletCap c).heatKept :=
  State.shedToCap_heatKept (kept.safe.imp id And.left) kept.within.2 kept.idle

/-- Drum and tangle monitor alone have changed. -/
theorem State.heatKept.drum (d : Dmc) (t : Tgm) : State.heatKept { s with dmc := d, tgm := t } :=
  kept.alike (State.sameHeat_of_hsc rfl rfl rfl rfl rfl rfl rfl)

end Reports

/-! ### The drum's operations -/

section Drum

variable {s : State} (kept : s.heatKept)

include kept

theorem State.heatKept.refreshCapFlag : s.refreshCapFlag.heatKept := by
  unfold State.refreshCapFlag
  dsimp only
  split
  · exact kept
  · exact (kept.drum s.dmc _).setTangleCap _

theorem State.heatKept.clearTurning : s.clearTurning.heatKept := by
  unfold State.clearTurning
  split
  · exact (kept.drum _ s.tgm).heatTurningEnds
  · exact kept

/-- Turning begins, and a revolution opens. -/
theorem State.heatKept.turns (d : Dmc) : (State.openRevolution (State.setTurning { s with dmc := d })).heatKept :=
  State.heatKept.drum (State.heatKept.heatTurningBegins (kept.drum _ s.tgm)) _ s.tgm

theorem State.heatKept.burstEnded : s.burstEnded.heatKept := by
  unfold State.burstEnded
  split
  · exact (kept.drum s.dmc _).refreshCapFlag
  · exact kept

theorem State.heatKept.drumOff : s.drumOff.heatKept := by
  unfold State.drumOff
  dsimp only
  split
  · exact kept.drum _ s.tgm
  · exact kept

theorem State.heatKept.enterRest (m : Motion) (empty : Bool) : (s.enterRest m empty).heatKept :=
  (kept.drumOff.drum _ s.drumOff.tgm).clearTurning

theorem State.heatKept.restDrum : s.restDrum.heatKept := by
  unfold State.restDrum
  split
  · exact kept.drum _ s.tgm
  · exact kept.enterRest _ _

theorem State.heatKept.enterStarting (d : Dir) (v : Nat) : (s.enterStarting d v).heatKept := (kept.drum _ s.tgm).clearTurning

theorem State.heatKept.idleDrum : s.idleDrum.heatKept := (kept.drumOff.drum _ s.drumOff.tgm).clearTurning

theorem State.heatKept.actStep (c : CurrentStep) : (s.actStep c).heatKept := by
  have step (c : CurrentStep) (r : Option Nat) : (s.setStep c r).heatKept := kept.drum _ s.tgm
  unfold State.actStep
  split
  · exact (step _ _).restDrum
  · split
    · dsimp only
      split
      · exact (step _ _).drum _ s.tgm
      · exact (step _ _).enterStarting _ _
    · exact (step _ _).restDrum

theorem State.heatKept.beginStep (k : Nat) : (s.beginStep k).heatKept := by
  unfold State.beginStep
  split
  · exact kept
  · split
    · exact kept
    · exact (kept.drum _ s.tgm).actStep _

theorem State.heatKept.stepEnds : s.stepEnds.heatKept := by
  unfold State.stepEnds
  split
  · exact kept.beginStep _
  · exact kept.drum _ s.tgm

theorem State.heatKept.judgeGate : s.judgeGate.heatKept := by
  rcases s.judgeGate_cases with ⟨c, d, -, -, -, -, -, made⟩ | ⟨i, -, -, -, made⟩ | ⟨i, -, -, -, made⟩ | ⟨made, -⟩ <;> rw [made]
  · exact (kept.drum _ s.tgm).enterStarting _ _
  · exact kept.drum _ s.tgm
  · exact ((kept.drum _ s.tgm).enterStarting _ _).burstEnded
  · exact kept

end Drum

/-! ### The phase changes (R105, R107 to R110, R117, R122, R125) -/

/-- The heater as SERVICE is entered, before its interlocks are judged. -/
def State.serviceSet (s : State) : State :=
  { s with hsc := Hsc.enterService { s.hsc with periodDue := none } }

theorem State.followHeat_service (s : State) (left : Phase) :
    s.followHeat left .service = (s.serviceSet.enforce.followAirflow left .service).enforce := rfl

theorem State.serviceSet_stage (s : State) (n : StageNo) : s.serviceSet.stage n = { s.stage n with openMark := false } :=
  Quad.get_map ..

/-- A heater that is off stays off, whatever phase is entered. -/
theorem State.followHeat_heatOff_of_off {s : State} (left p : Phase) (off : s.heatOff) : (s.followHeat left p).heatOff := by
  by_cases service : p = .service
  · rw [service, s.followHeat_service]
    refine State.heatOff_of_onlyCools (State.onlyCools_enforce (State.onlyCools_trans
      (State.onlyCools_enforce (State.onlyCools_refl _)) (State.followAirflow_onlyCools ..))) fun n => ?_
    rw [s.serviceSet_stage]
    exact off n
  · exact State.heatOff_of_onlyCools (s.followHeat_onlyCools left p service) off

theorem State.changePhase_heatOff_of_off {s : State} (p : Phase) (c : Cause) (off : s.heatOff) : (s.changePhase p c).heatOff := by
  refine State.heatOff_of_hsc (s.changePhase_hsc p c) (State.followHeat_heatOff_of_off _ _ (State.heatOff_of_onlyCools ?_ off))
  exact State.onlyCools_trans (State.onlyCools_after (State.followDrum_onlyCools (s.afterFront p) s.csq.phase p) (by simp))
    (State.followTangle_onlyCools ..)

/-- A phase is entered in which no stage may be on, or none was on before; and a part that is not ready goes no further
than IDLE and FAULT. -/
theorem State.changePhase_heatKept {s : State} (p : Phase) (c : Cause) (cold : s.heatOff ∨ p.mayHeat = false)
    (idle : s.boot ≠ .ready → p = .idle ∨ p = .fault) : (s.changePhase p c).heatKept where
  safe := .inl (cold.elim (s.changePhase_heatOff_of_off p c) (s.changePhase_heatOff p c))
  idle := by
    unfold State.bootIdle
    rw [State.changePhase_csq, (by simp : (s.changePhase p c).boot = s.boot)]
    exact idle

/-- No stage is on, and none has come on. -/
theorem State.heatKept_of_off {s : State} (off : s.heatOff) (idle : s.bootIdle) : s.heatKept := ⟨.inl off, idle⟩

section Kept

variable {s : State} (kept : s.heatKept)

include kept

/-- The sequencer's own fields have changed, but for the phase and the program. -/
theorem State.heatKept.sequencer {c : Csq} (phase : c.phase = s.csq.phase) (program : c.program = s.csq.program) :
    State.heatKept { s with csq := c } :=
  kept.alike (State.sameHeat_of_hsc rfl program rfl rfl phase rfl rfl)

theorem State.heatKept.notifyBoth (n : Notice) : (s.notifyBoth n).heatKept :=
  kept.alike (State.sameHeat_of_hsc (by simp) (by simp) (by simp) (by simp) (by simp) (by simp) (by simp))

theorem State.heatKept.modLink (l : Link) (f : LinkState → LinkState) : (s.modLink l f).heatKept :=
  kept.alike (State.sameHeat_of_hsc (by simp) (by simp) (by simp) (by simp) (by simp) (by simp) (by simp))

theorem State.heatKept.answerStatus (l : Link) (k : Byte) (st : Status) : (s.answerStatus l k st).heatKept :=
  kept.alike (State.sameHeat_of_hsc (by simp) (by simp) (by simp) (by simp) (by simp) (by simp) (by simp))

theorem State.heatKept.offerRecord (r : Record) : (s.offerRecord r).heatKept :=
  kept.alike (State.sameHeat_of_hsc (by simp) (by simp) (by simp) (by simp) (by simp) (by simp) (by simp))

/-- The same phase stands, in which no stage may be on, and none has come on. -/
theorem State.heatKept.stillOff {t : State} (cold : s.csq.phase.mayHeat = false) (cools : s.onlyCools t)
    (boot : t.boot = s.boot) (phase : t.csq.phase = s.csq.phase) : t.heatKept := by
  refine State.heatKept_of_off (State.heatOff_of_onlyCools cools (kept.off_of_phase cold)) ?_
  unfold State.bootIdle
  rw [boot, phase]
  exact kept.idle

end Kept

/-! ### Faults (R117 to R119) -/

theorem State.heatKept.countFault {s : State} (kept : s.heatKept) : s.countFault.heatKept := by
  unfold State.countFault
  split
  · exact kept
  · refine State.heatKept.notifyBoth ?_ _
    exact kept.sequencer rfl rfl

theorem State.heatKept.driveInFault {s : State} (kept : s.heatKept) (before : Motion) : (s.driveInFault before).heatKept := by
  unfold State.driveInFault
  split
  · exact kept.countFault
  · exact kept

theorem State.enterFault_heatKept (s : State) (k : FaultKind) : (s.enterFault k).heatKept := by
  rw [s.enterFault_eq]
  exact ((State.changePhase_heatKept .fault .fault (.inr rfl) fun _ => .inr rfl).notifyBoth _).driveInFault _

section Kept

variable {s : State} (kept : s.heatKept)

include kept

theorem State.heatKept.replaceFault (f : FaultRecord) (fault : s.csq.phase = .fault) : (s.replaceFault f).heatKept := by
  unfold State.replaceFault
  dsimp only
  refine State.heatKept.driveInFault (State.heatKept.notifyBoth ?_ _) _
  refine kept.stillOff (by rw [fault]; rfl) (State.onlyCools_trans ?_ (State.followFan_onlyCools ..)) (by simp [State.modRecord])
    (by simp [State.modRecord])
  exact State.onlyCools_after (State.motionDemand_onlyCools ..) rfl

theorem State.heatKept.takeFault (k : FaultKind) : (s.takeFault k).heatKept := by
  unfold State.takeFault State.faultInFault
  split
  · next fault =>
    split
    · exact kept
    · split
      · exact kept.replaceFault _ fault
      · exact kept.countFault
  · exact s.enterFault_heatKept k

theorem State.heatKept.faultIf (c : Bool) (k : FaultKind) : (s.faultIf c k).heatKept := by
  unfold State.faultIf
  split
  · exact kept.takeFault k
  · exact kept

/-! ### The ends of the phases (R105 to R108, R112) -/

theorem State.heatKept.endDrying (r : EndReason) : (s.endDrying r).heatKept := by
  unfold State.endDrying
  split
  · next drying =>
    exact State.changePhase_heatKept _ _ (.inr rfl) fun other =>
      absurd (kept.ready (by rw [drying]; decide) (by rw [drying]; decide)) other
  · exact kept

theorem State.heatKept.declareDry : s.declareDry.heatKept := by
  unfold State.declareDry
  split
  · exact (kept.notifyBoth _).endDrying _
  · exact kept

theorem State.heatKept.checkHeat : s.checkHeat.heatKept := by
  unfold State.checkHeat
  split
  · exact kept.endDrying _
  · exact kept

end Kept

theorem State.enterDone_heatKept {s : State} (c : Cause) (ready : s.boot = .ready) : (s.enterDone c).heatKept :=
  State.changePhase_heatKept .done c (.inr rfl) fun other => absurd ready other

theorem State.endCooling_heatKept {s : State} (c : Cause) (ready : s.boot = .ready) : (s.endCooling c).heatKept := by
  unfold State.endCooling
  split
  · exact State.changePhase_heatKept .guard c (.inr rfl) fun other => absurd ready other
  · exact State.enterDone_heatKept c ready

theorem State.enterHold_heatKept {s : State} (r : HoldReason) (ready : s.boot = .ready) : (s.enterHold r).heatKept := by
  refine State.heatKept.notifyBoth ?_ _
  exact State.changePhase_heatKept .hold _ (.inr rfl) fun other => absurd ready other

section Kept

variable {s : State} (kept : s.heatKept)

include kept

theorem State.heatKept.abortCycle (r : EndReason) : (s.abortCycle r).heatKept := by
  have ends (idle : s.csq.phase ≠ .idle) (fault : s.csq.phase ≠ .fault) : (s.endCycle r).heatKept :=
    State.enterDone_heatKept (s := s.setEnd r) _ (kept.ready idle fault)
  unfold State.abortCycle
  split
  · exact kept.endDrying r
  · next e => exact ends (by rw [e]; decide) (by rw [e]; decide)
  · next e => exact ends (by rw [e]; decide) (by rw [e]; decide)
  · next e => exact ends (by rw [e]; decide) (by rw [e]; decide)
  · next e => exact ends (by rw [e]; decide) (by rw [e]; decide)
  all_goals exact kept

/-! ### HOLD (R107, R110) -/

theorem State.heatKept.joinHold (r : HoldReason) : (s.joinHold r).heatKept := by
  unfold State.joinHold
  split
  · exact kept
  · refine State.heatKept.notifyBoth ?_ _
    exact kept.sequencer rfl rfl

theorem State.heatKept.takeHoldCause (r : HoldReason) : (s.takeHoldCause r).heatKept := by
  unfold State.takeHoldCause
  split
  · next e => exact State.enterHold_heatKept r (kept.ready (by rw [e]; decide) (by rw [e]; decide))
  · next e => exact State.enterHold_heatKept r (kept.ready (by rw [e]; decide) (by rw [e]; decide))
  · next e => exact State.enterHold_heatKept r (kept.ready (by rw [e]; decide) (by rw [e]; decide))
  · exact kept.joinHold r
  · next e =>
    split
    · exact kept
    · exact State.enterDone_heatKept _ (kept.ready (by rw [e]; decide) (by rw [e]; decide))
  all_goals exact kept

/-! ### PREP and START (R103 to R105) -/

theorem State.heatKept.completePrep (prep : s.csq.phase = .prep) : s.completePrep.heatKept := by
  unfold State.completePrep
  split
  · exact kept
  · next target _ =>
    have entered : (State.changePhase { s with csq := s.csq.prepDone } target .prepComplete).heatKept :=
      State.changePhase_heatKept target _ (.inl (kept.off_of_phase (by rw [prep]; rfl))) fun other =>
        absurd (kept.ready (by rw [prep]; decide) (by rw [prep]; decide)) other
    dsimp only
    split
    · exact entered.endDrying _
    · exact entered.checkHeat

theorem State.heatKept.judgePrep : s.judgePrep.heatKept := by
  unfold State.judgePrep
  split
  · next h => exact kept.completePrep h.1
  · exact kept

end Kept

theorem State.enterPrep_heatKept {s : State} (target : Phase) (c : Cause) (ready : s.boot = .ready) :
    (s.enterPrep target c).heatKept := by
  unfold State.enterPrep
  dsimp only
  refine State.heatKept.judgePrep (State.heatKept.faultIf (State.heatKept.faultIf (State.heatKept.faultIf ?_ _ _) _ _) _ _)
  exact State.changePhase_heatKept .prep c (.inr rfl) fun other => absurd ready other

theorem State.beginCycle_heatKept {s : State} (number : Nat) (ready : s.boot = .ready) : (s.beginCycle number).heatKept := by
  unfold State.beginCycle
  dsimp only
  exact State.enterPrep_heatKept _ _ (by simpa using ready)

/-! ### The watch units and the window's values (R36, R136 to R138) -/

/-- A relation from the invariant before to the invariant after. -/
def State.keepsHeat (s t : State) : Prop := s.heatKept → t.heatKept

theorem State.keepsHeat_byWatches : KeptByWatches State.keepsHeat where
  refl _ := id
  trans h h' := h' ∘ h
  judged _ _ _ _ kept := kept.alike (State.sameHeat_of_hsc rfl rfl rfl rfl rfl rfl rfl)
  recorded _ _ _ _ _ kept :=
    kept.alike (State.sameHeat_of_hsc (by simp) (by simp) (by simp) (by simp) (by simp) (by simp) (by simp))
  told _ _ _ _ kept :=
    kept.alike (State.sameHeat_of_hsc (by simp) (by simp) (by simp) (by simp) (by simp) (by simp) (by simp))

theorem State.keepsHeat_offerValue (s : State) (q : Quantity) (v : Int) : s.keepsHeat (s.offerValue q v) :=
  foldl_rel (R := State.keepsHeat) (fun _ => id) (fun _ _ _ h h' => h' ∘ h)
    (fun s w => s.offerTo_kept State.keepsHeat_byWatches q v w fun _ _ kept => State.heatKept.takeHoldCause kept .watch) four s

theorem State.heatKept.offerValue {s : State} (kept : s.heatKept) (q : Quantity) (v : Int) : (s.offerValue q v).heatKept :=
  s.keepsHeat_offerValue q v kept

section Kept

variable {s : State} (kept : s.heatKept)

include kept

theorem State.heatKept.endWindow (w : Window) : (s.endWindow w).heatKept := by
  have told : (s.windowTold w).heatKept := by
    refine State.heatKept.offerRecord ?_ _
    exact kept.alike (State.sameHeat_of_hsc rfl rfl rfl rfl rfl rfl rfl)
  have taken : (s.windowTaken w).heatKept := by
    unfold State.windowTaken
    split
    · exact told.declareDry
    · exact told
  have seen : (s.windowSeen w).heatKept :=
    State.offerWindow_rel (R := State.keepsHeat) (fun _ _ _ h h' => h' ∘ h) State.keepsHeat_offerValue _ _ _ _ taken
  rw [s.endWindow_eq, State.nextWindow]
  split
  · exact seen.alike (State.sameHeat_of_hsc (by simp) (by simp) (by simp) (by simp) (by simp) (by simp) (by simp))
  · exact seen

theorem State.heatKept.windowEnds : s.windowEnds.heatKept := by
  unfold State.windowEnds
  split
  · exact kept
  · exact kept.endWindow _

theorem State.heatKept.dryingSecond : s.dryingSecond.heatKept := by
  unfold State.dryingSecond
  dsimp only
  refine State.heatKept.offerValue ?_ _ _
  exact kept.sequencer rfl rfl

/-! ### Conversions (R3, R83, R88, R90 to R93, R106) -/

theorem State.heatKept.housingCheck (v : Int) : (s.housingCheck v).heatKept := by
  rw [s.housingCheck_eq]
  split
  · refine State.heatKept.endDrying (State.heatKept.notifyBoth ?_ _) _
    exact kept.enforced ⟨fun _ => id, fun _ => rfl, rfl, rfl, rfl, rfl, rfl, rfl⟩
  · exact kept

theorem State.heatKept.updateInletCap : s.updateInletCap.heatKept := kept.setInletCap _

theorem State.heatKept.heatTemperature_tIn (j : Judged) : (s.heatTemperature .tIn j).heatKept := by
  have seen : (s.inletSeen j).heatKept := by
    unfold State.inletSeen
    split
    · exact kept.setInletCap 2
    · exact kept
  rw [s.heatTemperature_tIn]
  split
  · exact seen.updateInletCap
  · exact seen

theorem State.heatKept.cycleTemperature (ch : Channel) (j : Judged) : (s.cycleTemperature ch j).heatKept := by
  unfold State.cycleTemperature
  dsimp only
  split
  · next cools =>
    refine State.endCooling_heatKept _ ((kept.faultIf _ _).ready ?_ ?_) <;> rw [cools.1] <;> decide
  · exact kept.faultIf _ _

theorem State.heatKept.offerTemperature (ch : Channel) (j : Judged) : (s.offerTemperature ch j).heatKept := by
  unfold State.offerTemperature
  split
  · exact kept.offerValue _ _
  · exact kept

end Kept

/-! ### Conversions, told to the heater (R3, R5, R88, R98) -/

/-- Of the front end, no channel but that of the inlet air has been diagnosed. -/
theorem State.sameHeat_of_diag {s t : State} (hsc : t.hsc = s.hsc) (csq : t.csq = s.csq) (sst : t.sst.blocks = s.sst.blocks)
    (boot : t.boot = s.boot) (pins : t.pins = s.pins)
    (diag : ∀ c, c ≠ .tIn → (t.mfe.channel c).diag = true → (s.mfe.channel c).diag = true) : s.sameHeat t where
  on n := by rw [State.stage_congr hsc]; exact id
  openMark n := by rw [State.stage_congr hsc]
  inletCap := by rw [hsc]
  tangleCap := by rw [hsc]
  program := by rw [csq]
  blocks := sst
  boot := boot
  phase := by rw [csq]
  free := by
    have tExh := diag .tExh (by decide)
    have tHsg := diag .tHsg (by decide)
    simp only [Mfe.channel] at tExh tHsg
    simp only [State.interlocked, State.pauseInterlock, hsc, csq, pins, Bool.or_eq_false_iff]
    grind

theorem Mfe.diag_mapFreshnessOf (m : Mfe) (l : Link) (f : Freshness → Freshness) (cs : List Channel) (c : Channel) :
    ((m.mapFreshnessOf l f cs).channel c).diag = (m.channel c).diag :=
  foldl_rel (R := fun m m' : Mfe => (m'.channel c).diag = (m.channel c).diag) (fun _ => rfl) (fun _ _ _ h h' => h'.trans h)
    (fun m d => by cases d <;> cases l <;> cases c <;> rfl) cs m

theorem State.told_diag (s : State) (ch : Channel) (code : Code) (c : Channel) :
    ((s.told ch code).mfe.channel c).diag = if c = ch then (s.newReading ch code).diag else (s.mfe.channel c).diag := by
  obtain ⟨-, -, -, diag, -⟩ := (ChannelState.sameReading_iff _ _).mp ((s.readOf ch code).roundMade_reading [ch] c)
  rw [s.told_mfe, State.readingMade, diag, s.readOf_channel]
  split <;> rfl

/-- The reading alone has changed, and its interlock has not arisen. -/
theorem State.told_sameHeat (s : State) (ch : Channel) (code : Code)
    (stands : ch ≠ .tIn → (s.newReading ch code).diag = true → (s.mfe.channel ch).diag = true) : s.sameHeat (s.told ch code) := by
  refine State.sameHeat_of_diag (by simp) (by simp) (by simp) (by simp) (by simp) fun c other => ?_
  rw [s.told_diag]
  split
  · next same => rw [same] at other ⊢; exact stands other
  · exact id

theorem State.told_sameCap (s : State) (ch : Channel) (code : Code) : s.sameCap (s.told ch code) := by
  have stage (n : StageNo) : (s.told ch code).stage n = s.stage n := State.stage_congr (by simp) n
  exact ⟨fun n => by rw [stage]; exact id, fun n => by rw [stage], by simp, by simp, by simp, by simp, by simp, by simp⟩

section Kept

variable {s : State} (kept : s.heatKept)

include kept

theorem State.heatKept.heatTemperature (ch : Channel) (j : Judged) : (s.heatTemperature ch j).heatKept := by
  have sheds : (if j.entered then s.enforce else s).heatKept := by
    split
    · exact kept.enforced s.sameCap_refl
    · exact kept
  cases ch with
  | tIn => exact kept.heatTemperature_tIn j
  | tExh => exact sheds
  | tHsg =>
    unfold State.heatTemperature
    dsimp only
    split
    · exact sheds.housingCheck _
    · exact sheds
  | iHeat | g | iMot => exact kept

/-- A temperature that stands undiagnosed, or is not for the heater's interlocks, goes its way. -/
theorem State.heatKept.reaction (ch : Channel) (j : Judged) : (s.reaction ch j).heatKept :=
  ((kept.heatTemperature ch j).cycleTemperature ch j).settleTests

/-- A temperature that its conversion has diagnosed: nothing is offered, and the interlock sheds (R7, R88). -/
theorem State.heatKept.losesReading {t : State} (cap : s.sameCap t) {ch : Channel} {j : Judged} (entered : j.entered = true)
    (status : j.status = .diag) (interlock : ch = .tExh ∨ ch = .tHsg) :
    ((t.offerTemperature ch j).reaction ch j).heatKept := by
  have unoffered : t.offerTemperature ch j = t := by
    unfold State.offerTemperature
    rw [status]
    split <;> trivial
  have shed : (t.heatTemperature ch j).heatKept := by
    have made : t.heatTemperature ch j = t.enforce := by
      rcases interlock with rfl | rfl <;> simp [State.heatTemperature, entered, status]
    rw [made]
    exact kept.enforced cap
  rw [unoffered]
  exact (shed.cycleTemperature ch j).settleTests

theorem State.heatKept.convertTemperature (ch : Channel) (code : Code) (temp : ch = .tIn ∨ ch = .tExh ∨ ch = .tHsg) :
    (s.convert ch code).heatKept := by
  have entered := (s.mfe.channel ch).judge_entered code (s.temperature ch code) s.refTime
  have reading : s.newReading ch code = (s.judged ch code).channel := by rcases temp with rfl | rfl | rfl <;> rfl
  rw [s.convert_temperature ch code temp]
  by_cases lost : (s.judged ch code).entered = true ∧ ch ≠ .tIn
  · obtain ⟨enters, other⟩ := lost
    exact kept.losesReading (s.told_sameCap ch code) enters
      ((s.mfe.channel ch).judge_status_of_entered _ _ _ enters) (temp.resolve_left other)
  · refine State.heatKept.reaction (State.heatKept.offerTemperature (kept.alike (s.told_sameHeat ch code fun other diag => ?_)) _ _) _ _
    by_contra before
    rw [reading] at diag
    exact lost ⟨entered.mpr ⟨Bool.eq_false_of_not_eq_true before, diag⟩, other⟩

/-- A conversion of a current or of the bar diagnoses nothing. -/
theorem State.heatKept.toldPlain (ch : Channel) (code : Code) (plain : ch = .iHeat ∨ ch = .g ∨ ch = .iMot) :
    (s.told ch code).heatKept :=
  kept.alike (s.told_sameHeat ch code fun _ => by rcases plain with rfl | rfl | rfl <;> exact id)

/-! ### Element supervision (R90 to R92) -/

end Kept

/-- The state as the cap is about to be formed: no stage is on under an interlock, or while it is not available. -/
structure State.uncapped (s : State) : Prop where
  free : s.heatOff ∨ s.interlocked = false
  available : ∀ n : StageNo, (s.stage n).on = true → s.available n = true
  idle : s.bootIdle

theorem State.heatKept.uncapped {s : State} (kept : s.heatKept) : s.uncapped :=
  ⟨kept.safe.imp id And.left, kept.within.2, kept.idle⟩

theorem State.uncapped.capped {s : State} (h : s.uncapped) : s.shedToCap.heatKept :=
  State.shedToCap_heatKept h.free h.available h.idle

/-- What is left on is as available as before, and no interlock has arisen. -/
theorem State.uncapped.leaves {s t : State} (h : s.uncapped)
    (on : ∀ n : StageNo, (t.stage n).on = true → (s.stage n).on = true ∧ (t.stage n).openMark = (s.stage n).openMark)
    (free : s.interlocked = false → t.interlocked = false) (blocks : t.sst.blocks = s.sst.blocks) (boot : t.boot = s.boot)
    (phase : t.csq.phase = s.csq.phase) : t.uncapped where
  free := h.free.imp (fun off n => Bool.eq_false_of_not_eq_true fun isOn =>
    Bool.false_ne_true ((off n).symm.trans (on n isOn).1)) free
  available n isOn := by
    rw [State.available_congr blocks (on n isOn).2]
    exact h.available n (on n isOn).1
  idle := by
    unfold State.bootIdle
    rw [boot, phase]
    exact h.idle

/-- The test of a stage has a reading after that passes. -/
def State.testPassed (s : State) (n : StageNo) : Prop :=
  ∃ x after, (s.stage n).test = some x ∧ x.after = some after ∧ ((s.expectedCurrent n / 2 : Nat) : Int) ≤ after - x.baseline

/-- The test of a stage has a reading after that fails. -/
def State.testFailed (s : State) (n : StageNo) : Prop :=
  ∃ x after, (s.stage n).test = some x ∧ x.after = some after ∧ ¬((s.expectedCurrent n / 2 : Nat) : Int) ≤ after - x.baseline

/-- The stage marked OPEN, its output off (R91). -/
def State.marksOpen (s : State) (n : StageNo) : State :=
  (s.setStage n { s.stage n with test := none, openMark := true }).stageOff n

theorem State.judgeTest_of_passed {s : State} {n : StageNo} (passed : s.testPassed n) :
    s.judgeTest n = s.setStage n { s.stage n with test := none } := by
  obtain ⟨x, after, test, read, passes⟩ := passed
  rw [State.judgeTest, test]
  simp only [read]
  exact if_pos passes

theorem State.judgeTest_of_failed {s : State} {n : StageNo} (failed : s.testFailed n) :
    s.judgeTest n = (s.marksOpen n).notifyBoth (.stage (n.val + 1) false 0) := by
  obtain ⟨x, after, test, read, fails⟩ := failed
  rw [State.judgeTest, test]
  simp only [read]
  exact if_neg fails

/-- R91: an unread test waits, a passed one goes, and a failed one marks its stage OPEN. -/
theorem State.judgeTest_cases (s : State) (n : StageNo) :
    s.judgeTest n = s ∨ s.testPassed n ∨ s.testFailed n := by
  cases test : (s.stage n).test with
  | none => exact .inl (s.judgeTest_of_none n test)
  | some x =>
    cases read : x.after with
    | none => left; rw [State.judgeTest, test]; simp only [read]
    | some after =>
      right
      by_cases passes : ((s.expectedCurrent n / 2 : Nat) : Int) ≤ after - x.baseline
      · exact .inl ⟨x, after, test, read, passes⟩
      · exact .inr ⟨x, after, test, read, passes⟩

theorem State.uncapped.judgeTest {s : State} (h : s.uncapped) (n : StageNo) : (s.judgeTest n).uncapped := by
  rcases s.judgeTest_cases n with same | passed | failed
  · rw [same]; exact h
  · rw [State.judgeTest_of_passed passed]
    refine h.leaves (fun m on => ?_) id rfl rfl rfl
    by_cases e : m = n
    · subst e; rw [State.stage_setStage_same] at on ⊢; exact ⟨on, rfl⟩
    · rw [State.stage_setStage_other _ _ _ _ e] at on ⊢; exact ⟨on, rfl⟩
  · have sheds := State.stageOff_sheds (s.setStage n { s.stage n with test := none, openMark := true }) n
    have free := (State.sameHeat_of_sheds sheds).free
    have marked : (s.marksOpen n).uncapped := by
      refine h.leaves (fun m on => ?_) free (State.sameCap_of_sheds sheds).blocks (State.sameCap_of_sheds sheds).boot
        (State.sameCap_of_sheds sheds).phase
      rw [State.marksOpen, State.on_stageOff, Bool.and_eq_true, Bool.not_eq_true', beq_eq_false_iff_ne] at on
      rw [State.marksOpen, sheds.openMark m]
      rw [State.stage_setStage_other _ _ _ _ on.2] at on ⊢
      exact ⟨on.1, rfl⟩
    have told (m : StageNo) : ((s.marksOpen n).notifyBoth (.stage (n.val + 1) false 0)).stage m = (s.marksOpen n).stage m :=
      State.stage_congr (by simp) m
    rw [State.judgeTest_of_failed failed]
    exact marked.leaves (fun m on => by rw [told] at on ⊢; exact ⟨on, rfl⟩)
      (by simp [State.interlocked, State.pauseInterlock]) (by simp) (by simp) (by simp)

section Kept

variable {s : State} (kept : s.heatKept)

include kept

theorem State.heatKept.judgeTests : s.judgeTests.heatKept :=
  State.uncapped.capped (foldl_rel (R := fun s t : State => s.uncapped → t.uncapped) (fun _ => id) (fun _ _ _ h h' => h' ∘ h)
    (fun _ n h => State.uncapped.judgeTest h n) four s kept.uncapped)

theorem State.heatKept.recordAfter (v : Int) : (s.recordAfter v).heatKept := by
  have stage (n : StageNo) : (s.recordAfter v).stage n = (s.stage n).readAfter v := Quad.get_map ..
  refine kept.alike ⟨⟨fun n => ?_, fun n => ?_, rfl, rfl, rfl, rfl, rfl, rfl⟩, id⟩ <;> rw [stage, Stage.readAfter_eq]
  exact id

theorem State.heatKept.afterStuckCheck (v : Int) : (s.afterStuckCheck v).heatKept := by
  have armed (b : Bool) : State.heatKept { s with hsc := { s.hsc with stuckArmed := b } } :=
    kept.alike ⟨⟨fun _ => id, fun _ => rfl, rfl, rfl, rfl, rfl, rfl, rfl⟩, id⟩
  unfold State.afterStuckCheck
  split
  · exact kept
  split
  · exact armed false
  split
  · exact kept
  · exact armed true

theorem State.heatKept.heatCurrent (v : Int) : (s.heatCurrent v).heatKept := by
  have read : (s.heatRead v).heatKept := by
    unfold State.heatRead
    split
    · exact (kept.recordAfter v).judgeTests
    · exact kept.recordAfter v
  rw [s.heatCurrent_eq]
  split
  · exact (read.afterStuckCheck v).faultIf _ _
  · exact read

theorem State.heatKept.convert (ch : Channel) (code : Code) : (s.convert ch code).heatKept := by
  cases ch with
  | tIn => exact kept.convertTemperature .tIn code (.inl rfl)
  | tExh => exact kept.convertTemperature .tExh code (.inr (.inl rfl))
  | tHsg => exact kept.convertTemperature .tHsg code (.inr (.inr rfl))
  | iHeat => exact ((kept.toldPlain .iHeat code (.inl rfl)).heatCurrent _).settleTests
  | g => exact kept.toldPlain .g code (.inr (.inl rfl))
  | iMot => exact kept.toldPlain .iMot code (.inr (.inr rfl))

/-- The front end's schedule alone has changed. -/
theorem State.heatKept.scheduled (rotation : Channel) (slowDue : Option Nat) (startupDone : Nat) :
    (s.scheduled rotation slowDue startupDone).heatKept :=
  kept.alike (State.sameHeat_of_diag rfl rfl rfl rfl rfl fun c _ => by cases c <;> exact id)

theorem State.heatKept.fastConversion (bar motor : Code) : (s.fastConversion bar motor).heatKept := by
  refine kept.alike (State.sameHeat_of_diag (by simp) (by simp) (by simp) (by simp) (by simp) fun c _ => ?_)
  obtain ⟨-, -, -, diag, -⟩ := (ChannelState.sameReading_iff _ _).mp (s.fastConversion_reading bar motor c)
  rw [diag, s.fastRead_channel]
  split
  · next bar => rw [bar]; exact id
  split
  · next motor => rw [motor]; exact id
  · exact id

theorem State.heatKept.slowConversion (code : Code) : (s.slowConversion code).heatKept := by
  refine State.heatKept.convert ?_ _ code
  exact kept.scheduled _ _ s.mfe.startupDone

theorem State.heatKept.roundConversion (code : Code) : (s.roundConversion code).heatKept := by
  unfold State.roundConversion
  split
  · exact kept
  · exact kept.convert _ code

theorem State.heatKept.startupConversion (code : Code) : (s.startupConversion code).heatKept := by
  unfold State.startupConversion
  split
  · refine State.heatKept.convert ?_ _ code
    exact kept.scheduled s.mfe.rotation s.mfe.slowDue _
  · exact kept

/-! ### The control period (R79, R80, R83, R85, R86) -/

theorem State.heatKept.computeDemand : s.computeDemand.heatKept := by
  have windowed (v : State) (f : Window → Window) : v.sameHeat (v.modWindow f) :=
    State.sameHeat_of_hsc (by simp) (by simp) (by simp) (by simp) (by simp) (by simp) (by simp)
  unfold State.computeDemand
  dsimp only
  split
  · exact kept
  · refine State.heatKept.alike ?_ (windowed _ _)
    exact kept.alike ⟨⟨fun _ => id, fun _ => rfl, rfl, rfl, rfl, rfl, rfl, rfl⟩, id⟩

theorem State.heatKept.switchStages : s.switchStages.heatKept := by
  unfold State.switchStages
  dsimp only
  split
  · exact kept.alike (State.sameHeat_of_sheds (s.stagesOff_sheds _))
  split
  · next _ may =>
    split
    · next n found =>
      have here := List.find?_some found
      simp only [Bool.and_eq_true, Bool.not_eq_true'] at here may
      obtain ⟨room, free, -⟩ := may
      exact kept.stageOn here.1.1 (by simpa using free) (Nat.lt_of_lt_of_le room (Nat.min_le_right _ _))
    · exact kept
  · exact kept

theorem State.heatKept.heatPeriod : s.heatPeriod.heatKept := by
  have computed := kept.computeDemand.updateInletCap.switchStages
  unfold State.heatPeriod
  dsimp only
  split
  · exact computed.offerRecord _
  · exact (computed.offerRecord _).offerValue _ _

theorem State.heatKept.controlPeriod : s.controlPeriod.heatKept := by
  have next : State.heatKept { s with hsc := { s.hsc with periodDue := some (s.clock + 2000) } } :=
    kept.alike ⟨⟨fun _ => id, fun _ => rfl, rfl, rfl, rfl, rfl, rfl, rfl⟩, id⟩
  exact next.judgeTests.checkHeat.heatPeriod

end Kept

/-! ### Fan and airflow (R94 to R97), and the end of manual control (R125) -/

section Kept

variable {s : State} (kept : s.heatKept)

include kept

/-- The fan on takes no airflow state from PROVEN, so what no interlock held stays free. -/
theorem State.heatKept.fanOn : s.fanOn.heatKept :=
  kept.alike ⟨⟨fun _ => id, fun _ => rfl, rfl, rfl, rfl, rfl, rfl, rfl⟩, fun free => by
    simp_all [State.interlocked, State.pauseInterlock, State.fanOn]⟩

theorem State.heatKept.fanOff : s.fanOff.heatKept :=
  kept.enforced ⟨fun _ => id, fun _ => rfl, rfl, rfl, rfl, rfl, rfl, rfl⟩

theorem State.heatKept.fanDemandEnds : s.fanDemandEnds.heatKept := by
  unfold State.fanDemandEnds
  split
  · split
    · exact kept.alike ⟨⟨fun _ => id, fun _ => rfl, rfl, rfl, rfl, rfl, rfl, rfl⟩, id⟩
    · exact kept.fanOff
  · exact kept

theorem State.heatKept.airflowSwitch (closed : Bool) : (s.airflowSwitch closed).heatKept := by
  unfold State.airflowSwitch
  split
  · exact kept.alike ⟨⟨fun _ => id, fun _ => rfl, rfl, rfl, rfl, rfl, rfl, rfl⟩, fun free => by
      simp_all [State.interlocked, State.pauseInterlock]⟩
  · exact kept.enforced ⟨fun _ => id, fun _ => rfl, rfl, rfl, rfl, rfl, rfl, rfl⟩
  · exact kept.alike ⟨⟨fun _ => id, fun _ => rfl, rfl, rfl, rfl, rfl, rfl, rfl⟩, fun free => by
      simp_all [State.interlocked, State.pauseInterlock]⟩
  all_goals exact kept

theorem State.heatKept.airflowChanges (closed : Bool) : (s.airflowChanges closed).heatKept := by
  refine State.heatKept.settleTests (State.heatKept.judgePrep (State.heatKept.airflowSwitch ?_ closed))
  exact kept.alike ⟨⟨fun _ => id, fun _ => rfl, rfl, rfl, rfl, rfl, rfl, rfl⟩, id⟩

theorem State.heatKept.pauseExpires : s.pauseExpires.heatKept :=
  kept.enforced ⟨fun _ => id, fun _ => rfl, rfl, rfl, rfl, rfl, rfl, rfl⟩

theorem State.heatKept.proofExpires : s.proofExpires.heatKept := by
  refine State.heatKept.faultIf ?_ _ _
  exact kept.alike ⟨⟨fun _ => id, fun _ => rfl, rfl, rfl, rfl, rfl, rfl, rfl⟩, id⟩

theorem State.heatKept.graceExpires : s.graceExpires.heatKept := by
  refine State.heatKept.faultIf ?_ _ _
  exact kept.alike ⟨⟨fun _ => id, fun _ => rfl, rfl, rfl, rfl, rfl, rfl, rfl⟩, id⟩

theorem State.heatKept.stageOff (n : StageNo) : (s.stageOff n).heatKept :=
  kept.alike (State.sameHeat_of_sheds (s.stageOff_sheds n))

/-- Of one stage neither the output nor the mark has changed. -/
theorem State.heatKept.setStage (n : StageNo) (x : Stage) (on : x.on = (s.stage n).on)
    (openMark : x.openMark = (s.stage n).openMark) : (s.setStage n x).heatKept := by
  refine kept.alike ⟨⟨fun m => ?_, fun m => ?_, rfl, rfl, rfl, rfl, rfl, rfl⟩, id⟩
  all_goals
    by_cases e : m = n
    · subst e; rw [State.stage_setStage_same]; simp only [on, openMark, imp_self]
    · rw [State.stage_setStage_other _ _ _ _ e]
      try exact id

theorem State.heatKept.stageTestOff (n : StageNo) : (s.stageTestOff n).heatKept := by
  have ends := kept.setStage n { s.stage n with testDemand := false } rfl rfl
  unfold State.stageTestOff
  dsimp only
  split
  · exact ends.stageOff n
  · exact ends

theorem State.heatKept.countSecond (n : StageNo) : (s.countSecond n).heatKept := by
  have counted := kept.setStage n { s.stage n with
    onTime := satSucc 4294967295 (s.stage n).onTime, rem := (s.stage n).rem - 1000 } rfl rfl
  unfold State.countSecond
  dsimp only
  split
  · exact counted
  · exact counted.alike ⟨⟨fun _ => id, fun _ => rfl, rfl, rfl, rfl, rfl, rfl, rfl⟩, id⟩

end Kept

theorem State.release_heatKept (s : State) (c : Cause) : (s.release c).heatKept :=
  State.changePhase_heatKept .idle c (.inr rfl) fun _ => .inl rfl

section Kept

variable {s : State} (kept : s.heatKept)

include kept

/-! ### Pins (R88, R114, R117) -/

theorem State.heatKept.doorOpened : s.doorOpened.heatKept := by
  have shed : (State.enforce { s with pins := { s.pins with doorOpen := true } }).heatKept :=
    kept.enforced ⟨fun _ => id, fun _ => rfl, rfl, rfl, rfl, rfl, rfl, rfl⟩
  unfold State.doorOpened
  dsimp only
  generalize State.enforce { s with pins := { s.pins with doorOpen := true } } = v at shed
  split
  · exact shed.takeHoldCause _
  · exact shed.takeHoldCause _
  · exact shed.takeHoldCause _
  · exact shed.takeHoldCause _
  · exact shed.takeHoldCause _
  · exact State.changePhase_heatKept .idle _ (.inr rfl) fun _ => .inl rfl
  · refine State.heatKept.idleDrum ?_
    exact shed.sequencer rfl rfl
  all_goals exact shed

theorem State.heatKept.cutoffOpened : s.cutoffOpened.heatKept := by
  refine State.heatKept.takeFault ?_ _
  exact kept.enforced ⟨fun _ => id, fun _ => rfl, rfl, rfl, rfl, rfl, rfl, rfl⟩

/-- A pin has closed, or is none of the heater's. -/
theorem State.heatKept.pins (p : Pins) (door : p.doorOpen = true → s.pins.doorOpen = true)
    (cut : p.cutOpen = true → s.pins.cutOpen = true) : State.heatKept { s with pins := p } :=
  kept.alike ⟨⟨fun _ => id, fun _ => rfl, rfl, rfl, rfl, rfl, rfl, rfl⟩, fun free => by
    simp only [State.interlocked, State.pauseInterlock, Bool.or_eq_false_iff] at free ⊢
    grind⟩

/-! ### Service tests (R59, R98, R124) -/

theorem State.heatKept.setTimer (a : Actuator) (due : Option Nat) : State.heatKept { s with csq := s.csq.setTimer a due } :=
  kept.sequencer (by cases a <;> rfl) (by cases a <;> rfl)

theorem State.heatKept.testDemand {t : State} (a : Actuator) (demand speed : Nat) (made : s.testDemand a demand speed = some t) :
    t.heatKept := by
  have timer := kept.setTimer a (some (s.clock + 120000))
  unfold State.testDemand at made
  dsimp only at made
  generalize ({ s with csq := s.csq.setTimer a (some (s.clock + 120000)) } : State) = v at timer made
  cases a with
  | stage n =>
    dsimp only at made
    split at made
    · obtain rfl := Option.some.inj made
      exact (timer.stageTestOff n).settleTests
    · split at made
      · obtain rfl := Option.some.inj made
        refine State.heatKept.settleTests (timer.setStage n _ ?_ ?_) <;> rfl
      · exact absurd made nofun
  | fan =>
    obtain rfl := Option.some.inj made
    split
    · exact timer.fanDemandEnds
    · exact timer.fanOn
  | drum =>
    dsimp only at made
    split at made
    · obtain rfl := Option.some.inj made
      refine State.heatKept.faultIf (State.heatKept.restDrum ?_) _ _
      exact timer.drum _ v.tgm
    · split at made
      · exact absurd made nofun
      · obtain rfl := Option.some.inj made
        refine State.heatKept.faultIf (State.heatKept.actStep ?_ _) _ _
        exact timer.drum _ v.tgm

theorem State.heatKept.testTimerEnds (a : Actuator) : (s.testTimerEnds a).heatKept := by
  have timer := kept.setTimer a none
  unfold State.testTimerEnds
  dsimp only
  generalize ({ s with csq := s.csq.setTimer a none } : State) = v at timer
  cases a with
  | stage n => exact (timer.stageTestOff n).settleTests
  | fan => exact timer.fanDemandEnds
  | drum => exact timer.idleDrum

/-! ### The drum's own events (R44, R47 to R54, R56 to R58, R65 to R69) -/

theorem State.heatKept.becomeStill : s.becomeStill.heatKept := by
  have judged : (State.judgeGate { s with dmc := { s.dmc with still := true } }).heatKept :=
    State.heatKept.judgeGate (kept.drum _ s.tgm)
  cases waits : s.csq.pendingTake with
  | true =>
    rw [s.becomeStill_waiting waits]
    refine State.heatKept.answerStatus (State.heatKept.sequencer (s := s.stillJudged) judged ?_ ?_) _ _ _
    · simp
    · simp
  | false => rw [s.becomeStill_free waits]; exact judged

theorem State.heatKept.restMinimumPasses : s.restMinimumPasses.heatKept := State.heatKept.judgeGate (kept.drum _ s.tgm)

theorem State.heatKept.stallExpires : s.stallExpires.heatKept := State.heatKept.takeFault (kept.drum _ s.tgm) _

theorem State.heatKept.restCheckExpires : s.restCheckExpires.heatKept := by
  unfold State.restCheckExpires
  split
  · exact kept.drum _ s.tgm
  · exact State.heatKept.takeFault (kept.drum _ s.tgm) _

theorem State.heatKept.recheckExpires : s.recheckExpires.heatKept :=
  (State.heatKept.refreshCapFlag (kept.drum s.dmc _)).settleTests

theorem State.heatKept.ivfChanges (active : Bool) : (s.ivfChanges active).heatKept := by
  refine State.heatKept.faultIf ?_ _ _
  exact kept.pins _ id id

theorem State.heatKept.escalate (chain : Nat) : (s.escalate chain).heatKept :=
  (((State.heatKept.refreshCapFlag (kept.drum s.dmc _)).offerRecord _).notifyBoth _).takeHoldCause _

theorem State.heatKept.takeBurst {t : State} (taken : s.takeBurst = some t) : t.heatKept := by
  obtain ⟨d, c, r, k, -, -, -, -, rfl⟩ := State.takeBurst_cases taken
  have rests : ((s.interruptedBy d c r k).enterRest .restIn true).heatKept := State.heatKept.enterRest (kept.drum _ s.tgm) _ _
  exact rests.alike (State.sameHeat_of_hsc (by simp) (by simp) (by simp) (by simp) (by simp) (by simp) (by simp))

theorem State.heatKept.burstAccepted (before : State) (chain : Nat) : (s.burstAccepted before chain).heatKept := by
  refine State.heatKept.sequencer (State.heatKept.offerRecord (State.heatKept.refreshCapFlag ?_) _) rfl rfl
  exact kept.drum s.dmc _

theorem State.heatKept.actOnTangle : s.actOnTangle.heatKept := by
  unfold State.actOnTangle
  dsimp only
  split
  · split
    · next t taken => exact (kept.takeBurst taken).burstAccepted _ _
    · exact kept
  · exact kept.escalate _

theorem State.heatKept.scoreRevolution : s.scoreRevolution.heatKept := by
  have counts (n : Nat) : State.heatKept { s with tgm := { s.tgm with c := n } } := kept.drum s.dmc _
  unfold State.scoreRevolution
  split
  · dsimp only
    split
    · exact (counts _).actOnTangle
    · exact counts _
  · exact kept

theorem State.heatKept.pulseTurning : s.pulseTurning.heatKept := by
  unfold State.pulseTurning
  split
  · next o _ =>
    unfold State.closeRevolution
    dsimp only
    refine State.heatKept.scoreRevolution (State.heatKept.offerValue (State.heatKept.offerValue (State.heatKept.offerRecord ?_ _) _ _) _ _)
    exact kept.drum _ s.tgm
  · exact kept.drum _ s.tgm

theorem State.heatKept.pulseActs : s.pulseActs.heatKept := by
  unfold State.pulseActs
  split
  · exact kept
  · next d _ =>
    have runs : (State.openRevolution (State.setTurning { s with dmc := { s.dmc with motion := .run d } })).heatKept :=
      kept.turns _
    unfold State.pulseStarting
    dsimp only
    split
    · exact State.heatKept.judgePrep (runs.sequencer rfl rfl)
    · exact runs
  · exact kept.pulseTurning
  · split
    · exact kept.pulseTurning
    · exact kept.turns s.dmc
  all_goals
    unfold State.pulseResting
    split
    · exact State.heatKept.takeFault (kept.drum _ s.tgm) _
    · exact kept

theorem State.heatKept.pulse : s.pulse.heatKept := by
  rw [s.pulse_eq]
  exact State.heatKept.pulseActs (kept.drum _ s.tgm)

end Kept

/-! ### Requests (R103, R111, R115, R120, R123 to R125, R157) -/

theorem State.startRequest_heatKept {s : State} (kept : s.heatKept) (ready : s.boot = .ready) (l : Link) (p : Byte) :
    (s.startRequest l p).heatKept := by
  unfold State.startRequest
  dsimp only
  split
  · exact kept.answerStatus _ _ _
  · exact (State.beginCycle_heatKept _ ready).answerStatus _ _ _

section Kept

variable {s : State} (kept : s.heatKept)

include kept

theorem State.heatKept.pauseRequest (l : Link) : (s.pauseRequest l).heatKept := by
  unfold State.pauseRequest
  cases s.csq.phase with
  | prep | drying | cooling | hold => exact (kept.takeHoldCause _).answerStatus _ _ _
  | idle | guard | done | fault | service => exact kept.answerStatus _ _ _

theorem State.heatKept.resumeRequest (l : Link) : (s.resumeRequest l).heatKept := by
  unfold State.resumeRequest
  dsimp only
  split
  · exact kept.answerStatus _ _ _
  · next hold =>
    split
    · exact kept.answerStatus _ _ _
    · refine (State.enterPrep_heatKept _ _ (kept.ready ?_ ?_)).answerStatus _ _ _ <;> rw [not_not.mp hold] <;> decide

theorem State.heatKept.abortRequest (l : Link) : (s.abortRequest l).heatKept := by
  unfold State.abortRequest
  cases s.csq.phase with
  | drying | prep | cooling | guard | hold => exact (kept.abortCycle _).answerStatus _ _ _
  | idle | done | fault | service => exact kept.answerStatus _ _ _

theorem State.heatKept.advanceRequest (l : Link) : (s.advanceRequest l).heatKept := by
  unfold State.advanceRequest
  dsimp only
  split
  · exact kept.answerStatus _ _ _
  · split
    · exact (kept.endDrying _).answerStatus _ _ _
    · exact kept.answerStatus _ _ _

theorem State.heatKept.clearRequest (l : Link) : (s.clearRequest l).heatKept := by
  have clears : (s.changePhase .idle .clear).heatKept := State.changePhase_heatKept .idle _ (.inr rfl) fun _ => .inl rfl
  unfold State.clearRequest
  dsimp only
  split
  · exact clears.answerStatus _ _ _
  · split
    · exact clears.answerStatus _ _ _
    · exact kept.answerStatus _ _ _
  all_goals exact kept.answerStatus _ _ _

theorem State.heatKept.takeControlRequest (ready : s.boot = .ready) (l : Link) : (s.takeControlRequest l).heatKept := by
  unfold State.takeControlRequest
  dsimp only
  split
  · exact kept.answerStatus _ _ _
  split
  · exact kept.answerStatus _ _ _
  next idle =>
  have cold : s.heatOff := kept.off_of_phase (by rw [not_not.mp idle]; rfl)
  have takes : (State.changePhase { s with csq := { s.csq with owner := some .s, silenceDue := some (s.clock + 30000) } }
      .service .takeControl).heatKept :=
    State.changePhase_heatKept .service _ (.inl cold) fun other => absurd ready other
  split
  · exact takes.answerStatus _ _ _
  · refine State.heatKept.modLink ?_ _ _
    exact takes.sequencer rfl rfl

theorem State.heatKept.releaseControlRequest (l : Link) : (s.releaseControlRequest l).heatKept := by
  unfold State.releaseControlRequest
  dsimp only
  split
  · exact kept.answerStatus _ _ _
  · split
    · exact kept.answerStatus _ _ _
    · exact (s.release_heatKept _).answerStatus _ _ _

theorem State.heatKept.testRequest (l : Link) (a d v : Byte) : (s.testRequest l a d v).heatKept := by
  unfold State.testRequest
  dsimp only
  split
  · exact kept.answerStatus _ _ _
  split
  · exact kept.answerStatus _ _ _
  split
  · exact kept.answerStatus _ _ _
  split
  · split
    · exact kept.answerStatus _ _ _
    · next made => exact (kept.testDemand _ _ _ made).answerStatus _ _ _
  · exact kept.answerStatus _ _ _

/-- The stages that a settings word takes out go off, and the rest are shed to the cap formed anew (R76, R82). -/
theorem State.heatKept.dropUnavailable (b : Seven (List Word)) :
    (State.dropUnavailable { s with sst := { s.sst with blocks := b } }).heatKept := by
  let v : State := { s with sst := { s.sst with blocks := b } }
  have sheds := State.sameHeat_of_sheds (v.stagesOff_sheds (four.filter fun n => !v.available n))
  refine State.shedToCap_heatKept (kept.safe.imp sheds.heatOff fun h => sheds.free h.1) (fun n on => ?_) (sheds.bootIdle kept.idle)
  rw [State.available_congr sheds.blocks (sheds.openMark n)]
  rw [State.on_stagesOff, Bool.and_eq_true, Bool.not_eq_true', List.contains_eq_mem, decide_eq_false_iff_not, List.mem_filter,
    not_and] at on
  simpa using on.2 (mem_four n)

theorem State.heatKept.setOnTimes (ws : List Word) : (s.setOnTimes ws).heatKept := by
  refine kept.alike ⟨⟨fun n => ?_, fun n => ?_, rfl, rfl, rfl, rfl, rfl, rfl⟩, id⟩
  · fin_cases n <;> exact id
  · fin_cases n <;> rfl

theorem State.heatKept.answer (l : Link) (k : Byte) (st : Status) (c : List Byte) : (s.answer l k st c).heatKept :=
  kept.alike (State.sameHeat_of_hsc (by simp) (by simp) (by simp) (by simp) (by simp) (by simp) (by simp))

theorem State.heatKept.setRequest (l : Link) (b first : Byte) (vs : List Word) : (s.setRequest l b first vs).heatKept := by
  have writes : (s.writeBlock b.toNat first.toNat (fixWords b.toNat first.toNat vs)).heatKept := by
    unfold State.writeBlock
    split
    · exact kept.setOnTimes _
    · exact kept.dropUnavailable _
  unfold State.setRequest
  dsimp only
  split
  · exact kept.answerStatus _ _ _
  split
  · exact kept.answerStatus _ _ _
  split
  · exact kept.answerStatus _ _ _
  split
  · exact writes.settleTests.answerStatus _ _ _
  · exact writes.settleTests.answer _ _ _ _

theorem State.heatKept.storeRequest (l : Link) (b : Byte) : (s.storeRequest l b).heatKept := by
  unfold State.storeRequest
  dsimp only
  split
  · exact kept.answerStatus _ _ _
  · split
    · exact kept.answerStatus _ _ _
    · refine State.heatKept.modLink ?_ _ _
      exact kept.alike (State.sameHeat_of_hsc rfl rfl rfl rfl rfl rfl rfl)

theorem State.heatKept.completeStore : s.completeStore.heatKept := by
  have replied (v : State) (j : StoreJob) (h : v.heatKept) : (v.storeReply j).heatKept :=
    h.alike (State.sameHeat_of_hsc (by simp) (by simp) (by simp) (by simp) (by simp) (by simp) (by simp))
  unfold State.completeStore
  split
  · exact kept
  · next j _ =>
    dsimp only
    generalize hv : State.mk s.pending .. = v
    have stored : (v.storeReply j).heatKept :=
      replied v j (by subst hv; exact kept.alike (State.sameHeat_of_hsc rfl rfl rfl rfl rfl rfl rfl))
    split
    · exact stored.alike (State.sameHeat_of_hsc rfl rfl rfl rfl rfl rfl rfl)
    · exact stored

theorem State.heatKept.measureRequest (l : Link) : (s.measureRequest l).heatKept := by
  unfold State.measureRequest
  dsimp only
  split
  · exact kept.answerStatus _ _ _
  · split
    · exact kept.answerStatus _ _ _
    · refine State.heatKept.modLink ?_ _ _
      exact kept.alike (State.sameHeat_of_diag rfl rfl rfl rfl rfl fun c _ => by cases c <;> exact id)

theorem State.heatKept.readRequest (l : Link) (qs : List Byte) : (s.readRequest l qs).heatKept := by
  unfold State.readRequest
  dsimp only
  split
  · exact kept.answerStatus _ _ _
  · refine State.heatKept.answer ?_ _ _ _ _
    exact kept.alike (State.sameHeat_of_diag rfl rfl rfl rfl rfl fun c _ => by rw [Mfe.diag_mapFreshnessOf]; exact id)

theorem State.heatKept.serve (ready : s.boot = .ready) (l : Link) (r : Request) : (s.serve l r).heatKept := by
  cases r with
  | pause => exact kept.pauseRequest l
  | resume => exact kept.resumeRequest l
  | abort => exact kept.abortRequest l
  | advance => exact kept.advanceRequest l
  | clear => exact kept.clearRequest l
  | start p => exact State.startRequest_heatKept kept ready l p
  | takeControl => exact kept.takeControlRequest ready l
  | test a d v => exact kept.testRequest l a d v
  | releaseControl => exact kept.releaseControlRequest l
  | set b f vs => exact kept.setRequest l b f vs
  | store b => exact kept.storeRequest l b
  | read qs => exact kept.readRequest l qs
  | measure => exact kept.measureRequest l
  | identify | status | get | noticeCfg | ackNotice | claimCapture | configure | arm | stopCapture | releaseCapture
  | claimWatch | setWatch | releaseWatch | post | flush | cancel | linkStats =>
    exact kept.alike (State.sameHeat_of_hsc (by simp [State.serve]) (by simp [State.serve]) (by simp [State.serve])
      (by simp [State.serve]) (by simp [State.serve]) (by simp [State.serve]) (by simp [State.serve]))

/-! ### Frames and link resets (R126, R166 to R168) -/

theorem State.heatKept.reportFrame (l : Link) : (s.reportFrame l).heatKept := by
  unfold State.reportFrame
  split
  · split
    · exact kept.sequencer rfl rfl
    · exact kept
  · split
    · exact kept.sequencer rfl rfl
    · exact kept

omit kept in
theorem State.ready_of_canTake {s : State} {l : Link} (h : s.canTake l = true) : s.boot = .ready := by
  simp only [State.canTake, Bool.and_eq_true] at h
  obtain ⟨⟨⟨ready, -⟩, -⟩, -⟩ := h
  exact beq_iff_eq.mp ready

theorem State.heatKept.arrive (l : Link) (r : Request) : (s.arrive l r).heatKept := by
  unfold State.arrive
  dsimp only
  split
  · next takes => exact (kept.reportFrame l).serve (State.ready_of_canTake (Bool.and_eq_true_iff.mp takes).1) l r
  · exact (kept.reportFrame l).modLink _ _

theorem State.heatKept.takeRequest (l : Link) : (s.takeRequest l).heatKept := by
  unfold State.takeRequest
  split
  · exact kept
  · next f rest _ =>
    split
    · next takes =>
      have taken := kept.modLink l fun lk => { lk with queue := rest }
      unfold State.takeFrame
      split
      · exact taken.answerStatus _ _ _
      · exact taken.answerStatus _ _ _
      · exact taken.serve ((by simp : (s.modLink l fun lk => { lk with queue := rest }).boot = s.boot).trans
          (State.ready_of_canTake takes)) l _
    · exact kept

theorem State.heatKept.resetArrives (l : Link) : (s.resetArrives l).heatKept := by
  unfold State.resetArrives
  dsimp only
  split <;> exact (kept.reportFrame l).modLink _ _

theorem State.heatKept.judgeFrame (l : Link) (len : Nat) (bytes : List Byte) (error : Bool) (check : Byte) :
    (s.judgeFrame l len bytes error check).heatKept := by
  unfold State.judgeFrame
  split
  · exact kept.modLink l _
  split
  · exact kept.modLink l _
  split
  · exact kept
  unfold State.frameArrives
  split
  · exact kept.resetArrives l
  · exact (kept.reportFrame l).modLink _ _

theorem State.heatKept.receive (l : Link) (b : Byte) (error : Bool) : (s.receive l b error).heatKept := by
  have assembles (a : Assembler) : (s.setAssembler l a).heatKept := by
    unfold State.setAssembler
    exact kept.modLink l _
  unfold State.receive
  split
  · split
    · exact assembles _
    · exact kept
  · split
    · exact (assembles _).modLink l _
    · exact assembles _
  · dsimp only
    split <;> exact assembles _
  · exact (assembles _).judgeFrame _ _ _ _ _

theorem State.heatKept.resetFront (l : Link) : (s.resetFront l).heatKept :=
  kept.alike (State.sameHeat_of_diag rfl rfl rfl rfl rfl fun c _ => by
    rw [← s.mfe.diag_mapFreshnessOf l Freshness.linkReset sixChannels c]
    cases c <;> exact id)

theorem State.heatKept.takeLinkDefaults (l : Link) : (s.takeLinkDefaults l).heatKept := by
  unfold State.takeLinkDefaults
  exact kept.modLink l _

theorem State.heatKept.resetAtSequencer (l : Link) : (s.resetAtSequencer l).heatKept := by
  unfold State.resetAtSequencer
  split
  · exact kept.abortCycle _
  · split
    · exact s.release_heatKept _
    · exact kept

theorem State.heatKept.resetEffects (l : Link) : (s.resetEffects l).heatKept := by
  have links : ((s.modLink l (·.clearForReset)).takeLinkDefaults l).heatKept := (kept.modLink l _).takeLinkDefaults l
  unfold State.resetEffects
  dsimp only
  generalize (s.modLink l (·.clearForReset)).takeLinkDefaults l = v at links
  refine State.heatKept.resetAtSequencer (State.heatKept.resetFront ?_ l) l
  have dropped : (v.csq.dropTake l).program = v.csq.program ∧ (v.csq.dropTake l).phase = v.csq.phase := by
    unfold Csq.dropTake; split <;> exact ⟨rfl, rfl⟩
  exact links.alike (State.sameHeat_of_hsc rfl dropped.1 rfl rfl dropped.2 rfl rfl)

theorem State.heatKept.endTransmission (l : Link) : (s.endTransmission l).heatKept := by
  unfold State.endTransmission
  split
  · exact kept
  · dsimp only
    split
    · exact (kept.modLink l _).resetEffects l
    · exact kept.modLink l _

theorem State.heatKept.beginTransmission (l : Link) : (s.beginTransmission l).heatKept :=
  kept.alike (State.sameHeat_of_hsc (by simp) (by simp) (by simp) (by simp) (by simp) (by simp) (by simp))

/-! ### Start-up (R155, R167) -/

theorem State.heatKept.becomeReady : s.becomeReady.heatKept := by
  rw [s.becomeReady_eq]
  refine State.heatKept.faultIf ⟨?_, fun other => absurd rfl other⟩ _ _
  exact kept.safe

theorem State.heatKept.loadComplete (loading : s.boot = .loading) : s.loadComplete.heatKept := by
  have phase := kept.idle (by rw [loading]; decide)
  have off : s.heatOff := kept.off_of_phase (by rcases phase with e | e <;> rw [e] <;> rfl)
  have loaded : (State.setOnTimes { s with boot := .startup, sst := s.sst.load } (loadedBlock 6 s.sst.stored.b6)).heatKept :=
    State.heatKept_of_off (fun n => by have := off n; fin_cases n <;> exact this) fun _ => phase
  exact (loaded.takeLinkDefaults .a).takeLinkDefaults .s

end Kept

/-! ### The commands -/

theorem State.resetWith_heatKept (pending : List Instr) (boot : Boot) (clock : Nat) (pins : Pins) (stored : Seven (List StoredWord)) :
    (State.resetWith pending boot clock pins stored).heatKept :=
  State.heatKept_of_off (fun n => by fin_cases n <;> rfl) fun _ => .inl rfl

theorem State.heatKept.elapse {s : State} (kept : s.heatKept) (n : Nat) : (s.elapse n).heatKept := by
  obtain ⟨phase, program⟩ : (s.csq.elapse n).phase = s.csq.phase ∧ (s.csq.elapse n).program = s.csq.program := by simp
  refine kept.alike ⟨⟨fun m => ?_, fun m => ?_, rfl, rfl, program, rfl, rfl, phase⟩, fun free => ?_⟩
  · rw [State.elapse_stage, Stage.elapse]; split <;> exact id
  · rw [State.elapse_stage, Stage.elapse]; split <;> rfl
  · rw [← free, State.interlocked, State.interlocked, State.elapse_csq, phase]; rfl

section Commands

variable {s t : State} {f : State → State} (kept : s.heatKept)

include kept

theorem State.heatKept.event (h : s.event f = .next t) (each : (f s).heatKept) : t.heatKept := by
  obtain rfl := Host.Outcome.next.inj h
  unfold State.powered
  split
  · exact kept
  · exact each

theorem State.heatKept.timed {i : Instr} (h : s.timed i f = .next t)
    (each : ∀ n, s.commandLeft i = some n → (s.elapse n).heatKept → (f (s.elapse n)).heatKept) : t.heatKept := by
  refine kept.event h ?_
  unfold State.atMoment
  split
  · exact kept
  · next n left => exact each n left (kept.elapse n)

theorem State.heatKept.exec (consistent : s.csq.consistent) {i : Instr} (h : exec i s = .next t) : t.heatKept := by
  have phase (n : Nat) : (s.elapse n).csq.phase = s.csq.phase := by simp
  have ready {n : Nat} (v : (s.elapse n).heatKept) {p : Phase} (e : s.csq.phase = p) (idle : p ≠ .idle) (fault : p ≠ .fault) :
      (s.elapse n).boot = .ready := v.ready (by rw [phase, e]; exact idle) (by rw [phase, e]; exact fault)
  have arrives {l : Link} {r : Request} (h : s.event (fun s => s.arrive l r) = .next t) : t.heatKept :=
    kept.event h (kept.arrive l r)
  cases i with
  | onTimeSecond m => exact kept.timed h fun n _ v => v.countSecond m
  | windowEnd => exact kept.timed h fun n _ v => v.windowEnds
  | stillTimeout => exact kept.timed h fun n _ v => v.becomeStill
  | restMinimumExpiry => exact kept.timed h fun n _ v => v.restMinimumPasses
  | stepEnd => exact kept.timed h fun n _ v => v.stepEnds
  | burstTimeExpiry => exact kept.timed h fun n _ v => v.enterRest _ _
  | stallDeadlineExpiry => exact kept.timed h fun n _ v => v.stallExpires
  | restCheckExpiry => exact kept.timed h fun n _ v => v.restCheckExpires
  | recheckDeadlineExpiry => exact kept.timed h fun n _ v => v.recheckExpires
  | controlPeriod => exact kept.timed h fun n _ v => v.controlPeriod
  | pauseAllowanceExpiry => exact kept.timed h fun n _ v => v.pauseExpires
  | afterRunExpiry => exact kept.timed h fun n _ v => v.fanOff
  | proofDeadlineExpiry => exact kept.timed h fun n _ v => v.proofExpires
  | graceDeadlineExpiry => exact kept.timed h fun n _ v => v.graceExpires
  | testStageMinOffExpiry m => exact kept.timed h fun n _ v => v.settleTests
  | testStageMinOnExpiry m => exact kept.timed h fun n _ v => (v.stageOff m).settleTests
  | dryingElapsedSecond => exact kept.timed h fun n _ v => v.dryingSecond
  | timeLimit => exact kept.timed h fun n _ v => v.endDrying _
  | coolTime =>
    exact kept.timed h fun n left v => State.endCooling_heatKept _ (ready v (State.phase_of_limitLeft left) nofun nofun)
  | guardTime =>
    exact kept.timed h fun n left v => State.enterDone_heatKept _ (ready v (State.phase_of_limitLeft left) nofun nofun)
  | holdLimitExpiry =>
    refine kept.timed h fun n left v => State.enterDone_heatKept (s := (s.elapse n).setEnd _) _ ?_
    obtain ⟨-, -, -, -, -, -, -, due, -⟩ := consistent
    have isDue : s.csq.holdDue.isSome = true := State.isSome_of_left left
    exact ready v (beq_iff_eq.mp (due.symm.trans isDue)) nofun nofun
  | supervisionExpiry => exact kept.timed h fun n _ v => v.takeHoldCause _
  | silenceExpiry => exact kept.timed h fun n _ v => State.release_heatKept _ _
  | testTimerExpiry a => exact kept.timed h fun n _ v => v.testTimerEnds a
  | gapExpiry l =>
    refine kept.timed h fun n _ v => ?_
    unfold State.gapExpires State.setAssembler State.countError
    exact (v.modLink l _).modLink l _
  | periodicPeriodExpiry l => exact kept.timed h fun n _ v => v.modLink l _
  | requestTake l => exact kept.event h (kept.takeRequest l)
  | transmitBegin l => exact kept.event h (kept.beginTransmission l)
  | transmitComplete l => exact kept.event h (kept.endTransmission l)
  | characterReceived l data parity stop => exact kept.event h (kept.receive l _ _)
  | resetLink l => exact kept.event h (kept.resetArrives l)
  | revolutionPulse => exact kept.event h kept.pulse.settleTests
  | ivfChange active => exact kept.event h (kept.ivfChanges active)
  | airflowSwitchChange closed => exact kept.event h (kept.airflowChanges closed)
  | doorOpens => exact kept.event h kept.doorOpened
  | doorCloses => exact kept.event h (State.heatKept.settleTests (kept.pins _ nofun id))
  | cutoffOpens => exact kept.event h kept.cutoffOpened
  | cutoffCloses => exact kept.event h (State.heatKept.settleTests (kept.pins _ id nofun))
  | fastConversion bar motor => exact kept.timed h fun n _ v => v.fastConversion bar motor
  | slowConversion code => exact kept.timed h fun n _ v => v.slowConversion code
  | roundConversion code => exact kept.event h (kept.roundConversion code)
  | startupRoundConversion code => exact kept.event h (kept.startupConversion code)
  | startupRoundComplete =>
    refine kept.event h ?_
    split
    · exact kept.becomeReady
    · exact kept
  | settingsLoadComplete =>
    refine kept.event h ?_
    split
    · next loading => exact kept.loadComplete loading
    · exact kept
  | storeComplete => exact kept.event h kept.completeStore
  | powerOn stop =>
    obtain rfl := Host.Outcome.next.inj h
    exact State.resetWith_heatKept _ _ _ _ _
  | rst stop | lossOfSupply stop => exact kept.event h (State.resetWith_heatKept _ _ _ _ _)
  | measure | read | start | pause | resume | abort | advance | clear | takeControl | test | releaseControl | claimCapture
  | configure | arm | stopCapture | releaseCapture | claimWatch | setWatch | releaseWatch | post | flush | cancel | set | get
  | store | noticeCfg | ackNotice | linkStats | identify | status => exact arrives h

/-- Every step keeps the heater's part. -/
theorem State.heatKept.step (consistent : s.csq.consistent) (h : step s = .next t) : t.heatKept := by
  unfold Machine.step at h
  split at h
  · obtain rfl := Host.Outcome.next.inj h
    unfold State.tick State.powered
    split
    · exact kept
    · dsimp only
      split
      · exact kept.alike (State.sameHeat_of_hsc rfl rfl rfl rfl rfl rfl rfl)
      · exact kept.elapse 1
  · next c rest _ =>
    have queued : State.heatKept { s with pending := rest } := kept.alike (State.sameHeat_of_hsc rfl rfl rfl rfl rfl rfl rfl)
    exact queued.exec consistent h

end Commands

/-! ### The sequencer, kept by every step (R104, R110, R112, R113, R123) -/

/-- From `s` to `t` the sequencer's marks and deadlines are kept with its phase. -/
def State.keepsCsq (s t : State) : Prop := s.csq.consistent → t.csq.consistent

theorem State.keepsCsq_of_eq {s t : State} (h : t.csq = s.csq) : s.keepsCsq t := fun consistent => by rw [h]; exact consistent

theorem State.keepsCsq_byDrum : KeptByDrum State.keepsCsq where
  refl _ := id
  trans h h' := h' ∘ h
  beside h := State.keepsCsq_of_eq h.csq
  sequencer _ _ _ consistent := consistent
  enters s c p cause _ consistent _ kept := by
    rw [State.changePhase_csq]
    exact consistent kept
  demands _ _ := State.keepsCsq_of_eq (by simp)
  idles _ _ _ consistent _ kept := by simpa using consistent kept
  testRest _ _ := State.keepsCsq_of_eq (by simp)
  testRun _ _ _ _ := State.keepsCsq_of_eq (by simp)
  starts _ _ := State.keepsCsq_of_eq (by simp)
  gate _ := State.keepsCsq_of_eq (by simp)
  steps _ _ := State.keepsCsq_of_eq (by simp)
  burstTime _ _ := State.keepsCsq_of_eq (by simp)
  runs _ _ _ := State.keepsCsq_of_eq (by simp)
  opposes _ _ _ := State.keepsCsq_of_eq (by simp)
  reopens _ _ _ _ := State.keepsCsq_of_eq (by simp)
  bursts _ _ taken := State.keepsCsq_of_eq (by simp [State.takeBurst_frame taken])
  counts _ _ := State.keepsCsq_of_eq rfl
  chainEnds _ _ _ := State.keepsCsq_of_eq (by simp)
  samples _ _ := State.keepsCsq_of_eq rfl
  checks _ _ _ _ := State.keepsCsq_of_eq rfl
  stalls _ _ _ := State.keepsCsq_of_eq rfl
  restMinimum _ := State.keepsCsq_of_eq rfl

theorem State.begins_csq {s u : State} (h : s.begins u) (consistent : s.csq.consistent) : u.csq.consistent := by
  cases h with
  | now => exact consistent
  | later n => exact Csq.elapse_consistent consistent n
  | pulsed => exact consistent
  | still n => exact Csq.elapse_consistent consistent n

theorem Csq.consistent_step {s t : State} (consistent : s.csq.consistent) (h : step s = .next t) : t.csq.consistent := by
  obtain ⟨queue, goes⟩ := State.keepsCsq_byDrum.stepGoes h
  rcases goes with ⟨u, begins, v, reaches, same⟩ | ⟨pending, boot, clock, pins, stored, rfl⟩
  · rw [same.csq]
    exact reaches (State.begins_csq begins consistent)
  · obtain ⟨reset, -⟩ := resetMeetsInvariants
    exact reset

/-- Settles O55, by the heater's own invariant and the sequencer's. -/
theorem heaterKept : Obligations.HeaterKept := by
  unfold Obligations.HeaterKept
  intro s t consistent interlocked within idle stepped
  have kept : s.heatKept := ⟨s.heatSafe_iff.mpr ⟨interlocked, within⟩, idle⟩
  have after := kept.step consistent stepped
  obtain ⟨interlocked', within'⟩ := t.heatSafe_iff.mp after.safe
  exact ⟨Csq.consistent_step consistent stepped, interlocked', within', after.idle⟩

/-! ### The heater as time passes -/

section Elapse

variable (n : Nat) (s : State)

theorem State.elapse_hsc : (s.elapse n).hsc = { s.hsc with stages := s.hsc.stages.map (Stage.elapse n) } := rfl

@[simp] theorem State.elapse_available (m : StageNo) : (s.elapse n).available m = s.available m :=
  State.available_congr (s := s) (t := s.elapse n) rfl (by simp)

@[simp] theorem State.elapse_interlocked : (s.elapse n).interlocked = s.interlocked := by
  have phase : (s.csq.elapse n).phase = s.csq.phase := by simp
  rw [State.interlocked, State.interlocked, State.elapse_csq, phase]; rfl

@[simp] theorem State.elapse_stagesOn : (s.elapse n).stagesOn = s.stagesOn :=
  Nat.le_antisymm (State.stagesOn_le fun m on => by simpa using on) (State.stagesOn_le fun m on => by simpa using on)

@[simp] theorem State.elapse_effectiveCap : (s.elapse n).effectiveCap = s.effectiveCap :=
  State.effectiveCap_congr (by simp) rfl (by simp) rfl rfl

end Elapse

/-! ### Seconds of output and of DRYING (R77, R105) -/

theorem State.countSecond_stage (s : State) (n m : StageNo) : (s.countSecond n).stage m =
    if m = n then { s.stage n with onTime := min 4294967295 ((s.stage n).onTime + 1), rem := (s.stage n).rem - 1000 }
    else s.stage m := by
  have counted (v : State) (h : v.hsc.stages = (s.setStage n { s.stage n with
      onTime := satSucc 4294967295 (s.stage n).onTime, rem := (s.stage n).rem - 1000 }).hsc.stages) : v.stage m =
      if m = n then { s.stage n with onTime := min 4294967295 ((s.stage n).onTime + 1), rem := (s.stage n).rem - 1000 }
      else s.stage m := by
    rw [State.stage, h, ← satSucc_eq]
    split
    · next e => rw [e]; exact s.stage_setStage_same n _
    · next e => exact s.stage_setStage_other n m _ e
  unfold State.countSecond
  dsimp only
  split <;> exact counted _ rfl

theorem State.countSecond_energy (s : State) (n : StageNo) : (s.countSecond n).hsc.energy =
    if s.csq.phase = .service then s.hsc.energy else min 4294967295 (s.hsc.energy + (s.word 3 (4 + n.val)).toNat) := by
  have phase (x : Stage) : (s.setStage n x).csq.phase = s.csq.phase := rfl
  unfold State.countSecond
  dsimp only
  rw [phase]
  split <;> rfl

theorem State.countSecond_rest (s : State) (n : StageNo) : s.countSecond n =
    { s with hsc := { s.hsc with stages := (s.countSecond n).hsc.stages, energy := (s.countSecond n).hsc.energy } } := by
  unfold State.countSecond
  dsimp only
  split <;> rfl

/-- Settles O23: the second of a stage, and the second of DRYING that no watch unit judges. -/
theorem secondsCounted : Obligations.SecondsCounted := by
  unfold Obligations.SecondsCounted
  intro s n on
  refine ⟨fun isOn => ?_, fun drying silent => ?_⟩
  · have left : s.commandLeft (.onTimeSecond n) = some (1000 - (s.stage n).rem) := if_pos isOn
    intro u
    refine ⟨u.countSecond n, s.timed_some _ _ _ on left, ?_, fun m other => ?_, ?_, u.countSecond_rest n⟩
    · rw [u.countSecond_stage, if_pos rfl]; simp [u]
    · rw [u.countSecond_stage, if_neg other]
    · rw [u.countSecond_energy]; simp [u, State.elapse_hsc]
  · have left : s.commandLeft .dryingElapsedSecond = some ((s.csq.dryingSeconds + 1) * 1000 - s.csq.dryingMs) := if_pos drying
    exact ⟨_, s.timed_some _ _ _ on left, State.offerValue_of_noWatch _ _ _ silent⟩

/-! ### The deadlines (R89, R95 to R97) -/

theorem State.enforce_rest (s : State) : s.enforce =
    { s with hsc := { s.hsc with stages := s.enforce.hsc.stages, lastOn := s.enforce.hsc.lastOn } } := s.enforce_sheds.frame

/-- The fan off: the airflow with it, and the heat (R88, R96). -/
theorem State.fanOff_heat (s : State) : s.fanOff.hsc.proofDue = none ∧ s.fanOff.hsc.graceDue = none ∧ s.fanOff.heatOff
    ∧ s.fanOff = { s with hsc := s.fanOff.hsc } := by
  refine ⟨?_, ?_, State.enforce_heatOff _ (by simp [State.interlocked]), ?_⟩ <;> rw [State.fanOff, State.enforce_rest]

theorem State.pauseExpires_heat (s : State) : s.pauseExpires.hsc.pauseDue = none ∧ s.pauseExpires.hsc.spent = true
    ∧ (s.hsc.turning = false → s.pauseExpires.heatOff) ∧ s.pauseExpires = { s with hsc := s.pauseExpires.hsc } := by
  refine ⟨?_, ?_, fun still => State.enforce_heatOff _ (by simp [State.interlocked, State.pauseInterlock, still]), ?_⟩ <;>
    rw [State.pauseExpires, State.enforce_rest]

/-- The fault AIRFLOW is taken, or counted in FAULT (R117 to R119). -/
theorem State.takeFault_airflow (s : State) : s.outerFrame (s.takeFault .airflow)
    ∧ (s.csq.phase ≠ .fault → (s.takeFault .airflow).faulted .airflow s.csq.phase ∧ (s.takeFault .airflow).stopped)
    ∧ ∀ f ∈ s.csq.record.fault, s.csq.phase = .fault → (s.takeFault .airflow).faultedAgain f := by
  obtain ⟨enters, counts⟩ := s.takeFault_drum .airflow (by decide)
  exact ⟨(s.takeFault_carries .airflow).outer, enters, fun f recorded fault => (counts f recorded fault).1⟩

/-- Settles O24, deadline by deadline. -/
theorem heatDeadlines : Obligations.HeatDeadlines := by
  unfold Obligations.HeatDeadlines
  intro s on
  have phase (n : Nat) : (s.elapse n).csq.phase = s.csq.phase := by simp
  have record (n : Nat) : (s.elapse n).csq.record = s.csq.record := by simp
  refine ⟨fun due pause => ?_, fun due after => ?_, fun due proof => ?_, fun due grace => ?_⟩
  · have left : s.commandLeft .pauseAllowanceExpiry = some (due - s.clock) := congrArg (Option.map _) pause
    exact ⟨_, s.timed_some _ _ _ on left, (s.moment due).pauseExpires_heat⟩
  · have left : s.commandLeft .afterRunExpiry = some (due - s.clock) := congrArg (Option.map _) after
    obtain ⟨fan, demand, run, airflow, -⟩ := (s.moment due).fanOff_fan
    exact ⟨_, s.timed_some _ _ _ on left, fan, demand, run, airflow, (s.moment due).fanOff_heat⟩
  · have left : s.commandLeft .proofDeadlineExpiry = some (due - s.clock) := congrArg (Option.map _) proof
    intro u
    refine ⟨_, s.timed_some _ _ _ on left, ?_⟩
    let v : State := { u with hsc := { u.hsc with proofDue := none } }
    have made : u.proofExpires = v.faultIf (u.csq.phase == .prep && u.hsc.airflow == .proving) .airflow := rfl
    split
    · next unproven =>
      obtain ⟨prep, proving⟩ := unproven
      have fails : u.proofExpires = v.takeFault .airflow := by
        rw [made, State.faultIf, if_pos]
        simpa [u, State.elapse_hsc] using ⟨prep, proving⟩
      obtain ⟨outer, enters, -⟩ := v.takeFault_airflow
      have vPhase : v.csq.phase = .prep := (phase _).trans prep
      rw [vPhase] at enters
      obtain ⟨faulted, stopped⟩ := enters (by decide)
      rw [fails]
      exact ⟨faulted, stopped, outer⟩
    · next proven =>
      rw [made, State.faultIf, if_neg]
      simpa [u, State.elapse_hsc] using proven
  · have left : s.commandLeft .graceDeadlineExpiry = some (due - s.clock) := congrArg (Option.map _) grace
    intro u
    refine ⟨_, s.timed_some _ _ _ on left, ?_⟩
    let v : State := { u with hsc := { u.hsc with graceDue := none } }
    have made : u.graceExpires = v.faultIf (s.hsc.airflow == .lost) .airflow := rfl
    split
    · next lost =>
      have fails : u.graceExpires = v.takeFault .airflow := by
        rw [made, State.faultIf, if_pos (by rw [lost]; rfl)]
      obtain ⟨outer, enters, counts⟩ := v.takeFault_airflow
      have vPhase : v.csq.phase = s.csq.phase := phase _
      have vRecord : v.csq.record = s.csq.record := record _
      rw [vPhase] at enters
      rw [vPhase, vRecord] at counts
      rw [fails]
      exact ⟨outer, enters, counts⟩
    · next reclosed =>
      rw [made, State.faultIf, if_neg (by simpa using reclosed)]

/-! ### The airflow switch (R96, R97) -/

/-- Where the switch proves no air, PREP is not complete. -/
theorem State.judgePrep_of_unproven {s : State} (h : ¬(s.csq.phase = .prep ∧ s.hsc.airflow = .proven ∧ s.csq.revSeen = true)) :
    s.judgePrep = s := if_neg h

theorem Phase.supervisesAir_iff (p : Phase) :
    p.supervisesAir = true ↔ p = .prep ∨ p = .drying ∨ p = .cooling ∨ p = .guard := by cases p <;> decide

theorem State.interlocked_of_airflow {s : State} (h : s.hsc.airflow ≠ .proven) : s.interlocked = true := by
  simp [State.interlocked, h]

/-- The switch has opened, and the air is no longer proven: the heat is shed, and in the phases that are supervised the
grace begins (R88, R97). -/
theorem State.airflowSwitch_opens (s : State) (proven : s.hsc.airflow = .proven) : let t := s.airflowSwitch false
    t.hsc.airflow = .lost ∧ t.heatOff
      ∧ t.hsc.graceDue = (if s.csq.phase = .prep ∨ s.csq.phase = .drying ∨ s.csq.phase = .cooling ∨ s.csq.phase = .guard
          then some (s.clock + 30000) else s.hsc.graceDue)
      ∧ t = { s with hsc := { s.hsc with
          airflow := .lost, graceDue := t.hsc.graceDue, stages := t.hsc.stages, lastOn := t.hsc.lastOn } } := by
  intro t
  have made : t = State.enforce { s with hsc := { s.hsc with
      airflow := .lost
      graceDue := if s.csq.phase.supervisesAir then some (s.clock + 30000) else s.hsc.graceDue } } := by
    show s.airflowSwitch false = _
    unfold State.airflowSwitch
    simp only [proven]
  have frame := made.trans (State.enforce_rest _)
  rw [← made] at frame
  refine ⟨by rw [frame], ?_, ?_, ?_⟩
  · rw [made]; exact State.enforce_heatOff _ (by simp [State.interlocked])
  · rw [frame]; simp only [Phase.supervisesAir_iff]
  · rw [frame]

/-- The switch has closed, and the air is proven, or as it was. -/
theorem State.airflowSwitch_closes (s : State) : s.airflowSwitch true =
    match s.hsc.airflow with
    | .proving => { s with hsc := { s.hsc with airflow := .proven, proofDue := none } }
    | .lost => { s with hsc := { s.hsc with airflow := .proven, graceDue := none } }
    | .off | .proven => s := by
  unfold State.airflowSwitch
  cases s.hsc.airflow <;> rfl

theorem State.airflowSwitch_of_unproven (s : State) (unproven : s.hsc.airflow ≠ .proven) : s.airflowSwitch false = s := by
  unfold State.airflowSwitch
  cases airflow : s.hsc.airflow with
  | proven => exact absurd airflow unproven
  | off | proving | lost => rfl

/-- The stage tests are judged after the switch where PREP is not completed by it. -/
theorem State.airflowChanges_of_waiting {s v : State} {closed : Bool}
    (made : State.airflowSwitch { s with pins := { s.pins with afsClosed := closed } } closed = v) (csq : v.csq = s.csq)
    (waits : ¬(s.csq.phase = .prep ∧ v.hsc.airflow = .proven ∧ s.csq.revSeen = true)) :
    s.airflowChanges closed = v.settleTests := by
  have stands : v.judgePrep = v := State.judgePrep_of_unproven (by rw [csq]; exact waits)
  show (State.judgePrep (State.airflowSwitch { s with pins := { s.pins with afsClosed := closed } } closed)).settleTests = _
  rw [made, stands]

/-- Settles O25: the switch, PREP that it does not complete, and the stage tests. -/
theorem airflowSwitch : Obligations.AirflowSwitch := by
  unfold Obligations.AirflowSwitch
  intro closed s on waits p
  refine ⟨_, s.event_on _ on, ?_⟩
  cases closed with
  | true =>
    have closes := p.airflowSwitch_closes
    cases airflow : s.hsc.airflow with
    | off =>
      rw [State.airflowChanges_of_waiting (s := s) (v := p) (closes.trans (by rw [airflow])) rfl
        fun h => absurd (airflow.symm.trans h.2.1) nofun]
      exact p.settleTests_judged
    | proving | lost | proven =>
      have stays : ¬(s.csq.phase = .prep ∧ s.csq.revSeen = true) := fun ⟨prep, seen⟩ =>
        waits ⟨prep, seen, rfl, by rw [airflow]; decide⟩
      rw [airflow] at closes
      rw [State.airflowChanges_of_waiting (s := s) closes rfl fun ⟨prep, _, seen⟩ => stays ⟨prep, seen⟩]
      exact State.settleTests_judged _
  | false =>
    by_cases proven : s.hsc.airflow = .proven
    · have opens := p.airflowSwitch_opens proven
      have csq : (p.airflowSwitch false).csq = s.csq := by simp [p]
      have lost := opens.1
      rw [State.airflowChanges_of_waiting (s := s) rfl csq fun h => absurd (lost.symm.trans h.2.1) nofun,
        State.settleTests_of_interlocked _ (State.interlocked_of_airflow (by rw [lost]; decide))]
      rw [proven]
      exact opens
    · rw [State.airflowChanges_of_waiting (s := s) (p.airflowSwitch_of_unproven proven) rfl fun h => proven h.2.1]
      have judged := p.settleTests_judged
      cases airflow : s.hsc.airflow with
      | proven => exact absurd airflow proven
      | off | proving | lost => exact judged

/-! ### The timers of a stage test (R86, R87, R98) -/

theorem Quad.eq_of_get {α : Type} {q q' : Quad α} (h : ∀ m, q.get m = q'.get m) : q = q' := by
  obtain ⟨a, b, c, d⟩ := q
  obtain ⟨a', b', c', d'⟩ := q'
  obtain rfl : a = a' := h 0
  obtain rfl : b = b' := h 1
  obtain rfl : c = c' := h 2
  obtain rfl : d = d' := h 3
  rfl

/-- R90: an unread test goes with the output of another stage. -/
theorem Stage.dropUnread_eq_if (x : Stage) :
    x.dropUnread = if x.test.any (fun y => y.after.isNone) = true then { x with test := none } else x := by
  unfold Stage.dropUnread
  cases test : x.test with
  | none => rfl
  | some y => rfl

theorem State.stage_goesOff (s : State) (n m : StageNo) : (s.goesOff n).stage m =
    if m = n then { s.stage m with on := false, switchTime := s.clock, offWaived := false, test := none }
    else if (s.stage m).test.any (fun x => x.after.isNone) = true then { s.stage m with test := none }
    else s.stage m := by fin_cases m <;> rfl

/-- An output that is on goes off as the statements say it. -/
theorem State.stageOff_eq (s : State) (n : StageNo) (on : (s.stage n).on = true) : s.stageOff n = s.goesOff n := by
  have stages : (s.stageOff n).hsc.stages = (s.goesOff n).hsc.stages := by
    refine Quad.eq_of_get fun m => ?_
    change (s.stageOff n).stage m = (s.goesOff n).stage m
    rw [s.stage_stageOff, if_neg (by rw [on]; decide), s.stage_goesOff]
    split
    · next e => rw [e]
    · exact Stage.dropUnread_eq_if _
  have lastOn : (s.stageOff n).hsc.lastOn = some s.clock := by
    unfold State.stageOff
    rw [if_pos on]
  rw [State.goesOff, (s.stageOff_sheds n).frame, stages, lastOn]
  rfl

/-- A stage whose test may not come on stands. -/
theorem State.settleTests_stage_of_not {s : State} {n : StageNo} (not : ¬s.testMayStart n = true) :
    s.settleTests.stage n = s.stage n := by
  rcases s.settleTests_cases with same | ⟨m, -, may, on⟩
  · rw [same]
  · rw [on, s.stage_stageOn, if_neg]
    rintro rfl
    exact not may

theorem State.settleTests_rest (s : State) : s.settleTests = { s with hsc := s.settleTests.hsc } := by
  rw [s.settleTests_keeps.1]

/-- A stage under test at the end of its min_off. -/
theorem State.minOff_ends (s : State) (n : StageNo) (service : s.csq.phase = .service)
    (demand : (s.stage n).testDemand = true) (off : (s.stage n).on = false) :
    let u := s.moment ((s.stage n).switchTime + 1000 * (s.word 3 15).toNat)
    let may := s.available n = true ∧ s.hsc.turning = true ∧ s.interlocked = false ∧ (∀ m : StageNo, (s.stage m).test = none)
        ∧ s.stagesOn < s.effectiveCap
    (may → (∀ m : StageNo, m ≠ n → (s.stage m).testDemand = false) →
        u.settleTests.stage n = { u.stage n with
          on := true, switchTime := u.clock, offWaived := false
          test := some { baseline := s.mfe.iHeat.value, after := none } })
      ∧ (¬may → u.settleTests.stage n = u.stage n) := by
  intro u may
  have waits : u.waitsToHeat n ↔ s.available n = true := by
    have past : 1000 * (u.word 3 15).toNat ≤ u.clock - (u.stage n).switchTime := by
      simp only [u, State.elapse_word, State.elapse_clock, State.elapse_stage, Stage.elapse_frame]
      omega
    simp [State.waitsToHeat, past]
    simp [u, demand, off]
  have others : (u.csq.phase = .service ∧ u.hsc.turning = true ∧ u.interlocked = false
      ∧ (∀ m : StageNo, (u.stage m).test = none) ∧ u.stagesOn < u.effectiveCap) ↔
      s.hsc.turning = true ∧ s.interlocked = false ∧ (∀ m : StageNo, (s.stage m).test = none) ∧ s.stagesOn < s.effectiveCap := by
    simp [u, service, State.elapse_hsc]
  refine ⟨fun ⟨available, free⟩ alone => ?_, fun not => State.settleTests_stage_of_not fun starts => not ?_⟩
  · have judged := u.settleTests_judged.1 n (others.mpr free) (waits.mpr available) fun m less waiting => by
      have demanded : (s.stage m).testDemand = true := by simpa [u] using waiting.1
      rw [alone m (ne_of_lt less)] at demanded
      exact absurd demanded Bool.false_ne_true
    rw [judged]
    exact Quad.get_set_same _ n _
  · obtain ⟨waiting, free⟩ := (testMayStart_iff u n).mp starts
    have phase : u.csq.phase = .service := by simp [u, service]
    exact ⟨waits.mp waiting, others.mp ⟨phase, free⟩⟩

/-- Settles O26: the stage tests judged at the end of min_off, and after the output goes off at the end of min_on. -/
theorem testStageTimers : Obligations.TestStageTimers := by
  unfold Obligations.TestStageTimers
  intro s n on service
  refine ⟨fun demand off => ?_, fun ended isOn => ?_⟩
  · have left : s.commandLeft (.testStageMinOffExpiry n) =
        some ((s.stage n).switchTime + 1000 * (s.word 3 15).toNat - s.clock) := if_pos ⟨service, demand, by rw [off]; rfl⟩
    intro u may
    obtain ⟨comes, stands⟩ := s.minOff_ends n service demand off
    exact ⟨_, s.timed_some _ _ _ on left, u.settleTests_judged, comes, stands, u.settleTests_rest⟩
  · have left : s.commandLeft (.testStageMinOnExpiry n) =
        some ((s.stage n).switchTime + 1000 * (s.word 3 14).toNat - s.clock) := if_pos ⟨service, by rw [ended]; rfl, isOn⟩
    intro u
    have goes : u.stageOff n = u.goesOff n := u.stageOff_eq n (by simpa [u] using isOn)
    have stage : (u.goesOff n).stage n =
        { u.stage n with on := false, switchTime := u.clock, offWaived := false, test := none } := by
      rw [u.stage_goesOff, if_pos rfl]
    have stands : ¬(u.goesOff n).testMayStart n = true := fun starts => by
      obtain ⟨⟨demand, -⟩, -⟩ := (testMayStart_iff _ n).mp starts
      rw [stage] at demand
      simp [u, ended] at demand
    refine ⟨(u.stageOff n).settleTests, s.timed_some _ _ _ on left, ?_⟩
    rw [goes]
    refine ⟨State.settleTests_judged _, ?_, State.settleTests_rest _⟩
    rw [State.settleTests_stage_of_not stands, stage]

/-! ### The open-element tests that pass at a period (R90, R91) -/

/-- A test that has its reading is gone. -/
def Stage.dropRead (st : Stage) : Stage := { st with test := st.test.filter fun x => x.after.isNone }

theorem Stage.dropRead_idem (st : Stage) : st.dropRead.dropRead = st.dropRead := by
  simp [Stage.dropRead, Option.filter_filter]

/-- The state with every read test gone. -/
def State.testsRead (s : State) : State := { s with hsc := { s.hsc with stages := s.hsc.stages.map Stage.dropRead } }

@[simp] theorem State.stage_testsRead (s : State) (n : StageNo) : s.testsRead.stage n = (s.stage n).dropRead :=
  Quad.get_map ..

theorem State.setStage_stands (s : State) (n : StageNo) : s.setStage n (s.stage n) = s := by
  have stages : s.hsc.stages.set n (s.stage n) = s.hsc.stages := by fin_cases n <;> rfl
  rw [State.setStage, stages]

theorem State.judgeTest_of_passes {s : State} (passes : s.testsPass) (n : StageNo) :
    s.judgeTest n = s.setStage n (s.stage n).dropRead := by
  have stands (h : (s.stage n).dropRead = s.stage n) : s = s.setStage n (s.stage n).dropRead := by
    rw [h, s.setStage_stands]
  cases test : (s.stage n).test with
  | none =>
    rw [s.judgeTest_of_none n test]
    exact stands (by rw [Stage.dropRead, test, Option.filter_none, ← test])
  | some x =>
    cases read : x.after with
    | none =>
      rw [State.judgeTest, test]
      simp only [read]
      exact stands (by rw [Stage.dropRead, test, Option.filter_some_pos (by rw [read]; rfl), ← test])
    | some after =>
      rw [State.judgeTest_of_passed ⟨x, after, test, read, passes n x test after read⟩, Stage.dropRead, test,
        Option.filter_some_neg (by simp [read])]

theorem State.stage_setStage (s : State) (n m : StageNo) (x : Stage) :
    (s.setStage n x).stage m = if m = n then x else s.stage m := by
  split
  · next e => rw [e, State.stage_setStage_same]
  · next e => exact s.stage_setStage_other n m x e

theorem State.testsPass_dropRead {s : State} (passes : s.testsPass) (n : StageNo) :
    (s.setStage n (s.stage n).dropRead).testsPass := by
  intro m x test after read
  rw [State.stage_setStage] at test
  split at test
  · next e =>
    rw [Stage.dropRead, Option.mem_def, Option.filter_eq_some_iff, read] at test
    simp at test
  · exact passes m x test after read

/-- Tests judged one after the other: those with a reading go. -/
theorem State.foldl_judgeTest_of_passes (l : List StageNo) {s : State} (passes : s.testsPass) :
    (∀ m : StageNo, (l.foldl State.judgeTest s).stage m = if m ∈ l then (s.stage m).dropRead else s.stage m)
      ∧ l.foldl State.judgeTest s = { s with hsc := { s.hsc with stages := (l.foldl State.judgeTest s).hsc.stages } } := by
  induction l generalizing s with
  | nil => exact ⟨fun _ => rfl, rfl⟩
  | cons n ns ih =>
    obtain ⟨stage, frame⟩ := ih (State.testsPass_dropRead passes n)
    rw [List.foldl_cons, State.judgeTest_of_passes passes n]
    refine ⟨fun m => ?_, frame⟩
    rw [stage m, State.stage_setStage]
    by_cases e : m = n
    · rw [if_pos e, e, if_pos List.mem_cons_self, Stage.dropRead_idem, ite_self]
    · simp only [if_neg e, List.mem_cons, or_iff_right e]

/-- Where every test that has its reading passes, and the cap holds, the judgement takes the tests away and no more. -/
theorem State.judgeTests_of_passes {s : State} (passes : s.testsPass) (within : s.withinCap) : s.judgeTests = s.testsRead := by
  obtain ⟨stage, frame⟩ := State.foldl_judgeTest_of_passes four passes
  have all : four.foldl State.judgeTest s = s.testsRead := by
    have stages : (four.foldl State.judgeTest s).hsc.stages = s.hsc.stages.map Stage.dropRead := Quad.eq_of_get fun m => by
      rw [Quad.get_map]
      exact (stage m).trans (if_pos (mem_four m))
    rw [frame, stages, State.testsRead]
  have same : s.sameCap s.testsRead :=
    ⟨fun n => by rw [State.stage_testsRead]; exact id, fun n => by rw [State.stage_testsRead]; rfl, rfl, rfl, rfl, rfl, rfl, rfl⟩
  rw [State.judgeTests, all]
  exact State.shedToCap_of_within _ (same.withinCap within).1

/-! ### The control period, step by step (R79) -/

/-- The period up to its record: the demand, the inlet cap and the switching. -/
def State.periodSwitched (s : State) : State := s.computeDemand.updateInletCap.switchStages

/-- The period begun: the next one due, and the tests that passed gone. -/
def State.periodBegun (s : State) : State :=
  State.testsRead { s with hsc := { s.hsc with periodDue := some (s.clock + 2000) } }

theorem State.controlPeriod_of_passes {s : State} (available : s.nAvailable ≠ 0) (within : s.withinCap) (passes : s.testsPass) :
    s.controlPeriod = s.periodBegun.heatPeriod := by
  have judged := State.judgeTests_of_passes (s := { s with hsc := { s.hsc with periodDue := some (s.clock + 2000) } })
    passes within
  have some : s.periodBegun.nAvailable ≠ 0 := by
    have same (n : StageNo) : s.periodBegun.available n = s.available n :=
      State.available_congr (s := s) (t := s.periodBegun) rfl (by rw [State.periodBegun, State.stage_testsRead]; rfl)
    simp only [State.nAvailable, same]
    exact available
  rw [State.controlPeriod, judged]
  exact congrArg State.heatPeriod (if_neg fun none => some none.2)

/-- After the switching the period tells its record, and where T_exh is not in DIAG the demand. -/
theorem State.heatPeriod_observes {s : State} (no : s.periodSwitched.noHoldWatch) :
    s.periodSwitched.observes s.heatPeriod := by
  have recorded := s.periodSwitched.offerRecord_observes s.periodSwitched.heatRecord
  unfold State.heatPeriod
  dsimp only
  split
  · exact recorded
  · exact State.observes_trans recorded
      (State.offerValue_observes _ _ _ (State.noHoldWatch_of_armsLess recorded.armed no))

theorem State.heatPeriod_of_noWatch {s : State} (no : s.periodSwitched.noWatch) :
    s.heatPeriod = s.periodSwitched.offerRecord s.periodSwitched.heatRecord := by
  have recorded := s.periodSwitched.offerRecord_observes s.periodSwitched.heatRecord
  unfold State.heatPeriod
  dsimp only
  split
  · rfl
  · exact State.offerValue_of_noWatch _ _ _ (State.noWatch_of_armsLess recorded.armed no)

/-- R85, R86: the switching changes the stages alone, with what each switch marks. -/
theorem State.switchStages_rest (s : State) : s.switchStages = { s with hsc := { s.hsc with
    stages := s.switchStages.hsc.stages, lastOn := s.switchStages.hsc.lastOn, stuckArmed := s.switchStages.hsc.stuckArmed } } := by
  unfold State.switchStages
  dsimp only
  split
  · rw [(s.stagesOff_sheds _).frame]
  split
  · split <;> rfl
  · rfl

theorem State.updateInletCap_rest (s : State) : s.updateInletCap = { s with hsc := { s.hsc with
    inletCap := s.nextInletCap, stages := s.updateInletCap.hsc.stages, lastOn := s.updateInletCap.hsc.lastOn } } :=
  (State.shedToCap_sheds { s with hsc := { s.hsc with inletCap := s.nextInletCap } }).frame

/-- R80: the demand changes the integral, the demand, the stages called for and the window. -/
theorem State.computeDemand_rest (s : State) : s.computeDemand = { s with
    dry := s.computeDemand.dry
    hsc := { s.hsc with i := s.computeDemand.hsc.i, d := s.computeDemand.hsc.d, nReq := s.computeDemand.hsc.nReq } } := by
  unfold State.computeDemand
  split <;> rfl

/-- What of the period's steps stands in the end. -/
theorem State.periodSwitched_fields (s : State) : s.periodSwitched.hsc.i = s.computeDemand.hsc.i
    ∧ s.periodSwitched.hsc.d = s.computeDemand.hsc.d ∧ s.periodSwitched.hsc.nReq = s.computeDemand.hsc.nReq
    ∧ s.periodSwitched.hsc.inletCap = s.computeDemand.nextInletCap
    ∧ s.periodSwitched.hsc.periodDue = s.computeDemand.hsc.periodDue := by
  refine ⟨?_, ?_, ?_, ?_, ?_⟩ <;> rw [State.periodSwitched, State.switchStages_rest, State.updateInletCap_rest]

theorem State.periodSwitched_rest (s : State) : s.periodSwitched = { s with
    dry := s.computeDemand.dry, hsc := s.periodSwitched.hsc } := by
  apply State.ext_blocks <;> simp [State.periodSwitched]

/-! ### The demand (R80, R83) -/

theorem heatError_eq (setpoint : Nat) (t : Int) : heatError setpoint t = max (-500) (min 500 ((setpoint : Int) - t)) :=
  clampInt_eq (by decide) _

/-- R80: the integral stands where the demand is saturated in the direction of the step. -/
theorem nextIntegral_eq (i : Nat) (p step : Int) : (nextIntegral i p step : Int) =
    if 1000 < p + max 0 (min 1000 ((i : Int) + step)) ∧ 0 < step ∨ p + max 0 (min 1000 ((i : Int) + step)) < 0 ∧ step < 0
    then (i : Int) else max 0 (min 1000 ((i : Int) + step)) := by
  have cand : (0 : Int) ≤ max 0 (min 1000 ((i : Int) + step)) := by omega
  unfold nextIntegral
  dsimp only
  rw [clampInt_eq (by decide)]
  by_cases high : 1000 < p + max 0 (min 1000 ((i : Int) + step)) ∧ 0 < step
  · rw [if_pos high, if_pos (.inl high)]
  by_cases low : p + max 0 (min 1000 ((i : Int) + step)) < 0 ∧ step < 0
  · rw [if_neg high, if_pos low, if_pos (.inr low)]
  · rw [if_neg high, if_neg low, if_neg (not_or.mpr ⟨high, low⟩), Int.toNat_of_nonneg cand]

theorem demandOf_eq (p : Int) (i : Nat) : (demandOf p i : Int) = max 0 (min 1000 (p + i)) := by
  rw [demandOf, clampInt_eq (by decide), Int.toNat_of_nonneg (by omega)]

theorem Window.addDemand_eq (d : Nat) (w : Window) : w.addDemand d =
    if w.method = .demand then { w with dCount := w.dCount + 1, dSum := w.dSum + d } else w := by
  unfold Window.addDemand
  split
  · next h => rw [if_pos h]
  · next h => rw [if_neg (by rw [h]; decide)]

/-- R80 in full: with T_exh in DIAG nothing is computed. -/
theorem State.computeDemand_eq (s : State) :
    let e : Int := max (-500) (min 500 ((s.program.setpoint : Int) - s.mfe.tExh.value))
    let p : Int := Int.tdiv (((s.word 3 12).toNat : Int) * e) 16
    let step : Int := Int.tdiv (((s.word 3 13).toNat : Int) * e) 64
    let cand : Int := max 0 (min 1000 ((s.hsc.i : Int) + step))
    let t := s.computeDemand
    if s.mfe.tExh.diag then t.hsc.i = s.hsc.i ∧ t.hsc.d = s.hsc.d ∧ t.hsc.nReq = s.hsc.nReq ∧ t.dry = s.dry
    else
      (t.hsc.i : Int) = (if 1000 < p + cand ∧ 0 < step ∨ p + cand < 0 ∧ step < 0 then (s.hsc.i : Int) else cand)
        ∧ (t.hsc.d : Int) = max 0 (min 1000 (p + t.hsc.i))
        ∧ t.hsc.nReq = (t.hsc.d * s.nAvailable + 500) / 1000
        ∧ t.dry.window = s.dry.window.map (fun w =>
            if w.method = .demand then { w with dCount := w.dCount + 1, dSum := w.dSum + t.hsc.d } else w) := by
  intro e p step cand
  rw [State.computeDemand]
  by_cases diag : s.mfe.tExh.diag = true
  · simp [diag]
  · rw [if_neg diag, if_neg diag]
    have error : heatError s.program.setpoint s.mfe.tExh.value = e := heatError_eq _ _
    simp only [error]
    refine ⟨nextIntegral_eq s.hsc.i p step, demandOf_eq p _, rfl, ?_⟩
    exact congrArg (Option.map · s.dry.window) (funext fun w => w.addDemand_eq _)

/-- R83 in full. -/
theorem State.nextInletCap_eq (s : State) : s.nextInletCap =
    if s.mfe.tIn.diag then 2 else if (((s.word 3 16).toNat : Nat) : Int) ≤ s.mfe.tIn.value then s.stagesOn - 1
    else if s.mfe.tIn.value < (((s.word 3 16).toNat : Nat) : Int) - 100 then min 4 (s.hsc.inletCap + 1) else s.hsc.inletCap := rfl

theorem State.periodSwitched_watches (s : State) : s.periodSwitched.cap.watches = s.cap.watches := by
  simp [State.periodSwitched]

theorem State.stage_periodBegun (s : State) (n : StageNo) : s.periodBegun.stage n = (s.stage n).dropRead :=
  State.stage_testsRead ..

/-- A period that nothing interrupts is switched, and no more than records, values and notices follow. -/
theorem controlPeriod_made {s : State} {due : Nat} (on : s.boot ≠ .off) (no : s.noHoldWatch) (available : s.nAvailable ≠ 0)
    (within : s.withinCap) (passes : s.testsPass) (period : due ∈ s.hsc.periodDue) :
    ∃ t, exec .controlPeriod s = .next t ∧ (s.moment due).periodBegun.periodSwitched.observes t
      ∧ (s.noWatch → t = (s.moment due).periodBegun.periodSwitched.offerRecord
          (s.moment due).periodBegun.periodSwitched.heatRecord) := by
  have left : s.commandLeft .controlPeriod = some (due - s.clock) := congrArg (Option.map _) period
  refine ⟨(s.moment due).controlPeriod, s.timed_some _ _ _ on left, ?_⟩
  generalize hu : s.moment due = u
  have uAvailable : u.nAvailable ≠ 0 := by rw [← hu]; simpa [State.nAvailable] using available
  have uWithin : u.withinCap := by rw [← hu]; simpa [State.withinCap] using within
  have uPasses : u.testsPass := by
    rw [← hu]
    intro n x test after read
    rw [State.elapse_stage, (Stage.elapse_frame _ _).2.2.2.2.2.1] at test
    exact passes n x test after read
  have same : s.armsLess u.periodBegun.periodSwitched :=
    State.armsLess_of_watches (by rw [u.periodBegun.periodSwitched_watches, ← hu]; rfl)
  rw [State.controlPeriod_of_passes uAvailable uWithin uPasses]
  exact ⟨State.heatPeriod_observes (State.noHoldWatch_of_armsLess same no),
    fun silent => State.heatPeriod_of_noWatch (State.noWatch_of_armsLess same silent)⟩

/-! ### The period begun, as its demand, its cap and its switching see it -/

section Begun

variable (s : State)

theorem State.periodBegun_available (n : StageNo) : s.periodBegun.available n = s.available n :=
  State.available_congr (s := s) (t := s.periodBegun) rfl (by rw [State.stage_periodBegun]; rfl)

theorem State.periodBegun_nAvailable : s.periodBegun.nAvailable = s.nAvailable := by
  simp only [State.nAvailable, State.periodBegun_available]

theorem State.periodBegun_stagesOn : s.periodBegun.stagesOn = s.stagesOn :=
  Nat.le_antisymm (State.stagesOn_le fun m on => by rw [State.stage_periodBegun] at on; exact on)
    (State.stagesOn_le fun m on => by rw [State.stage_periodBegun]; exact on)

end Begun

theorem State.stagesOn_congr {s t : State} (h : t.hsc.stages = s.hsc.stages) : t.stagesOn = s.stagesOn := by
  rw [State.stagesOn, State.stagesOn, h]

/-- Settles O20: the demand, the inlet cap and the HEAT record of a period that nothing interrupts. -/
theorem controlPeriodDemand : Obligations.ControlPeriodDemand := by
  unfold Obligations.ControlPeriodDemand
  intro s on _ no available within passes due period u e p step cand limit
  obtain ⟨t, run, told, silent⟩ := controlPeriod_made on no available within passes period
  have frame := told.frame
  have rest := u.periodBegun.periodSwitched_rest
  obtain ⟨i, d, nReq, inletCap, periodDue⟩ := u.periodBegun.periodSwitched_fields
  have demand := u.periodBegun.computeDemand_eq
  have cap := u.periodBegun.computeDemand.nextInletCap_eq
  have counted : u.periodBegun.computeDemand.stagesOn = s.stagesOn := by
    rw [State.stagesOn_congr (s := u.periodBegun) (by rw [State.computeDemand_rest]), State.periodBegun_stagesOn]
    simp [u]
  have setpoint : u.periodBegun.program = s.program := s.elapse_program _
  have some : u.periodBegun.nAvailable = s.nAvailable := by
    rw [State.periodBegun_nAvailable]; simp [u, State.nAvailable]
  generalize hy : u.periodBegun.periodSwitched = y at *
  have hsc : t.hsc = y.hsc := by rw [frame]
  have dry : t.dry = u.periodBegun.computeDemand.dry := by rw [frame, rest]
  refine ⟨t, run, ?_, ?_, ?_, fun quiet => ?_, ?_⟩
  · rw [hsc, periodDue, State.computeDemand_rest]; rfl
  · rw [hsc, dry, i, d, nReq]
    dsimp only at demand ⊢
    rw [setpoint, some] at demand
    exact demand
  · rw [hsc, inletCap, cap, counted, State.computeDemand_rest]; rfl
  · have record : y.heatRecord = .heat t.hsc.d t.onSet t.effectiveCap s.mfe.tExh.value := by
      rw [frame, rest]; rfl
    have same : u.sameRecords y := by rw [rest]; exact State.sameRecords_of_links rfl rfl rfl rfl
    rw [← record, silent quiet]
    have all := State.sameRecords_offerRecord same y.heatRecord
    exact ⟨all.cap, all.link⟩
  · rw [frame, rest]; rfl

/-! ### The switching of a period: stages that go off (R82, R85) -/

/-- A stage that is left on has not been switched since. -/
theorem State.switchTime_stagesOff (s : State) (ns : List StageNo) (n : StageNo) (on : ((s.stagesOff ns).stage n).on = true) :
    ((s.stagesOff ns).stage n).switchTime = (s.stage n).switchTime := by
  have one (v : State) (m : StageNo) (on : ((v.stageOff m).stage n).on = true) :
      ((v.stageOff m).stage n).switchTime = (v.stage n).switchTime := by
    rw [v.stage_stageOff] at on ⊢
    split
    · rfl
    · next e =>
      rw [if_neg e] at on
      split
      · next e => rw [if_pos e] at on; exact absurd on Bool.false_ne_true
      · rw [Stage.dropUnread_eq]
  have walk : ((s.stagesOff ns).stage n).on = true →
      ((s.stagesOff ns).stage n).switchTime = (s.stage n).switchTime ∧ (s.stage n).on = true :=
    foldl_rel (R := fun s t : State => (t.stage n).on = true →
        (t.stage n).switchTime = (s.stage n).switchTime ∧ (s.stage n).on = true)
      (fun _ on => ⟨rfl, on⟩) (fun _ _ _ h h' on => ⟨((h' on).1).trans (h (h' on).2).1, (h (h' on).2).2⟩)
      (fun v m on => ⟨one v m on, (v.stageOff_sheds m).on n on⟩) ns s
  exact (walk on).1

/-- Shedding to the cap leaves as many on as the cap lets. -/
theorem State.shedToCap_stagesOn (s : State) : s.shedToCap.stagesOn = min s.stagesOn s.effectiveCap := by
  have within := s.shedToCap_within
  have cap := State.sheds_effectiveCap s.shedToCap_sheds
  have fewer := State.stagesOn_le s.shedToCap_sheds.on
  rcases s.shedToCap_full with same | full
  · rw [same] at within ⊢; omega
  · omega

/-- The three things a switching can be (R85, R86). -/
theorem State.switchStages_cases (s : State) :
    (min s.hsc.nReq s.effectiveCap < s.stagesOn ∧ s.switchStages = s.stagesOff
        ((s.mostWornOn.filter fun n => s.minOnPassed n).take (s.stagesOn - min s.hsc.nReq s.effectiveCap)))
      ∨ (∃ n : StageNo, s.stagesOn < min s.hsc.nReq s.effectiveCap ∧ s.interlocked = false ∧ s.hsc.turning = true
          ∧ s.testPending = false
          ∧ (wearOrder s.hsc.stages).find? (fun n => s.available n && !(s.stage n).on && s.minOffPassed n) = some n
          ∧ s.switchStages = s.stageOn n)
      ∨ s.stagesOn ≤ min s.hsc.nReq s.effectiveCap ∧ s.switchStages = s
          ∧ (s.stagesOn < min s.hsc.nReq s.effectiveCap → s.interlocked = false → s.hsc.turning = true →
            s.testPending = false →
            ∀ n : StageNo, ¬(s.available n = true ∧ (s.stage n).on = false ∧ s.minOffPassed n = true)) := by
  unfold State.switchStages
  dsimp only
  split
  · next above => exact .inl ⟨above, rfl⟩
  · next above =>
    right
    split
    · next may =>
      obtain ⟨below, free, turning, read⟩ := may
      split
      · next n found => exact .inl ⟨n, below, by simpa using free, turning, by simpa using read, found, rfl⟩
      · next none =>
        refine .inr ⟨Nat.le_of_lt below, rfl, fun _ _ _ _ n => ?_⟩
        have := List.find?_eq_none.mp none n ((wearOrder_perm _).mem_iff.mpr (mem_four n))
        simpa [and_assoc] using this
    · next may =>
      exact .inr ⟨Nat.le_of_not_lt above, rfl, fun below free turning read =>
        absurd ⟨below, by simpa using free, turning, by simpa using read⟩ may⟩

section Switched

variable (v : State)

/-- Once the cap has shed a stage none comes on. -/
theorem State.switched_of_shed (n : StageNo) (on : (v.stage n).on = true) (shed : (v.shedToCap.stage n).on = false) :
    (v.shedToCap.switchStages.stage n).on = false := by
  rcases v.shedToCap.switchStages_cases with ⟨-, off⟩ | ⟨m, below, -⟩ | ⟨-, same, -⟩
  · rw [off, State.on_stagesOff, shed, Bool.false_and]
  · rcases v.shedToCap_full with same | full
    · rw [same, on] at shed; exact absurd shed (by decide)
    · omega
  · rw [same]; exact shed

theorem State.switched_within : v.shedToCap.switchStages.stagesOn ≤ v.shedToCap.switchStages.effectiveCap := by
  have within := v.shedToCap_within
  rcases v.shedToCap.switchStages_cases with ⟨-, off⟩ | ⟨n, below, -, -, -, -, comes⟩ | ⟨-, same, -⟩
  · have sheds := v.shedToCap.stagesOff_sheds
      ((v.shedToCap.mostWornOn.filter fun n => v.shedToCap.minOnPassed n).take
        (v.shedToCap.stagesOn - min v.shedToCap.hsc.nReq v.shedToCap.effectiveCap))
    rw [off, State.sheds_effectiveCap sheds]
    exact Nat.le_trans (State.stagesOn_le sheds.on) within
  · have one := v.shedToCap.stagesOn_stageOn n
    rw [comes, State.effectiveCap_stageOn]
    omega
  · rw [same]; exact within

/-- Of the stages that the cap leaves on, those above the target go off, the most worn first that have been on for
min_on. -/
theorem State.switched_off_iff (n : StageNo) (on : (v.shedToCap.stage n).on = true) :
    (v.shedToCap.switchStages.stage n).on = false ↔ v.minOnPassed n = true
      ∧ four.countP (fun m => decide ((v.shedToCap.stage m).on = true ∧ v.minOnPassed m = true ∧ v.moreWorn m n))
        < min v.stagesOn v.effectiveCap - min v.hsc.nReq v.effectiveCap := by
  have sheds := v.shedToCap_sheds
  have onTime (a b : StageNo) : v.shedToCap.moreWorn a b ↔ v.moreWorn a b := by
    rw [State.moreWorn, State.moreWorn, sheds.onTime, sheds.onTime]
  have since (m : StageNo) (on : (v.shedToCap.stage m).on = true) : v.shedToCap.minOnPassed m = v.minOnPassed m := by
    have time : (v.shedToCap.stage m).switchTime = (v.stage m).switchTime := v.switchTime_stagesOff _ m on
    have setting : v.shedToCap.minOn = v.minOn := by
      rw [State.minOn, State.minOn, State.setting, State.setting, State.word, State.word, sheds.frame]
    have clock : v.shedToCap.clock = v.clock := by rw [sheds.frame]
    rw [State.minOnPassed, State.minOnPassed, time, setting, clock]
  have called : v.shedToCap.hsc.nReq = v.hsc.nReq := by rw [sheds.frame]
  have many := v.shedToCap_stagesOn
  have cap := State.sheds_effectiveCap sheds
  have asymm (a b : StageNo) (h : v.shedToCap.moreWorn a b) : ¬v.shedToCap.moreWorn b a := by
    simp only [State.moreWorn, Fin.lt_def] at *; omega
  have sorted := v.shedToCap.mostWornOn_sorted.filter fun m => v.shedToCap.minOnPassed m
  have counted : (v.shedToCap.mostWornOn.filter fun m => v.shedToCap.minOnPassed m).countP
      (fun m => decide (v.shedToCap.moreWorn m n)) =
      four.countP (fun m => decide ((v.shedToCap.stage m).on = true ∧ v.minOnPassed m = true ∧ v.moreWorn m n)) := by
    rw [List.countP_filter, State.mostWornOn_countP, (wearOrder_perm _).countP_eq]
    refine List.countP_congr fun m _ => ?_
    by_cases on : (v.shedToCap.stage m).on = true
    · simp [on, since m on, onTime, and_comm]
    · simp [on]
  rw [← counted]
  have none (k : Nat) (below : min v.stagesOn v.effectiveCap ≤ min v.hsc.nReq v.effectiveCap) :
      ¬k < min v.stagesOn v.effectiveCap - min v.hsc.nReq v.effectiveCap := by omega
  rcases v.shedToCap.switchStages_cases with ⟨above, off⟩ | ⟨m, below, -, -, -, -, comes⟩ | ⟨below, same, -⟩
  · rw [off, State.on_stagesOff, on, ← since n on, ← many, ← called, ← cap]
    by_cases passed : v.shedToCap.minOnPassed n = true
    · have listed : n ∈ v.shedToCap.mostWornOn.filter fun m => v.shedToCap.minOnPassed m :=
        List.mem_filter.mpr ⟨(State.mem_mostWornOn _ n).mpr on, passed⟩
      rw [← mem_take_iff_countP asymm sorted listed]
      simp [passed]
    · have unlisted : n ∉ (v.shedToCap.mostWornOn.filter fun m => v.shedToCap.minOnPassed m).take
          (v.shedToCap.stagesOn - min v.shedToCap.hsc.nReq v.shedToCap.effectiveCap) := fun listed =>
        passed (List.mem_filter.mp (List.mem_of_mem_take listed)).2
      simp [passed, unlisted]
  · rw [comes, State.stage_stageOn]
    have stays : ((if n = m then v.shedToCap.comesOn m else v.shedToCap.stage n).on) = true := by
      split
      · rfl
      · exact on
    rw [called, cap, many] at below
    simp [stays, none _ (Nat.le_of_lt below)]
  · rw [called, cap, many] at below
    simp [same, on, none _ below]

end Switched

/-! ### The switching of a period: the stage that comes on (R78, R86) -/

/-- What is found first in a list in order comes before all else that could be found. -/
theorem find?_first {α : Type} {R : α → α → Prop} {p : α → Bool} {l : List α} (sorted : l.Pairwise R) {x : α}
    (found : l.find? p = some x) {y : α} (hy : y ∈ l) (py : p y = true) (other : y ≠ x) : R x y := by
  obtain ⟨-, before, after, rfl, not⟩ := List.find?_eq_some_iff_append.mp found
  obtain ⟨-, rest, -⟩ := List.pairwise_append.mp sorted
  rcases List.mem_append.mp hy with early | late
  · have := not y early
    rw [py] at this
    exact absurd this (by decide)
  · exact (List.pairwise_cons.mp rest).1 y ((List.mem_cons.mp late).resolve_left other)

section Comes

variable (v : State)

theorem State.switched_effectiveCap : v.shedToCap.switchStages.effectiveCap = v.effectiveCap := by
  rw [← State.sheds_effectiveCap v.shedToCap_sheds]
  rcases v.shedToCap.switchStages_cases with ⟨-, off⟩ | ⟨n, -, -, -, -, -, comes⟩ | ⟨-, same, -⟩
  · rw [off, State.sheds_effectiveCap (State.stagesOff_sheds ..)]
  · rw [comes, State.effectiveCap_stageOn]
  · rw [same]

/-- The stage may come on at a period (R76, R86). -/
def State.mayCome (n : StageNo) : Prop :=
  v.available n = true ∧ (v.stage n).on = false ∧ v.minOffPassed n = true

/-- Where there is room under the target nothing has been shed. -/
theorem State.shedToCap_of_below (below : v.shedToCap.stagesOn < min v.shedToCap.hsc.nReq v.shedToCap.effectiveCap) :
    v.shedToCap = v := v.shedToCap_full.resolve_right fun full => by omega

/-- A stage that comes on is the least worn one that may, below the target, with no interlock and no test pending. -/
theorem State.switched_comes (n : StageNo) (off : (v.stage n).on = false)
    (on : (v.shedToCap.switchStages.stage n).on = true) :
    v.mayCome n ∧ v.stagesOn < min v.hsc.nReq v.effectiveCap ∧ v.interlocked = false ∧ v.hsc.turning = true
      ∧ v.testPending = false ∧ v.shedToCap.switchStages = v.stageOn n
      ∧ ∀ m : StageNo, v.mayCome m → m ≠ n → lessWorn v.hsc.stages n m := by
  rcases v.shedToCap.switchStages_cases with ⟨-, gone⟩ | ⟨m, below, free, turning, read, found, comes⟩ | ⟨-, same, -⟩
  · rw [gone] at on
    have was := v.shedToCap_sheds.on n ((State.stagesOff_sheds _ _).on n on)
    exact absurd (off.symm.trans was) (by decide)
  · have same := v.shedToCap_of_below below
    rw [same] at below free turning read found comes on ⊢
    obtain rfl : n = m := by
      by_contra other
      rw [comes, State.stage_stageOn, if_neg other] at on
      exact absurd (off.symm.trans on) (by decide)
    have may := List.find?_some found
    simp only [Bool.and_eq_true, Bool.not_eq_true'] at may
    refine ⟨⟨may.1.1, may.1.2, may.2⟩, below, free, turning, read, comes, fun m may other => ?_⟩
    obtain ⟨available, off, passed⟩ := may
    exact find?_first (wearOrder_sorted _) found ((wearOrder_perm _).mem_iff.mpr (mem_four m))
      (by simp [available, off, passed]) other
  · rw [same] at on
    exact absurd (off.symm.trans (v.shedToCap_sheds.on n on)) (by decide)

/-- Below the target a stage comes on where one may. -/
theorem State.switched_must (below : v.stagesOn < min v.hsc.nReq v.effectiveCap) (free : v.interlocked = false)
    (turning : v.hsc.turning = true) (read : v.testPending = false) (some : ∃ n : StageNo, v.mayCome n) :
    ∃ n : StageNo, (v.stage n).on = false ∧ (v.shedToCap.switchStages.stage n).on = true := by
  rw [State.shedToCap_of_within v (by omega)]
  rcases v.switchStages_cases with ⟨above, -⟩ | ⟨n, -, -, -, -, found, comes⟩ | ⟨-, -, none⟩
  · omega
  · have may := List.find?_some found
    simp only [Bool.and_eq_true, Bool.not_eq_true'] at may
    refine ⟨n, may.1.2, ?_⟩
    rw [comes, State.stage_stageOn, if_pos rfl]
  · obtain ⟨n, may⟩ := some
    exact absurd may (none below free turning read n)

end Comes

/-! ### The period's switching from where the period began -/

/-- The inlet cap set at a period, before the cap sheds. -/
def State.periodCapped (s : State) : State :=
  { s.computeDemand with hsc := { s.computeDemand.hsc with inletCap := s.computeDemand.nextInletCap } }

theorem State.periodSwitched_eq (s : State) : s.periodSwitched = s.periodCapped.shedToCap.switchStages := rfl

theorem State.periodCapped_rest (s : State) : s.periodCapped = { s with dry := s.computeDemand.dry, hsc := { s.hsc with
    i := s.computeDemand.hsc.i, d := s.computeDemand.hsc.d, nReq := s.computeDemand.hsc.nReq
    inletCap := s.computeDemand.nextInletCap } } := by
  rw [State.periodCapped]
  generalize s.computeDemand.nextInletCap = cap
  unfold State.computeDemand
  split <;> rfl

/-- A stage at a period is as it was, but for its remainder and a test that has passed. -/
theorem State.stage_periodCapped (s : State) (n : StageNo) : s.periodBegun.periodCapped.stage n = (s.stage n).dropRead := by
  rw [State.periodCapped_rest]; exact s.stage_periodBegun n

theorem Quad.any_eq_true {α : Type} (f : α → Bool) (q : Quad α) : q.any f = true ↔ ∃ n : Fin 4, f (q.get n) = true := by
  constructor
  · intro h
    simp only [Quad.any, Bool.or_eq_true] at h
    rcases h with ((h | h) | h) | h
    · exact ⟨0, h⟩
    · exact ⟨1, h⟩
    · exact ⟨2, h⟩
    · exact ⟨3, h⟩
  · rintro ⟨n, h⟩
    fin_cases n <;> simp_all [Quad.any, Quad.get]

theorem State.periodCapped_testPending (s : State) : s.periodBegun.periodCapped.testPending = true ↔
    ∃ n : StageNo, ∃ x ∈ (s.stage n).test, x.after = none := by
  have one (n : StageNo) : (s.periodBegun.periodCapped.stage n).test.isSome = true ↔
      ∃ x ∈ (s.stage n).test, x.after = none := by
    rw [State.stage_periodCapped, Stage.dropRead, Option.isSome_filter, Option.any_eq_true]
    simp
  rw [State.testPending, Quad.any_eq_true]
  exact exists_congr one

theorem State.periodCapped_comesOn (s : State) (n : StageNo) : s.periodBegun.periodCapped.comesOn n =
    { s.stage n with
      on := true, switchTime := s.clock, offWaived := false
      test := some { baseline := s.mfe.iHeat.value, after := none } } := by
  rw [State.comesOn, s.stage_periodCapped, State.periodCapped_rest]; rfl

section Period

variable (s : State) (k : Nat)

theorem State.periodCapped_on (n : StageNo) : ((s.elapse k).periodBegun.periodCapped.stage n).on = (s.stage n).on := by
  rw [State.stage_periodCapped]; simp [Stage.dropRead]

theorem State.periodCapped_onTime (n : StageNo) :
    ((s.elapse k).periodBegun.periodCapped.stage n).onTime = (s.stage n).onTime := by
  rw [State.stage_periodCapped]; simp [Stage.dropRead]

theorem State.periodCapped_moreWorn (m n : StageNo) :
    (s.elapse k).periodBegun.periodCapped.moreWorn m n ↔ s.moreWorn m n := by
  simp only [State.moreWorn, State.periodCapped_onTime]

theorem State.periodCapped_wearRank (n : StageNo) :
    (s.elapse k).periodBegun.periodCapped.wearRank n = s.wearRank n := by
  simp only [State.wearRank, State.periodCapped_on, State.periodCapped_moreWorn]

theorem State.periodCapped_stagesOn : (s.elapse k).periodBegun.periodCapped.stagesOn = s.stagesOn :=
  Nat.le_antisymm (State.stagesOn_le fun n on => by rwa [State.periodCapped_on] at on)
    (State.stagesOn_le fun n on => by rwa [State.periodCapped_on])

theorem State.periodCapped_interlocked : (s.elapse k).periodBegun.periodCapped.interlocked = s.interlocked := by
  rw [State.periodCapped_rest]; exact s.elapse_interlocked k

theorem State.periodCapped_clock : (s.elapse k).periodBegun.periodCapped.clock = (s.elapse k).clock := by
  rw [State.periodCapped_rest]; rfl

theorem State.periodCapped_setting (b i : Nat) : (s.elapse k).periodBegun.periodCapped.setting b i = s.setting b i := by
  rw [State.periodCapped_rest]; rfl

theorem State.periodCapped_minOnPassed (n : StageNo) : (s.elapse k).periodBegun.periodCapped.minOnPassed n = true ↔
    1000 * (s.word 3 14).toNat ≤ (s.elapse k).clock - (s.stage n).switchTime := by
  rw [State.minOnPassed, State.stage_periodCapped, State.periodCapped_clock, State.minOn, State.periodCapped_setting]
  simp [Stage.dropRead, State.setting]

theorem State.periodCapped_mayCome (n : StageNo) : (s.elapse k).periodBegun.periodCapped.mayCome n ↔
    s.available n = true ∧ (s.stage n).on = false ∧
      ((s.stage n).offWaived = true ∨ 1000 * (s.word 3 15).toNat ≤ (s.elapse k).clock - (s.stage n).switchTime) := by
  have enabled : (s.elapse k).periodBegun.periodCapped.available n = s.available n := by
    rw [State.periodCapped_rest]
    exact ((s.elapse k).periodBegun_available n).trans (s.elapse_available k n)
  rw [State.mayCome, enabled, State.periodCapped_on, State.minOffPassed, State.stage_periodCapped,
    State.periodCapped_clock, State.minOff, State.periodCapped_setting]
  simp [Stage.dropRead, State.setting]

end Period

theorem State.on_shedToCap_iff (s : State) (n : StageNo) : (s.shedToCap.stage n).on = true ↔
    (s.stage n).on = true ∧ s.stagesOn - s.effectiveCap ≤ s.wearRank n := by
  constructor
  · intro left
    have on := s.shedToCap_sheds.on n left
    refine ⟨on, Nat.le_of_not_lt fun shed => ?_⟩
    rw [(s.off_shedToCap_iff n on).mpr shed] at left
    exact absurd left (by decide)
  · rintro ⟨on, kept⟩
    by_contra off
    have := (s.off_shedToCap_iff n on).mp (Bool.eq_false_of_not_eq_true off)
    omega

/-- Settles O21: what the cap sheds, what the target dismisses, and the one stage that comes on. -/
theorem controlPeriodSwitching : Obligations.ControlPeriodSwitching := by
  unfold Obligations.ControlPeriodSwitching
  intro s boot _ no available within passes due period u
  obtain ⟨t, run, told, -⟩ := controlPeriod_made boot no available within passes period
  let v := u.periodBegun.periodCapped
  let y := v.shedToCap.switchStages
  have frame : t = { y with cap := t.cap, linkA := t.linkA, linkS := t.linkS } := told.frame
  have stage (n : StageNo) : t.stage n = y.stage n := State.stage_congr (by rw [frame]) n
  have cap : t.effectiveCap = v.effectiveCap := by rw [frame]; exact v.switched_effectiveCap
  have called : t.hsc.nReq = v.hsc.nReq := by
    rw [frame]
    exact (congrArg (·.hsc.nReq) v.shedToCap.switchStages_rest).trans (congrArg (·.hsc.nReq) v.shedToCap_sheds.frame)
  have few : t.stagesOn = y.stagesOn := State.stagesOn_congr (by rw [frame])
  refine ⟨t, run, ?_⟩
  intro target above stays mayGo goneBefore mayCome unread
  have kept (n : StageNo) : (v.shedToCap.stage n).on = true ↔ stays n := by
    rw [v.on_shedToCap_iff, s.periodCapped_on, s.periodCapped_stagesOn, s.periodCapped_wearRank, ← cap]
  have passed (n : StageNo) : v.minOnPassed n = true ↔ mayGo n := s.periodCapped_minOnPassed _ n
  have may (n : StageNo) : v.mayCome n ↔ mayCome n := s.periodCapped_mayCome _ n
  have read : v.testPending = true ↔ unread := by
    rw [u.periodCapped_testPending]; simp [u, unread]
  have many : v.stagesOn = s.stagesOn := s.periodCapped_stagesOn _
  have free : v.interlocked = s.interlocked := s.periodCapped_interlocked _
  have turning : v.hsc.turning = s.hsc.turning := congrArg (·.hsc.turning) u.periodBegun.periodCapped_rest
  have on (n : StageNo) : (v.stage n).on = (s.stage n).on := s.periodCapped_on _ n
  have worn (m n : StageNo) : v.moreWorn m n ↔ s.moreWorn m n := s.periodCapped_moreWorn _ m n
  have gone (n : StageNo) : four.countP (fun m => decide ((v.shedToCap.stage m).on = true ∧ v.minOnPassed m = true
      ∧ v.moreWorn m n)) = goneBefore n := by
    simp only [kept, passed, worn]; rfl
  refine ⟨?_, fun n isOn => ?_, fun n off comes => ?_, fun below notLocked turns none some => ?_⟩
  · rw [few, cap, ← v.switched_effectiveCap]
    exact v.switched_within
  · rw [stage]
    by_cases left : (v.shedToCap.stage n).on = true
    · obtain ⟨-, notShed⟩ := (kept n).mp left
      rw [v.switched_off_iff n left, passed, gone, many, ← cap, ← called]
      exact (or_iff_right (Nat.not_lt.mpr notShed)).symm
    · have shed : s.wearRank n < above := Nat.lt_of_not_le fun notShed => left ((kept n).mpr ⟨isOn, notShed⟩)
      exact iff_of_true (v.switched_of_shed n ((on n).trans isOn) (Bool.eq_false_of_not_eq_true left)) (.inl shed)
  · obtain ⟨can, below, notLocked, turns, idle, only, first⟩ :=
      v.switched_comes n ((on n).trans off) ((congrArg Stage.on (stage n)).symm.trans comes)
    have made (m : StageNo) : t.stage m = if m = n then v.comesOn n else v.stage m := by
      rw [stage, ← v.stage_stageOn]; exact congrArg (State.stage · m) only
    refine ⟨(may n).mp can, ?_, free.symm.trans notLocked, turning.symm.trans turns, ?_, ?_, fun m other differs => ?_,
      fun m differs => ?_⟩
    · rwa [many, ← cap, ← called] at below
    · rw [← read, idle]; decide
    · rw [made, if_pos rfl]; exact u.periodCapped_comesOn n
    · exact (worn m n).mp (first m ((may m).mpr other) differs)
    · rw [made, if_neg differs, on]
  · have idle : v.testPending = false := Bool.eq_false_of_not_eq_true fun pending => none (read.mp pending)
    obtain ⟨n, can⟩ := some
    obtain ⟨m, off, comes⟩ := v.switched_must (by rwa [many, ← cap, ← called]) (free.trans notLocked) (turning.trans turns)
      idle ⟨n, (may n).mpr can⟩
    exact ⟨m, (on m).symm.trans off, (congrArg Stage.on (stage m)).trans comes⟩

/-! ### What the drum and the tangle monitor can do to the heater, step by step (R50, R70, R89) -/

/-- A relation that whatever leaves the heater and the turning flag keeps, and the drum's and the tangle monitor's reports
to the heater. -/
structure KeptByReports (R : State → State → Prop) : Prop where
  refl : ∀ s, R s s
  trans : ∀ {s t u}, R s t → R t u → R s u
  beside : ∀ {s t : State}, t.hsc = s.hsc → t.dmc.turning = s.dmc.turning → t.clock = s.clock → t.resetTime = s.resetTime →
    t.sst = s.sst → R s t
  stops : ∀ s : State, R s s.clearTurning
  flags : ∀ s : State, R s s.refreshCapFlag

section Kept

variable {R : State → State → Prop} (kept : KeptByReports R) (s : State)

include kept

/-- A step after a change that leaves the heater and the turning flag. -/
theorem KeptByReports.after {v t : State} (h : R v t) (hsc : v.hsc = s.hsc) (turning : v.dmc.turning = s.dmc.turning)
    (clock : v.clock = s.clock) (resetTime : v.resetTime = s.resetTime) (sst : v.sst = s.sst) : R s t :=
  kept.trans (kept.beside hsc turning clock resetTime sst) h

theorem KeptByReports.enterRest (target : Motion) (empty : Bool) : R s (s.enterRest target empty) :=
  kept.after s (kept.stops _) (by simp) s.drumOff_turning (by simp) (by simp) (by simp)

theorem KeptByReports.enterStarting (d : Dir) (v : Nat) : R s (s.enterStarting d v) :=
  kept.after s (kept.stops _) rfl rfl rfl rfl rfl

theorem KeptByReports.idleDrum : R s s.idleDrum :=
  kept.after s (kept.stops _) (by simp) s.drumOff_turning (by simp) (by simp) (by simp)

theorem KeptByReports.restDrum : R s s.restDrum := by
  unfold State.restDrum
  split
  · exact kept.beside rfl rfl rfl rfl rfl
  · exact kept.enterRest s _ _

theorem KeptByReports.actStep (c : CurrentStep) : R s (s.actStep c) := by
  have step (c : CurrentStep) (r : Option Nat) : R s (s.setStep c r) := kept.beside rfl rfl rfl rfl rfl
  unfold State.actStep
  split
  · exact kept.trans (step _ _) (kept.restDrum _)
  · split
    · dsimp only
      split
      · exact kept.beside rfl rfl rfl rfl rfl
      · exact kept.trans (step _ _) (kept.enterStarting _ _ _)
    · exact kept.trans (step _ _) (kept.restDrum _)

theorem KeptByReports.beginStep (k : Nat) : R s (s.beginStep k) := by
  unfold State.beginStep
  split
  · exact kept.refl s
  · split
    · exact kept.refl s
    · exact kept.after s (kept.actStep _ _) rfl rfl rfl rfl rfl

theorem KeptByReports.startPattern (q : Nat) : R s (s.startPattern q) := by
  unfold State.startPattern
  dsimp only
  split
  · exact kept.after s (kept.restDrum _) rfl rfl rfl rfl rfl
  · exact kept.after s (kept.beginStep _ _) rfl rfl rfl rfl rfl

theorem KeptByReports.burstEnded : R s s.burstEnded := by
  unfold State.burstEnded
  split
  · exact kept.after s (kept.flags _) rfl rfl rfl rfl rfl
  · exact kept.refl s

theorem KeptByReports.abandonBurst : R s s.abandonBurst := by
  unfold State.abandonBurst
  split
  · exact kept.after s (kept.burstEnded _) rfl rfl rfl rfl rfl
  · exact kept.refl s

theorem KeptByReports.motionDemand (left entered : Phase) : R s (s.motionDemand left entered) := by
  unfold State.motionDemand
  split
  · exact kept.startPattern s _
  · exact kept.refl s
  · split
    · exact kept.startPattern s _
    · exact kept.refl s
  · exact kept.startPattern s _
  · exact kept.after s (kept.restDrum _) rfl rfl rfl rfl rfl
  · exact kept.idleDrum s
  · exact kept.idleDrum s
  · exact kept.idleDrum s
  · split
    · split
      · exact kept.startPattern s _
      · exact kept.idleDrum s
    · exact kept.idleDrum s

theorem KeptByReports.followTangle (left entered : Phase) : R s (s.followTangle left entered) := by
  unfold State.followTangle
  split
  · exact kept.beside rfl rfl rfl rfl rfl
  · exact kept.after s (kept.flags _) rfl rfl rfl rfl rfl
  · exact kept.after s (kept.flags _) rfl rfl rfl rfl rfl
  · exact kept.refl s

/-- A phase change up to the blocks that follow before the heater. -/
theorem KeptByReports.afterDrum (p : Phase) : R s (s.afterDrum p) := by
  have front : R s (s.afterFront p) := kept.beside (by simp) (by simp) (by simp) (by simp) (by simp)
  have drum (v : State) : R v (v.followDrum s.csq.phase p) :=
    kept.trans (kept.abandonBurst v) (kept.motionDemand _ _ _)
  exact kept.trans front (kept.trans (drum _) (kept.followTangle _ _ _))

end Kept

/-! ### The stages of a phase change: none comes on, no test is armed, and no mark changes (R88, R90, R91) -/

/-- From `s` to `t` no stage has come on, no test has been armed, and the OPEN marks stand. -/
structure State.armsNoStage (s t : State) : Prop where
  openMark : ∀ n : StageNo, (t.stage n).openMark = (s.stage n).openMark
  on : ∀ n : StageNo, (t.stage n).on = true → (s.stage n).on = true
  test : ∀ n : StageNo, (s.stage n).test = none → (t.stage n).test = none

theorem State.armsNoStage_of_stages {s t : State} (h : t.hsc.stages = s.hsc.stages) : s.armsNoStage t := by
  have stage (n : StageNo) : t.stage n = s.stage n := by rw [State.stage, State.stage, h]
  exact ⟨fun n => by rw [stage], fun n => by rw [stage]; exact id, fun n => by rw [stage]; exact id⟩

theorem State.armsNoStage_trans {s t u : State} (h : s.armsNoStage t) (h' : t.armsNoStage u) : s.armsNoStage u where
  openMark n := (h'.openMark n).trans (h.openMark n)
  on n := h.on n ∘ h'.on n
  test n := h'.test n ∘ h.test n

theorem State.armsNoStage_of_sheds {s t : State} (h : s.sheds t) : s.armsNoStage t := ⟨h.openMark, h.on, h.test⟩

/-- A change beside the stages, with the interlocks enforced after it. -/
theorem State.armsNoStage_enforce {s t : State} (h : t.hsc.stages = s.hsc.stages) : s.armsNoStage t.enforce :=
  State.armsNoStage_trans (State.armsNoStage_of_stages h) (State.armsNoStage_of_sheds t.enforce_sheds)

theorem State.heatTurningEnds_armsNoStage (s : State) : s.armsNoStage s.heatTurningEnds := by
  unfold State.heatTurningEnds
  dsimp only
  split
  · exact State.armsNoStage_enforce rfl
  · exact State.armsNoStage_of_stages rfl

theorem State.armsNoStage_reports : KeptByReports State.armsNoStage where
  refl _ := State.armsNoStage_of_stages rfl
  trans := State.armsNoStage_trans
  beside hsc _ _ _ _ := State.armsNoStage_of_stages (by rw [hsc])
  stops s := by
    unfold State.clearTurning
    split
    · exact State.armsNoStage_trans (t := { s with dmc := { s.dmc with turning := false } })
        (State.armsNoStage_of_stages rfl) (State.heatTurningEnds_armsNoStage _)
    · exact State.armsNoStage_of_stages rfl
  flags s := by
    unfold State.refreshCapFlag
    dsimp only
    split
    · exact State.armsNoStage_of_stages rfl
    · unfold State.setTangleCap
      dsimp only
      generalize hv : State.mk s.pending .. = v
      exact State.armsNoStage_trans (t := v) (State.armsNoStage_of_stages (by rw [← hv]))
        (State.armsNoStage_of_sheds v.shedToCap_sheds)

theorem State.followFan_armsNoStage (s : State) (p : Phase) : s.armsNoStage (s.followFan p) := by
  have on : s.armsNoStage s.fanOn := State.armsNoStage_of_stages rfl
  have off : s.armsNoStage s.fanOff := State.armsNoStage_enforce rfl
  have ends : s.armsNoStage s.fanDemandEnds := by
    unfold State.fanDemandEnds
    split
    · split
      · exact State.armsNoStage_of_stages rfl
      · exact off
    · exact State.armsNoStage_of_stages rfl
  unfold State.followFan
  split
  · exact on
  · exact on
  · exact on
  · exact on
  · exact ends
  · exact ends
  · exact ends
  · split
    · split
      · exact on
      · exact off
    · exact off
  · exact State.armsNoStage_of_stages rfl

theorem State.followHeat_armsNoStage (s : State) (left p : Phase) (h : p ≠ .service) : s.armsNoStage (s.followHeat left p) := by
  have airflow (v : State) : (v.followAirflow left p).hsc.stages = v.hsc.stages := by
    unfold State.followAirflow
    dsimp only
    repeat' split
    all_goals rfl
  rw [s.followHeat_eq left p h]
  exact State.armsNoStage_trans (State.armsNoStage_enforce (t := s.withPeriods p) rfl)
    (State.armsNoStage_trans (State.followFan_armsNoStage _ p) (State.armsNoStage_enforce (airflow _)))

theorem State.changePhase_armsNoStage (s : State) (p : Phase) (c : Cause) (h : p ≠ .service) :
    s.armsNoStage (s.changePhase p c) :=
  State.armsNoStage_trans (State.armsNoStage_reports.afterDrum s p) (State.armsNoStage_trans
    (State.followHeat_armsNoStage _ s.csq.phase p h) (State.armsNoStage_of_stages (by rw [s.changePhase_hsc])))

/-! ### A stage marked OPEN through the rest of a period (R76, R91) -/

/-- From `s` to `t` the OPEN mark of stage `n` stands; marked, off and without a test, it stays so; and its notice stays
pending. -/
structure State.sparesStage (n : StageNo) (s t : State) : Prop where
  openMark : (t.stage n).openMark = (s.stage n).openMark
  rests : (s.stage n).openMark = true → (s.stage n).on = false → (s.stage n).test = none →
    (t.stage n).on = false ∧ (t.stage n).test = none
  told : ∀ l, Notice.stage (n.val + 1) false 0 ∈ (s.link l).pending → Notice.stage (n.val + 1) false 0 ∈ (t.link l).pending

section Spares

variable (n : StageNo)

theorem State.sparesStage_of_armsNoStage {s t : State} (h : s.armsNoStage t)
    (told : ∀ l m, m.code = 5 → m ∈ (s.link l).pending → m ∈ (t.link l).pending) : s.sparesStage n t where
  openMark := h.openMark n
  rests _ off none := ⟨Bool.eq_false_of_not_eq_true fun on => Bool.false_ne_true (off.symm.trans (h.on n on)), h.test n none⟩
  told l := told l _ rfl

theorem State.sparesStage_of_stages {s t : State} (h : t.hsc.stages = s.hsc.stages)
    (told : ∀ l m, m.code = 5 → m ∈ (s.link l).pending → m ∈ (t.link l).pending) : s.sparesStage n t :=
  State.sparesStage_of_armsNoStage n (State.armsNoStage_of_stages h) told

theorem State.sparesStage_refl (s : State) : s.sparesStage n s := State.sparesStage_of_stages n rfl fun _ _ _ => id

theorem State.sparesStage_trans {s t u : State} (h : s.sparesStage n t) (h' : t.sparesStage n u) : s.sparesStage n u where
  openMark := h'.openMark.trans h.openMark
  rests marked off none := by
    obtain ⟨off', none'⟩ := h.rests marked off none
    exact h'.rests (h.openMark.trans marked) off' none'
  told l := h'.told l ∘ h.told l

theorem State.sparesStage_of_sheds {s t : State} (h : s.sheds t) : s.sparesStage n t :=
  State.sparesStage_of_armsNoStage n (State.armsNoStage_of_sheds h) fun l m _ hm => by
    rwa [State.link_congr (s := s) (by rw [h.frame]) (by rw [h.frame])]

theorem State.offerRecord_sparesStage (s : State) (r : Record) : s.sparesStage n (s.offerRecord r) :=
  State.sparesStage_of_stages n (by simp) fun l m code => (s.offerRecord_keepsNotices r).link l m (by rw [code]; decide)

theorem State.notifyBoth_sparesStage (s : State) (m : Notice) (other : m.code ≠ 5) : s.sparesStage n (s.notifyBoth m) :=
  State.sparesStage_of_stages n (by simp) fun l _ code => State.notifyBoth_keeps s (by rw [code]; exact other) l

/-- A change of the sequencer alone. -/
theorem State.sparesStage_csq (s : State) (c : Csq) : s.sparesStage n { s with csq := c } :=
  State.sparesStage_of_stages n rfl fun l _ _ => by cases l <;> exact id

theorem State.changePhase_sparesStage (s : State) (p : Phase) (c : Cause) (h : p ≠ .service) :
    s.sparesStage n (s.changePhase p c) :=
  State.sparesStage_of_armsNoStage n (s.changePhase_armsNoStage p c h) fun l m code =>
    s.changePhase_keeps p c l m (by rw [code]; decide) (by rw [code]; decide)

theorem State.endDrying_sparesStage (s : State) (r : EndReason) : s.sparesStage n (s.endDrying r) := by
  unfold State.endDrying
  split
  · exact State.sparesStage_trans n (s.sparesStage_csq n _) (State.changePhase_sparesStage n _ .cooling _ (by decide))
  · exact s.sparesStage_refl n

theorem State.takeHoldCause_sparesStage (s : State) (r : HoldReason) : s.sparesStage n (s.takeHoldCause r) := by
  have enters : s.sparesStage n (s.enterHold r) :=
    State.sparesStage_trans n (s.sparesStage_csq n _) (State.sparesStage_trans n
      (State.changePhase_sparesStage n _ .hold (.held r) (by decide)) (State.notifyBoth_sparesStage n _ _ (by simp [Notice.code])))
  unfold State.takeHoldCause
  split
  · exact enters
  · exact enters
  · exact enters
  · unfold State.joinHold
    split
    · exact s.sparesStage_refl n
    · exact State.sparesStage_trans n (s.sparesStage_csq n _)
        (State.notifyBoth_sparesStage n _ _ (by simp [Notice.code]))
  · split
    · exact s.sparesStage_refl n
    · exact State.sparesStage_trans n (s.sparesStage_csq n _) (State.changePhase_sparesStage n _ .done _ (by decide))
  all_goals exact s.sparesStage_refl n

theorem State.sparesStage_kept : KeptByWatches (State.sparesStage n) where
  refl := State.sparesStage_refl n
  trans := State.sparesStage_trans n
  judged s w c v := State.sparesStage_of_stages n rfl fun l _ _ => by cases l <;> exact id
  recorded s starts ends why r := State.sparesStage_of_stages n (by simp) fun l m code =>
    (s.offerAround_keepsNotices starts ends why r).link l m (by rw [code]; decide)
  told s l w v := State.sparesStage_of_stages n (by simp) fun l' m code =>
    s.notify_keeps l (by rw [code]; simp [Notice.code]) l'

theorem State.offerValue_sparesStage (s : State) (q : Quantity) (v : Int) : s.sparesStage n (s.offerValue q v) :=
  foldl_rel (State.sparesStage_refl n) (fun _ _ _ => State.sparesStage_trans n)
    (fun s w => s.offerTo_kept (State.sparesStage_kept n) q v w fun _ t => t.takeHoldCause_sparesStage n .watch) four s

/-- A stage marked OPEN is not available, so it does not come on. -/
theorem State.switchStages_sparesStage (s : State) : s.sparesStage n s.switchStages := by
  rcases s.switchStages_cases with ⟨-, off⟩ | ⟨m, -, -, -, -, found, comes⟩ | ⟨-, same, -⟩
  · rw [off]; exact State.sparesStage_of_sheds n (s.stagesOff_sheds _)
  · have may := List.find?_some found
    simp only [Bool.and_eq_true, Bool.not_eq_true', State.available] at may
    rw [comes]
    refine ⟨s.openMark_stageOn m n, fun marked off none => ?_, fun l => by cases l <;> exact id⟩
    rw [s.stage_stageOn, if_neg]
    · exact ⟨off, none⟩
    · rintro rfl
      rw [marked] at may
      exact absurd may.1.1.2 (by decide)
  · rw [same]; exact s.sparesStage_refl n

theorem State.heatPeriod_sparesStage (s : State) : s.sparesStage n s.heatPeriod := by
  have demand : s.sparesStage n s.computeDemand :=
    State.sparesStage_of_stages n (by rw [s.computeDemand_rest]) fun l _ _ => by
      rw [State.link_congr (s := s) (t := s.computeDemand) (by simp) (by simp) l]; exact id
  have capped (v : State) : v.sparesStage n v.updateInletCap := by
    have set : v.sparesStage n { v with hsc := { v.hsc with inletCap := v.nextInletCap } } :=
      State.sparesStage_of_stages n rfl fun l _ _ => by cases l <;> exact id
    exact State.sparesStage_trans n set (State.sparesStage_of_sheds n (State.shedToCap_sheds _))
  have switched := State.sparesStage_trans n (State.sparesStage_trans n demand (capped _)) (State.switchStages_sparesStage n _)
  unfold State.heatPeriod
  dsimp only
  have recorded := State.sparesStage_trans n switched (State.offerRecord_sparesStage n _
    (s.computeDemand.updateInletCap.switchStages).heatRecord)
  split
  · exact recorded
  · exact State.sparesStage_trans n recorded (State.offerValue_sparesStage n _ _ _)

/-- What follows the judging of a test at a period. -/
theorem State.periodGoesOn_sparesStage (s : State) : s.sparesStage n s.shedToCap.checkHeat.heatPeriod := by
  have checked (v : State) : v.sparesStage n v.checkHeat := by
    unfold State.checkHeat
    split
    · exact v.endDrying_sparesStage n _
    · exact v.sparesStage_refl n
  exact State.sparesStage_trans n (State.sparesStage_trans n (State.sparesStage_of_sheds n s.shedToCap_sheds) (checked _))
    (State.heatPeriod_sparesStage n _)

end Spares

/-! ### COOLING through the rest of a period (R79, R105) -/

/-- In COOLING the demand and the caps move no output, and the switching none on. -/
theorem State.isCooling_periodSwitched {s : State} {r : EndReason} (cooling : s.isCooling r) : s.periodSwitched.isCooling r := by
  obtain ⟨⟨phase, told⟩, endReason, off, window, period, pattern⟩ := cooling
  have rest := s.periodSwitched_rest
  obtain ⟨-, -, -, -, periodDue⟩ := s.periodSwitched_fields
  have quiet : s.periodSwitched.heatOff := fun n => by
    rw [State.periodSwitched_eq]
    refine Bool.eq_false_of_not_eq_true fun on => ?_
    have was : (s.periodCapped.stage n).on = false := by rw [s.periodCapped_rest]; exact off n
    obtain ⟨-, -, free, -⟩ := s.periodCapped.switched_comes n was on
    have locked : s.periodCapped.interlocked = true :=
      State.interlocked_of_phase _ (by rw [s.periodCapped_rest]; exact congrArg Phase.mayHeat phase)
    rw [locked] at free
    exact absurd free (by decide)
  have windowed : s.computeDemand.dry.window = none := by
    unfold State.computeDemand
    split
    · exact window
    · exact congrArg (Option.map _) window
  refine ⟨⟨?_, fun l => ?_⟩, ?_, quiet, ?_, ?_, ?_⟩
  · rw [rest]; exact phase
  · rw [State.link_congr (s := s) (by rw [rest]) (by rw [rest]) l]; exact told l
  · rw [rest]; exact endReason
  · rw [rest]; exact windowed
  · rw [periodDue, s.computeDemand_rest]; exact period
  · rw [rest]; exact pattern

theorem State.heatPeriod_onlyTells {s : State} (no : s.periodSwitched.noHoldWatch) :
    s.periodSwitched.onlyTells s.heatPeriod := by
  have recorded : s.periodSwitched.onlyTells (s.periodSwitched.offerRecord s.periodSwitched.heatRecord) :=
    ⟨State.offerRecord_observes _ _, fun l m _ capture => (State.offerRecord_keepsNotices _ _).link l m capture⟩
  unfold State.heatPeriod
  dsimp only
  split
  · exact recorded
  · exact State.onlyTells_trans recorded
      (State.offerValue_onlyTells _ _ _ (State.noHoldWatch_of_armsLess recorded.observes.armed no))

/-- A period that finds no stage available ends DRYING for want of heat, and COOLING stands to its end (R76, log entry
28). -/
theorem State.period_isCooling {s : State} (drying : s.csq.phase = .drying) (none : s.nAvailable = 0) (no : s.noHoldWatch) :
    s.checkHeat.heatPeriod.isCooling .noHeat := by
  have ends : s.checkHeat = s.endDrying .noHeat := if_pos ⟨drying, none⟩
  have cooling := State.isCooling_periodSwitched (s.endDrying_isCooling .noHeat drying)
  have watches : (s.endDrying .noHeat).periodSwitched.cap.watches = s.cap.watches := by
    rw [State.periodSwitched_watches, State.endDrying, if_pos drying, State.changePhase_watches]; rfl
  rw [ends]
  exact State.isCooling_of_onlyTells (State.heatPeriod_onlyTells
    (State.noHoldWatch_of_armsLess (State.armsLess_of_watches watches) no)) cooling

/-! ### The period with one open-element test (R90, R91) -/

/-- The state with the next period due. -/
def State.nextPeriod (s : State) : State := { s with hsc := { s.hsc with periodDue := some (s.clock + 2000) } }

@[simp] theorem State.stage_nextPeriod (s : State) (n : StageNo) : s.nextPeriod.stage n = s.stage n := rfl

theorem State.controlPeriod_eq (s : State) : s.controlPeriod = s.nextPeriod.judgeTests.checkHeat.heatPeriod := rfl

/-- With no test to judge, the period begins at the cap. -/
theorem State.controlPeriod_untested {s : State} (none : ∀ m : StageNo, (s.stage m).test = none) :
    s.controlPeriod = s.nextPeriod.shedToCap.checkHeat.heatPeriod := by
  have judged : s.nextPeriod.judgeTests = s.nextPeriod.shedToCap := by
    rw [State.judgeTests, s.nextPeriod.foldl_judgeTest_of_none four fun m _ => none m]
  rw [State.controlPeriod_eq, judged]

theorem State.controlPeriod_single {s : State} {n : StageNo} (others : ∀ m : StageNo, m ≠ n → (s.stage m).test = none) :
    s.controlPeriod = (s.nextPeriod.judgeTest n).shedToCap.checkHeat.heatPeriod := by
  rw [State.controlPeriod_eq, s.nextPeriod.judgeTests_single n others]

theorem Stage.elapse_untested (st : Stage) (k : Nat) :
    ({ st with test := none } : Stage).elapse k = { st.elapse k with test := none } := by
  unfold Stage.elapse
  split <;> rfl

/-- A test removed, and then a time in which nothing happens. -/
theorem State.elapse_untested (s : State) (n : StageNo) (k : Nat) :
    (s.setStage n { s.stage n with test := none }).elapse k =
      (s.elapse k).setStage n { (s.elapse k).stage n with test := none } := by
  have stages : ((s.setStage n { s.stage n with test := none }).elapse k).hsc.stages =
      ((s.elapse k).setStage n { (s.elapse k).stage n with test := none }).hsc.stages := Quad.eq_of_get fun m => by
    change State.stage _ m = State.stage _ m
    rw [State.elapse_stage, State.stage_setStage, State.stage_setStage]
    split
    · rw [State.elapse_stage, Stage.elapse_untested]
    · rw [State.elapse_stage]
  exact congrArg (fun q => ({ s.elapse k with hsc := { s.hsc with stages := q } } : State)) stages

/-- No time passes: in DRYING the count within its range stands with all else. -/
theorem State.elapse_zero {s : State} (drying : s.csq.phase = .drying) (counted : s.csq.dryingMs ≤ maxElapsed) :
    s.elapse 0 = s := by
  have stages : s.hsc.stages.map (Stage.elapse 0) = s.hsc.stages := Quad.eq_of_get fun m => by
    rw [Quad.get_map, Stage.elapse]
    split <;> rfl
  have csq : s.csq.elapse 0 = s.csq := by
    rw [Csq.elapse, drying]
    dsimp only
    rw [Nat.add_zero, Nat.min_eq_right counted, ← drying]
  have dmc : s.dmc.elapse 0 = s.dmc := by
    simp [Dmc.elapse]
  rw [State.elapse, stages, csq, dmc]
  rfl

theorem State.elapse_counted {s : State} (drying : s.csq.phase = .drying) (k : Nat) :
    (s.elapse k).csq.dryingMs ≤ maxElapsed := by
  simp only [State.elapse_csq, Csq.elapse, drying]
  exact Nat.min_le_left _ _

/-! ### The mark OPEN (R91) -/

section Marks

variable (s : State) (n : StageNo)

theorem State.stage_marksOpen : ((s.marksOpen n).stage n).openMark = true ∧ ((s.marksOpen n).stage n).on = false
    ∧ ((s.marksOpen n).stage n).test = none := by
  rw [State.marksOpen, State.stage_stageOff, State.stage_setStage_same]
  split
  · next off => exact ⟨rfl, off, rfl⟩
  · rw [if_pos rfl]; exact ⟨rfl, rfl, rfl⟩

/-- A stage that is on goes off, and is then marked. -/
theorem State.marksOpen_of_on (on : (s.stage n).on = true) :
    s.marksOpen n = (s.goesOff n).setStage n { (s.goesOff n).stage n with openMark := true } := by
  have off := State.stageOff_eq (s.setStage n { s.stage n with test := none, openMark := true }) n
    (by rw [State.stage_setStage_same]; exact on)
  have stages : (s.marksOpen n).hsc.stages =
      ((s.goesOff n).setStage n { (s.goesOff n).stage n with openMark := true }).hsc.stages := Quad.eq_of_get fun m => by
    change State.stage _ m = State.stage _ m
    rw [State.marksOpen, off, State.stage_goesOff, State.stage_setStage, State.stage_setStage, State.stage_goesOff,
      State.stage_goesOff]
    by_cases e : m = n
    · subst e; simp
    · simp [e]
  rw [State.marksOpen, off] at stages ⊢
  exact congrArg (fun q => ({ s with hsc := { s.hsc with stages := q, lastOn := some s.clock } } : State)) stages

end Marks

/-- The moment of a period, and nothing but the tests and the marks changed there: the period is due at once. -/
theorem State.exec_controlPeriod_now {s : State} (on : s.boot ≠ .off) (drying : s.csq.phase = .drying)
    (counted : s.csq.dryingMs ≤ maxElapsed) (due : Nat) (period : due ∈ s.hsc.periodDue) (now : due ≤ s.clock) :
    exec .controlPeriod s = .next s.controlPeriod := by
  have left : s.commandLeft .controlPeriod = some (due - s.clock) := congrArg (Option.map _) period
  rw [Nat.sub_eq_zero_of_le now] at left
  have made := s.timed_some .controlPeriod State.controlPeriod 0 on left
  rw [State.elapse_zero drying counted] at made
  exact made

/-- The state once stage `n`, which was on, has gone off and is marked OPEN, and both links are told (R91). -/
def State.goesOpen (s : State) (n : StageNo) : State :=
  ((s.goesOff n).setStage n { (s.goesOff n).stage n with openMark := true }).notifyBoth (.stage (n.val + 1) false 0)

/-- The period of that state goes on from the failed test. -/
theorem State.controlPeriod_goesOpen {s : State} {n : StageNo} (others : ∀ m : StageNo, m ≠ n → (s.stage m).test = none)
    (on : (s.stage n).on = true) : (s.goesOpen n).controlPeriod =
      ((s.nextPeriod.marksOpen n).notifyBoth (.stage (n.val + 1) false 0)).shedToCap.checkHeat.heatPeriod := by
  have untested (m : StageNo) : ((s.goesOpen n).stage m).test = none := by
    rw [State.goesOpen, State.stage_congr (s := (s.goesOff n).setStage n { (s.goesOff n).stage n with openMark := true }) (by simp), State.stage_setStage]
    split
    · rw [State.stage_goesOff, if_pos rfl]
    · next other =>
      rw [State.stage_goesOff, if_neg other, others m other]
      exact others m other
  rw [State.controlPeriod_untested untested, s.nextPeriod.marksOpen_of_on n on]
  rfl

theorem State.exec_goesOpen {s : State} (n : StageNo) (on : s.boot ≠ .off) (drying : s.csq.phase = .drying)
    (counted : s.csq.dryingMs ≤ maxElapsed) (due : Nat) (period : due ∈ s.hsc.periodDue) (now : due ≤ s.clock) :
    exec .controlPeriod (s.goesOpen n) = .next (s.goesOpen n).controlPeriod := by
  have boot : (s.goesOpen n).boot = s.boot := (State.notifyBoth_frame _ _).2.1
  have clock : (s.goesOpen n).clock = s.clock := (State.notifyBoth_frame _ _).2.2.1
  have csq : (s.goesOpen n).csq = s.csq := by simp [State.goesOpen]; rfl
  have periodDue : (s.goesOpen n).hsc.periodDue = s.hsc.periodDue := by simp [State.goesOpen]; rfl
  exact State.exec_controlPeriod_now (boot ▸ on) (csq ▸ drying) (csq ▸ counted) due (periodDue ▸ period) (clock ▸ now)

/-- Settles O22: the judgement of the one test, and the period as it goes on from there. -/
theorem openElementJudged : Obligations.OpenElementJudged := by
  unfold Obligations.OpenElementJudged
  intro s n boot drying others within test isTest after isAfter due period u
  have left : s.commandLeft .controlPeriod = some (due - s.clock) := congrArg (Option.map _) period
  have uOthers (m : StageNo) (other : m ≠ n) : (u.stage m).test = none := by
    simpa [u] using others m other
  have uTest : (u.nextPeriod.stage n).test = some test := by
    simpa [u] using isTest
  have expected : u.nextPeriod.expectedCurrent n = (s.word 3 (8 + n.val)).toNat := rfl
  have single := State.controlPeriod_single uOthers
  have goesOn := State.periodGoesOn_sparesStage n (u.nextPeriod.judgeTest n)
  refine ⟨u.controlPeriod, s.timed_some _ _ _ boot left, ?_⟩
  split
  · next passes =>
    have judged := State.judgeTest_of_passed ⟨test, after, uTest, isAfter, expected ▸ passes⟩
    rw [judged] at goesOn single
    refine ⟨?_, ?_⟩
    · rw [single, goesOn.openMark, State.stage_setStage_same]
      simp [u]
    · have untested (m : StageNo) : ((u.setStage n { u.stage n with test := none }).stage m).test = none := by
        rw [State.stage_setStage]
        split
        · rfl
        · next other => exact uOthers m other
      have made := State.timed_some (s.setStage n { s.stage n with test := none }) .controlPeriod State.controlPeriod _ boot left
      rw [State.elapse_untested, State.controlPeriod_untested untested] at made
      rw [single]
      exact made
  · next fails =>
    have judged := State.judgeTest_of_failed ⟨test, after, uTest, isAfter, expected ▸ fails⟩
    have told (m : StageNo) : ((u.nextPeriod.judgeTest n).stage m) = (u.nextPeriod.marksOpen n).stage m := by
      rw [judged]; exact State.stage_congr (by simp) m
    obtain ⟨openMark, off, untested⟩ := u.nextPeriod.stage_marksOpen n
    rw [← told] at openMark off untested
    obtain ⟨off', untested'⟩ := goesOn.rests openMark off untested
    rw [← single] at goesOn off' untested'
    refine ⟨goesOn.openMark.trans openMark, off', untested', fun l => goesOn.told l ?_, fun no alone => ?_, fun isOn => ?_⟩
    · rw [judged]; exact State.notifyBoth_tells _ _ l
    · have marks (m : StageNo) (other : m ≠ n) : ((u.nextPeriod.judgeTest n).stage m).openMark = (s.stage m).openMark := by
        rw [told, State.marksOpen, (State.stageOff_sheds _ n).openMark, State.stage_setStage_other _ _ _ _ other]
        simp [u]
      rw [single]
      refine State.period_isCooling ?_ ?_ (State.noHoldWatch_of_armsLess (s := s) (State.armsLess_of_watches ?_) no)
      · simp [State.nextPeriod, u, drying]
      · have gone (m : StageNo) : (u.nextPeriod.judgeTest n).shedToCap.available m = false := by
          by_cases e : m = n
          · rw [e, State.available, (State.shedToCap_sheds _).openMark, openMark, Bool.not_true, Bool.and_false]
          · rw [State.available_congr (s := s) (by simp [State.nextPeriod, u])
              (((State.shedToCap_sheds _).openMark m).trans (marks m e))]
            exact alone m e
        simp [State.nAvailable, gone]
      · simp [State.nextPeriod, u]
    · rw [single, judged, ← State.controlPeriod_goesOpen uOthers (by simpa [u] using isOn)]
      exact u.exec_goesOpen n boot (by simpa [u] using drying) (s.elapse_counted drying _) due period (by simp [u]; omega)

/-! ### The fan and the turning report of a phase change (R50, R89, R94, R95) -/

/-- From `s` to `t` the turning report at the heater is as it was. -/
def State.turningStands (s t : State) : Prop :=
  t.hsc.turning = s.hsc.turning ∧ t.hsc.turningEnd = s.hsc.turningEnd ∧ t.hsc.pauseDue = s.hsc.pauseDue
    ∧ t.hsc.spent = s.hsc.spent

/-- From `s` to `t` outputs have gone off at most, the fan stands, and the heater has been told of a drum that has ceased
to turn. -/
structure State.tellsHeater (s t : State) : Prop where
  now : s.switchesNow t
  fan : s.fanStands t
  turning : t.dmc.turning = s.dmc.turning ∧ s.turningStands t
    ∨ s.dmc.turning = true ∧ t.dmc.turning = false ∧ s.turningEnds t

theorem State.turningEnds_before {s t u : State} (now : s.switchesNow t) (stands : s.turningStands t) (ends : t.turningEnds u) :
    s.turningEnds u := by
  obtain ⟨-, -, -, spent⟩ := stands
  have word : t.word 3 18 = s.word 3 18 := by rw [State.word, State.word, now.sst]
  rwa [State.turningEnds, word, now.clock, spent] at ends

theorem State.turningEnds_after {s t u : State} (ends : s.turningEnds t) (stands : t.turningStands u)
    (off : t.heatOff → u.heatOff) : s.turningEnds u := by
  obtain ⟨turning, turningEnd, pauseDue, spent⟩ := stands
  obtain ⟨still, since, pause⟩ := ends
  refine ⟨turning.trans still, turningEnd.trans since, ?_⟩
  split at pause
  · next none =>
    rw [if_pos none, pauseDue, spent]
    exact ⟨pause.1, pause.2.1, off pause.2.2⟩
  · next some => rw [if_neg some, pauseDue, spent]; exact pause

theorem State.heatOff_of_switchesNow {s t : State} (h : s.switchesNow t) (off : s.heatOff) : t.heatOff := fun n => by
  rcases h.outputs with ⟨on, -⟩ | ⟨heated, -⟩
  · rw [on, off]
  · exact absurd off heated

theorem State.tellsHeater_trans {s t u : State} (h : s.tellsHeater t) (h' : t.tellsHeater u) : s.tellsHeater u where
  now := State.switchesNow_trans h.now h'.now
  fan := by
    obtain ⟨on, demand, run⟩ := h.fan
    obtain ⟨on', demand', run'⟩ := h'.fan
    exact ⟨on'.trans on, demand'.trans demand, run'.trans run⟩
  turning := by
    rcases h.turning with ⟨same, stands⟩ | ⟨turned, still, ends⟩
    · rcases h'.turning with ⟨same', stands'⟩ | ⟨turned, still, ends⟩
      · obtain ⟨turning, since, pause, spent⟩ := stands
        obtain ⟨turning', since', pause', spent'⟩ := stands'
        exact .inl ⟨same'.trans same, turning'.trans turning, since'.trans since, pause'.trans pause, spent'.trans spent⟩
      · exact .inr ⟨same.symm.trans turned, still, State.turningEnds_before h.now stands ends⟩
    · rcases h'.turning with ⟨same', stands'⟩ | ⟨turned', -⟩
      · exact .inr ⟨turned, same'.trans still, State.turningEnds_after ends stands' (State.heatOff_of_switchesNow h'.now)⟩
      · exact absurd (still.symm.trans turned') (by decide)

/-- Outputs go off, and nothing else. -/
theorem State.tellsHeater_stagesOff (s : State) (ns : List StageNo) : s.tellsHeater (s.stagesOff ns) := by
  have frame := (s.stagesOff_sheds ns).frame
  refine ⟨s.stagesOff_switchesNow ns, ?_, .inl ⟨?_, ?_⟩⟩
  · rw [frame]; exact ⟨rfl, rfl, rfl⟩
  · rw [frame]
  · rw [frame]; exact ⟨rfl, rfl, rfl, rfl⟩

/-- Outputs, fan and turning report stand. -/
theorem State.tellsHeater_of_same {s t : State} (clock : t.clock = s.clock) (resetTime : t.resetTime = s.resetTime)
    (sst : t.sst = s.sst) (turning : t.dmc.turning = s.dmc.turning) (on : ∀ n : StageNo, (t.stage n).on = (s.stage n).on)
    (lastOn : t.hsc.lastOn = s.hsc.lastOn) (stuckArmed : t.hsc.stuckArmed = s.hsc.stuckArmed) (fan : s.fanStands t)
    (stands : s.turningStands t) : s.tellsHeater t :=
  ⟨⟨clock, resetTime, sst, stuckArmed, .inl ⟨on, lastOn⟩⟩, fan, .inl ⟨turning, stands⟩⟩

theorem State.tellsHeater_of_hsc {s t : State} (hsc : t.hsc = s.hsc) (turning : t.dmc.turning = s.dmc.turning)
    (clock : t.clock = s.clock) (resetTime : t.resetTime = s.resetTime) (sst : t.sst = s.sst) : s.tellsHeater t :=
  State.tellsHeater_of_same clock resetTime sst turning (fun n => by rw [State.stage_congr hsc]) (by rw [hsc]) (by rw [hsc])
    (by rw [State.fanStands, hsc]; exact ⟨rfl, rfl, rfl⟩) (by rw [State.turningStands, hsc]; exact ⟨rfl, rfl, rfl, rfl⟩)

theorem State.enforce_tellsHeater (s : State) : s.tellsHeater s.enforce := by
  unfold State.enforce
  split
  · exact s.tellsHeater_stagesOff four
  · exact State.tellsHeater_of_hsc rfl rfl rfl rfl rfl

theorem State.heatTurningEnds_switchesNow (s : State) : s.switchesNow s.heatTurningEnds ∧ s.fanStands s.heatTurningEnds := by
  unfold State.heatTurningEnds
  dsimp only
  split
  · generalize hv : State.mk s.pending .. = v
    have enforced := v.enforce_tellsHeater
    have told : s.switchesNow v ∧ s.fanStands v := by subst hv; exact ⟨⟨rfl, rfl, rfl, rfl, .inl ⟨fun _ => rfl, rfl⟩⟩, rfl, rfl, rfl⟩
    obtain ⟨now, on, demand, run⟩ := told
    obtain ⟨on', demand', run'⟩ := enforced.fan
    exact ⟨State.switchesNow_trans now enforced.now, on'.trans on, demand'.trans demand, run'.trans run⟩
  · exact ⟨⟨rfl, rfl, rfl, rfl, .inl ⟨fun _ => rfl, rfl⟩⟩, rfl, rfl, rfl⟩

theorem State.tellsHeater_reports : KeptByReports State.tellsHeater where
  refl _ := State.tellsHeater_of_hsc rfl rfl rfl rfl rfl
  trans := State.tellsHeater_trans
  beside := State.tellsHeater_of_hsc
  stops s := by
    cases turning : s.dmc.turning with
    | false =>
      have same : s.clearTurning = s := by rw [State.clearTurning, turning]; rfl
      rw [same]
      exact State.tellsHeater_of_hsc rfl rfl rfl rfl rfl
    | true =>
      have stops := s.clearTurning_stops
      have made : s.clearTurning = State.heatTurningEnds { s with dmc := { s.dmc with turning := false } } := if_pos turning
      obtain ⟨now, fan⟩ := State.heatTurningEnds_switchesNow { s with dmc := { s.dmc with turning := false } }
      rw [← made] at now fan
      exact ⟨State.switchesNow_trans (t := { s with dmc := { s.dmc with turning := false } })
        ⟨rfl, rfl, rfl, rfl, .inl ⟨fun _ => rfl, rfl⟩⟩ now, fan, .inr ⟨turning, stops.turning, stops.ends turning⟩⟩
  flags s := by
    unfold State.refreshCapFlag
    dsimp only
    split
    · exact State.tellsHeater_of_hsc rfl rfl rfl rfl rfl
    · unfold State.setTangleCap
      dsimp only
      generalize hv : State.mk s.pending .. = v
      have capped : s.tellsHeater v := by
        subst hv
        exact State.tellsHeater_of_same rfl rfl rfl rfl (fun _ => rfl) rfl rfl ⟨rfl, rfl, rfl⟩ ⟨rfl, rfl, rfl, rfl⟩
      exact State.tellsHeater_trans capped (v.tellsHeater_stagesOff _)

/-! ### The heater in a phase change, before and after its fan -/

section Heat

variable (s : State) (left p : Phase)

/-- The heater set for the phase entered, up to its fan. -/
def State.heatSet : State := State.enforce (if p = .service then s.serviceSet else s.withPeriods p)

theorem State.followHeat_heatSet :
    s.followHeat left p = (((s.heatSet p).followFan p).followAirflow left p).enforce := by
  unfold State.heatSet
  split
  · next service => rw [service, s.followHeat_service]; rfl
  · next other => exact s.followHeat_eq left p other

theorem State.heatSet_tellsHeater : s.tellsHeater (s.heatSet p) := by
  have service : s.tellsHeater s.serviceSet :=
    State.tellsHeater_of_same rfl rfl rfl rfl (fun n => by rw [s.serviceSet_stage]) rfl rfl ⟨rfl, rfl, rfl⟩ ⟨rfl, rfl, rfl, rfl⟩
  have periods : s.tellsHeater (s.withPeriods p) :=
    State.tellsHeater_of_same rfl rfl rfl rfl (fun _ => rfl) rfl rfl ⟨rfl, rfl, rfl⟩ ⟨rfl, rfl, rfl, rfl⟩
  unfold State.heatSet
  split
  · exact State.tellsHeater_trans service (State.enforce_tellsHeater _)
  · exact State.tellsHeater_trans periods (State.enforce_tellsHeater _)

theorem State.heatSet_csq : (s.heatSet p).csq = s.csq := by
  unfold State.heatSet
  split <;> rw [(State.enforce_sheds _).frame] <;> rfl

/-- The airflow deadlines and the interlocks leave fan and turning report. -/
theorem State.followAirflow_leaves :
    s.fanStands (s.followAirflow left p).enforce ∧ s.turningStands (s.followAirflow left p).enforce := by
  rw [(State.enforce_sheds _).frame]
  unfold State.followAirflow State.turningStands
  dsimp only
  split <;> split <;> split <;> exact ⟨⟨rfl, rfl, rfl⟩, rfl, rfl, rfl, rfl⟩

theorem State.followFan_turningStands : s.turningStands (s.followFan p) := by
  have on : s.turningStands s.fanOn := ⟨rfl, rfl, rfl, rfl⟩
  have off : s.turningStands s.fanOff := by
    rw [State.turningStands, State.fanOff, (State.enforce_sheds _).frame]; exact ⟨rfl, rfl, rfl, rfl⟩
  have ends : s.turningStands s.fanDemandEnds := by
    unfold State.fanDemandEnds
    split
    · split
      · exact ⟨rfl, rfl, rfl, rfl⟩
      · exact off
    · exact ⟨rfl, rfl, rfl, rfl⟩
  cases p with
  | prep | drying | cooling | guard => exact on
  | hold | done | idle => exact ends
  | fault => rw [s.followFan_fault]; split <;> [exact on; exact off]
  | service => exact ⟨rfl, rfl, rfl, rfl⟩

/-- No output comes on with the fan and the airflow. -/
theorem State.followFan_heatOff (off : (s.heatSet p).heatOff) : (s.followHeat left p).heatOff := by
  rw [s.followHeat_heatSet left p]
  exact State.heatOff_of_onlyCools (State.onlyCools_enforce (State.onlyCools_trans (State.followFan_onlyCools _ p)
    (State.followAirflow_onlyCools _ left p))) off

end Heat

/-! ### The turning report of a phase change -/

section Change

variable (s : State) (p : Phase) (c : Cause)

theorem State.changePhase_turns : (s.changePhase p c).dmc.turning = ((s.afterDrum p).heatSet p).dmc.turning := by
  rw [s.changePhase_dmc, ← (s.afterDrum_frame p).2.2.2.2.2.2.2.1]
  unfold State.heatSet
  split <;> rw [(State.enforce_sheds _).frame] <;> rfl

theorem State.heatSet_told : s.tellsHeater ((s.afterDrum p).heatSet p) :=
  State.tellsHeater_trans (State.tellsHeater_reports.afterDrum s p) (State.heatSet_tellsHeater _ p)

theorem State.changePhase_turningFollowed : s.turningFollowed (s.changePhase p c) := by
  have told := s.heatSet_told p
  have turns := s.changePhase_turns p c
  obtain ⟨-, airflow⟩ := State.followAirflow_leaves (((s.afterDrum p).heatSet p).followFan p) s.csq.phase p
  have off := (s.afterDrum p).followFan_heatOff s.csq.phase p
  rw [← State.followHeat_heatSet] at airflow
  have fan := ((s.afterDrum p).heatSet p).followFan_turningStands p
  generalize (s.afterDrum p).heatSet p = x at *
  have stands : x.turningStands (s.changePhase p c) := by
    obtain ⟨turning, since, pause, spent⟩ := fan
    obtain ⟨turning', since', pause', spent'⟩ := airflow
    rw [State.turningStands, s.changePhase_hsc]
    exact ⟨turning'.trans turning, since'.trans since, pause'.trans pause, spent'.trans spent⟩
  have cold (heatOff : x.heatOff) : (s.changePhase p c).heatOff := State.heatOff_of_hsc (s.changePhase_hsc p c) (off heatOff)
  refine ⟨fun turned still => ?_, fun same => ?_⟩
  · rcases told.turning with ⟨same, -⟩ | ⟨-, -, ends⟩
    · rw [turns, same, turned] at still; exact absurd still (by decide)
    · exact State.turningEnds_after ends stands cold
  · rcases told.turning with ⟨-, turning, since, pause, spent⟩ | ⟨turned, still, -⟩
    · obtain ⟨turning', since', pause', spent'⟩ := stands
      exact ⟨turning'.trans turning, since'.trans since, pause'.trans pause, spent'.trans spent⟩
    · rw [turns, still, turned] at same; exact absurd same (by decide)

end Change

/-! ### The fan of a phase change (R94, R95) -/

section Fan

variable (s : State) (p : Phase) (c : Cause)

/-- The fan of a phase change is that of the phase entered, judged once the heater is set for it. -/
theorem State.changePhase_fanStands :
    (((s.afterDrum p).heatSet p).followFan p).fanStands (s.changePhase p c)
      ∧ (p ≠ .prep → (s.changePhase p c).hsc.airflow = (((s.afterDrum p).heatSet p).followFan p).hsc.airflow) := by
  obtain ⟨fan, -⟩ := State.followAirflow_leaves (((s.afterDrum p).heatSet p).followFan p) s.csq.phase p
  have airflow (v : State) (other : p ≠ .prep) : (v.followAirflow s.csq.phase p).enforce.hsc.airflow = v.hsc.airflow := by
    rw [(State.enforce_sheds _).frame]
    unfold State.followAirflow
    dsimp only
    rw [if_neg other]
    split <;> split <;> rfl
  rw [State.fanStands, s.changePhase_hsc, State.followHeat_heatSet]
  exact ⟨fan, airflow _⟩

/-- R95: an output that has gone off with the phase was on just now. -/
theorem State.recentlyHeated_iff {x : State} (told : s.tellsHeater x) (off : x.heatOff) : x.recentlyHeated = true ↔
    (∃ n : StageNo, (s.stage n).on = true) ∨ ∃ m ∈ s.hsc.lastOn, s.clock - m ≤ 60000 := by
  have last : x.lastStageOn = x.hsc.lastOn := by
    rw [State.lastStageOn, if_neg]
    rw [x.anyOn_eq_false_iff.mpr off]
    decide
  have recent : x.recentlyHeated = true ↔ ∃ m ∈ x.hsc.lastOn, s.clock - m ≤ 60000 := by
    rw [State.recentlyHeated, last, told.now.clock]
    cases x.hsc.lastOn <;> simp
  rw [recent]
  rcases told.now.outputs with ⟨on, lastOn⟩ | ⟨heated, lastOn⟩
  · rw [lastOn]
    refine (or_iff_right ?_).symm
    rintro ⟨n, isOn⟩
    rw [← on n, off n] at isOn
    exact absurd isOn (by decide)
  · rw [lastOn]
    refine iff_of_true ⟨s.clock, rfl, by simp⟩ (.inl ?_)
    by_contra none
    exact heated fun n => Bool.eq_false_of_not_eq_true fun on => none ⟨n, on⟩

/-- The fan demand ends with the phase (R95). -/
theorem State.changePhase_fanEnds (ends : p = .hold ∨ p = .done ∨ p = .idle) : s.fanEnds (s.changePhase p c) := by
  obtain ⟨⟨on, demand, run⟩, airflow⟩ := s.changePhase_fanStands p c
  have cold : p.mayHeat = false := by rcases ends with rfl | rfl | rfl <;> rfl
  have demanded (v : State) : v.followFan p = v.fanDemandEnds := by rcases ends with rfl | rfl | rfl <;> rfl
  have told := s.heatSet_told p
  have off : ((s.afterDrum p).heatSet p).heatOff := by
    refine State.enforce_heatOff _ (State.interlocked_of_phase _ ?_)
    rw [← cold]
    split <;> simp [State.serviceSet, State.withPeriods]
  have airflow := airflow (by rintro rfl; simp at ends)
  have recent := s.recentlyHeated_iff told off
  have clock := told.now.clock
  obtain ⟨on', demand', run'⟩ := told.fan
  rw [demanded] at on demand run airflow
  generalize (s.afterDrum p).heatSet p = x at *
  rw [State.fanEnds]
  cases was : s.hsc.fanDemand with
  | false =>
    have same : x.fanDemandEnds = x := by rw [State.fanDemandEnds, demand', was]; rfl
    rw [same] at on demand run
    rw [if_pos rfl]
    exact ⟨on.trans on', demand.trans demand', run.trans run'⟩
  | true =>
    rw [if_neg (by decide)]
    split
    · next heated =>
      have after : x.fanDemandEnds =
          { x with hsc := { x.hsc with fanDemand := false, afterRun := some (x.clock + 60000) } } := by
        rw [State.fanDemandEnds, if_pos (demand'.trans was), if_pos (recent.mpr heated)]
      rw [after] at on demand run
      exact ⟨on.trans on', demand, by rw [run, clock]⟩
    · next heated =>
      have stops : x.fanDemandEnds = x.fanOff := by
        rw [State.fanDemandEnds, if_pos (demand'.trans was), if_neg fun h => heated (recent.mp h)]
      rw [stops] at on demand run airflow
      obtain ⟨off, still, none, air, -⟩ := x.fanOff_fan
      exact ⟨on.trans off, demand.trans still, run.trans none, airflow.trans air⟩

/-- FAULT cools with the fan on where the stages are stuck, and stops the fan otherwise (R118). -/
theorem State.changePhase_fanFault :
    if s.csq.record.fault.map (·.kind) = some .heatStuck then (s.changePhase .fault c).fanRuns
    else (s.changePhase .fault c).fanIsOff := by
  obtain ⟨⟨on, demand, run⟩, airflow⟩ := s.changePhase_fanStands .fault c
  have airflow := airflow (by decide)
  have stuck : ((s.afterDrum .fault).heatSet .fault).csq.record.fault.any (fun f => f.kind == .heatStuck) = true ↔
      s.csq.record.fault.map (·.kind) = some .heatStuck := by
    rw [State.heatSet_csq, (s.afterDrum_frame .fault).2.2.2.2.2.2.2.2.1]
    show s.csq.record.fault.any _ = true ↔ _
    cases s.csq.record.fault <;> simp
  rw [State.followFan_fault] at on demand run airflow
  split
  · next is =>
    rw [if_pos (stuck.mpr is)] at on demand run
    exact ⟨on, demand, run⟩
  · next other =>
    rw [if_neg fun h => other (stuck.mp h)] at on demand run airflow
    obtain ⟨off, still, none, air, -⟩ := State.fanOff_fan ((s.afterDrum .fault).heatSet .fault)
    exact ⟨on.trans off, demand.trans still, run.trans none, airflow.trans air⟩

/-- SERVICE leaves the fan to its tests (R94). -/
theorem State.changePhase_fanService : s.fanStands (s.changePhase .service c) := by
  obtain ⟨⟨on, demand, run⟩, -⟩ := s.changePhase_fanStands .service c
  obtain ⟨on', demand', run'⟩ := (s.heatSet_told .service).fan
  exact ⟨on.trans on', demand.trans demand', run.trans run'⟩

/-- The fan runs in PREP, DRYING, COOLING and GUARD (R94). -/
theorem State.changePhase_fanRuns (air : p.supervisesAir = true) : (s.changePhase p c).fanRuns := by
  obtain ⟨⟨on, demand, run⟩, -⟩ := s.changePhase_fanStands p c
  have runs (v : State) : v.followFan p = v.fanOn := by
    cases p with
    | prep | drying | cooling | guard => rfl
    | hold | done | idle | fault | service => exact absurd air (by decide)
  rw [runs] at on demand run
  exact ⟨on, demand, run⟩

end Fan

/-! ### Captures that end together (R132, R148, R170) -/

/-- Capture unit `x` once it has ended for a reason. -/
def CaptureUnit.endedBy (x : CaptureUnit) (why : CaptureEnd) : CaptureUnit := { x with state := .ended, endReason := some why }

/-- On a link that waits for no block nothing is delivered: its records stand. -/
def LinkState.keepsRing (x y : LinkState) : Prop := x.posted = [] → y.ring = x.ring ∧ y.seq = x.seq ∧ y.posted = []

/-- The records of the links that wait for no block stand. -/
def State.keepsRings (s t : State) : Prop := ∀ l, (s.link l).keepsRing (t.link l)

theorem State.keepsRings_trans {s t u : State} (h : s.keepsRings t) (h' : t.keepsRings u) : s.keepsRings u :=
  fun l empty => by
    obtain ⟨ring, seq, posted⟩ := h l empty
    obtain ⟨ring', seq', posted'⟩ := h' l posted
    exact ⟨ring'.trans ring, seq'.trans seq, posted'⟩

theorem State.keepsRings_of_sameRecords {s t : State} (h : s.sameRecords t) : s.keepsRings t := fun l empty => by
  obtain ⟨seq, ring, posted⟩ := h.link l
  exact ⟨ring, seq, posted.trans empty⟩

theorem State.keepsRings_modLink (s : State) (l : Link) (f : LinkState → LinkState) (h : ∀ x : LinkState, x.keepsRing (f x)) :
    s.keepsRings (s.modLink l f) := fun m => by
  by_cases e : m = l
  · rw [e, State.link_modLink_same]; exact h _
  · rw [State.link_modLink_other _ _ _ _ e]; exact fun empty => ⟨rfl, rfl, empty⟩

theorem State.deliver_keepsRings (s : State) (l : Link) : s.keepsRings (s.deliver l) := by
  have normal : s.keepsRings (s.modLink l (·.fillNormal)) := s.keepsRings_modLink l _ fun x empty => by
    simp [LinkState.fillNormal, LinkState.withFilling, empty, Machine.fillNormal]
  unfold State.deliver
  dsimp only
  split
  · refine State.keepsRings_trans normal (State.keepsRings_modLink _ l _ fun x empty => ?_)
    simp [LinkState.withFilling, empty, fillEnd]
  · exact normal

section EndCapture

variable (s : State) (u : Fin 3) (why : CaptureEnd)

theorem State.unit_endCapture (v : Fin 3) :
    (s.endCapture u why).unit v = if v = u then (s.unit u).endedBy why else s.unit v := by
  have cap : (s.endCapture u why).cap = (s.setUnit u ((s.unit u).endedBy why)).cap := by
    unfold State.endCapture
    dsimp only
    split
    · rfl
    · simp [CaptureUnit.endedBy]
  rw [State.unit, cap]
  split
  · next e => rw [e]; exact s.unit_setUnit_same u _
  · next e => exact s.unit_setUnit_other u v _ e

theorem State.endCapture_keepsRings : s.keepsRings (s.endCapture u why) := by
  have ended : s.keepsRings (s.setUnit u ((s.unit u).endedBy why)) := fun l => by
    rw [State.link_congr (s := s) rfl rfl l]; exact fun empty => ⟨rfl, rfl, empty⟩
  unfold State.endCapture
  dsimp only
  split
  · exact ended
  · exact State.keepsRings_trans ended (State.keepsRings_trans
      (State.keepsRings_of_sameRecords (State.notify_sameRecords _ _ _)) (State.deliver_keepsRings _ _))

/-- The owner's notice is pending (R132). -/
theorem State.endCapture_tells {l : Link} (owner : (s.unit u).owner = some l) :
    Notice.capture u why (s.unit u).taken (s.unit u).skipped ∈ ((s.endCapture u why).link l).pending := by
  have told (v : State) (n : Notice) : n ∈ (((v.notify l n).deliver l).link l).pending := by
    have raised : n ∈ ((v.notify l n).link l).pending := by
      rw [State.link_notify_same, LinkState.raise_frame]; exact mem_insertNotice _ _
    have filled (w : State) (f : LinkState → List RingEntry × List Posted) (h : n ∈ (w.link l).pending) :
        n ∈ ((w.modLink l fun lk => lk.withFilling (f lk)).link l).pending := by
      rw [State.link_modLink_same]; exact h
    unfold State.deliver
    dsimp only
    split
    · exact filled _ (fun lk => fillEnd lk.ring lk.posted) (filled _ (fun lk => Machine.fillNormal lk.ring lk.posted) raised)
    · exact filled _ (fun lk => Machine.fillNormal lk.ring lk.posted) raised
  unfold State.endCapture
  dsimp only
  rw [owner]
  exact told _ _

/-- A link that does not own the unit is as before. -/
theorem State.link_endCapture {l : Link} (owner : (s.unit u).owner ≠ some l) : (s.endCapture u why).link l = s.link l := by
  have delivers (v : State) (m : Link) (other : l ≠ m) : (v.deliver m).link l = v.link l := by
    unfold State.deliver
    dsimp only
    split
    · rw [State.link_modLink_other _ _ _ _ other, State.link_modLink_other _ _ _ _ other]
    · rw [State.link_modLink_other _ _ _ _ other]
  unfold State.endCapture
  dsimp only
  split
  · exact State.link_congr rfl rfl l
  · next m owned =>
    have other : l ≠ m := fun e => owner (by rw [owned, e])
    rw [delivers _ _ other, State.link_notify_other _ _ _ _ other]
    exact State.link_congr rfl rfl l

end EndCapture

section EndCaptures

variable (p : Fin 3 → CaptureUnit → Bool) (why : CaptureEnd)

/-- One unit judged. -/
def State.endIf (s : State) (u : Fin 3) : State := if p u (s.unit u) then s.endCapture u why else s

theorem State.endCaptures_eq (s : State) : s.endCaptures p why = three.foldl (State.endIf p why) s := rfl

theorem State.unit_endIf (s : State) (u v : Fin 3) : (State.endIf p why s u).unit v =
    if v = u ∧ p u (s.unit u) = true then (s.unit u).endedBy why else s.unit v := by
  unfold State.endIf
  split
  · next ends => rw [s.unit_endCapture]; simp [ends]
  · next stands => rw [if_neg fun h => stands h.2]

/-- Each unit is judged as it stood before. -/
theorem State.unit_foldl_endIf (l : List (Fin 3)) (fresh : l.Nodup) (s : State) (v : Fin 3) :
    (l.foldl (State.endIf p why) s).unit v =
      if v ∈ l ∧ p v (s.unit v) = true then (s.unit v).endedBy why else s.unit v := by
  induction l generalizing s with
  | nil => simp
  | cons u us ih =>
    obtain ⟨other, rest⟩ := List.nodup_cons.mp fresh
    rw [List.foldl_cons, ih rest, State.unit_endIf]
    by_cases e : v = u
    · subst e
      simp [other]
    · simp [e]

theorem State.unit_endCaptures (s : State) (v : Fin 3) : (s.endCaptures p why).unit v =
    if p v (s.unit v) = true then (s.unit v).endedBy why else s.unit v := by
  have member : v ∈ three := by fin_cases v <;> decide
  rw [State.endCaptures_eq, State.unit_foldl_endIf p why three (by decide)]
  simp [member]

theorem State.endIf_keepsRings (s : State) (u : Fin 3) : s.keepsRings (State.endIf p why s u) := by
  unfold State.endIf
  split
  · exact s.endCapture_keepsRings u why
  · exact fun _ empty => ⟨rfl, rfl, empty⟩

theorem State.endCaptures_keepsRings (s : State) : s.keepsRings (s.endCaptures p why) :=
  foldl_rel (R := State.keepsRings) (fun _ _ empty => ⟨rfl, rfl, empty⟩) (fun _ _ _ => State.keepsRings_trans)
    (State.endIf_keepsRings p why) three s

/-- Units of other owners leave a link's notices. -/
theorem State.link_foldl_endIf (l : List (Fin 3)) (fresh : l.Nodup) (s : State) (m : Link)
    (others : ∀ v ∈ l, p v (s.unit v) = true → (s.unit v).owner ≠ some m) :
    (l.foldl (State.endIf p why) s).link m = s.link m := by
  induction l generalizing s with
  | nil => rfl
  | cons u us ih =>
    obtain ⟨other, rest⟩ := List.nodup_cons.mp fresh
    have one : (State.endIf p why s u).link m = s.link m := by
      unfold State.endIf
      split
      · next ends => exact s.link_endCapture u why (others u List.mem_cons_self ends)
      · rfl
    rw [List.foldl_cons, ih rest, one]
    intro v hv
    have stands : (State.endIf p why s u).unit v = s.unit v := by
      rw [State.unit_endIf, if_neg]
      rintro ⟨rfl, -⟩
      exact other hv
    rw [stands]
    exact others v (List.mem_cons_of_mem _ hv)

/-- Of the units of a link that end together the notice of the last is pending (R132, R170). -/
theorem State.endCaptures_tells (s : State) (u : Fin 3) (ends : p u (s.unit u) = true) (l : Link)
    (owner : (s.unit u).owner = some l) (last : ∀ v : Fin 3, u < v → p v (s.unit v) = true → (s.unit v).owner ≠ some l) :
    Notice.capture u why (s.unit u).taken (s.unit u).skipped ∈ ((s.endCaptures p why).link l).pending := by
  obtain ⟨before, after, all, fresh, above⟩ : ∃ before after, three = before ++ u :: after ∧ u ∉ before ∧ ∀ v ∈ after, u < v := by
    fin_cases u
    · exact ⟨[], [1, 2], rfl, by decide, by decide⟩
    · exact ⟨[0], [2], rfl, by decide, by decide⟩
    · exact ⟨[0, 1], [], rfl, by decide, by decide⟩
  have nodup : (before ++ u :: after).Nodup := all ▸ (by decide : three.Nodup)
  obtain ⟨early, late, apart⟩ := List.nodup_append.mp nodup
  have stands (v : Fin 3) (hv : v ∉ before) : (before.foldl (State.endIf p why) s).unit v = s.unit v := by
    rw [State.unit_foldl_endIf p why before early, if_neg fun h => hv h.1]
  have own := stands u fresh
  rw [State.endCaptures_eq, all, List.foldl_append, List.foldl_cons]
  generalize before.foldl (State.endIf p why) s = x at *
  have ended : State.endIf p why x u = x.endCapture u why := if_pos (by rw [own]; exact ends)
  rw [ended, State.link_foldl_endIf p why after (List.nodup_cons.mp late).2, ← own]
  · exact x.endCapture_tells u why (by rw [own]; exact owner)
  · intro v hv
    have other : v ≠ u := (above v hv).ne'
    have notBefore : v ∉ before := fun h => apart v h v (List.mem_cons_of_mem _ hv) rfl
    rw [x.unit_endCapture, if_neg other, stands v notBefore]
    exact last v (above v hv)

end EndCaptures

/-! ### The records of a phase change (R18, R19, R122, R140, R142) -/

section Records

variable (s : State) (p : Phase)

theorem State.followFront_mode : (s.followFront p).mfe.mode = p.frontMode := by
  unfold State.followFront
  cases mode : s.mfe.mode <;> cases front : p.frontMode <;> simp [mode]

/-- A contact ends with the front end's leaving of RUNNING, and its record is made (R18, R19). -/
theorem State.endContactOnLeaving_sameRecords {v : State} (same : s.sameRecords v) (contact : v.dry.contact = s.dry.contact) :
    (s.dry.contact.elim s fun x => s.offerRecord x.record).sameRecords v.endContactOnLeaving := by
  unfold State.endContactOnLeaving State.endContact
  rw [contact]
  cases s.dry.contact with
  | none => exact same
  | some x =>
    dsimp only [Option.elim]
    refine State.sameRecords_offerRecord (State.sameRecords_trans same ?_) _
    exact State.sameRecords_of_links rfl rfl rfl rfl

/-- The estimator follows a phase change with the record of the contact that it ends, and no other. -/
theorem State.afterFront_sameRecords :
    (if p = .idle ∨ p = .done then s.dry.contact.elim s fun x => s.offerRecord x.record else s).sameRecords
      (s.afterFront p) := by
  generalize hv : (if s.csq.phase = .drying then State.discardWindow (State.followFront { s with csq := s.csq.setPhase p } p)
    else State.followFront { s with csq := s.csq.setPhase p } p) = v
  have same : s.sameRecords v := by
    rw [← hv]
    split
    · exact State.sameRecords_of_links (by simp) (by simp) (by simp) (by simp)
    · exact State.sameRecords_of_links (by simp) (by simp) (by simp) (by simp)
  have contact : v.dry.contact = s.dry.contact := by
    rw [← hv]
    split
    · simp [State.discardWindow]
    · simp
  have mode : v.mfe.mode = .onRequest ↔ p = .idle ∨ p = .done := by
    have front : v.mfe.mode = p.frontMode := by
      rw [← State.followFront_mode { s with csq := s.csq.setPhase p } p, ← hv]
      split <;> simp
    rw [front]
    cases p <;> simp [Phase.frontMode]
  have windows (x : State) : x.sameRecords (if p = .drying then x.startWindow else x) := by
    split
    · exact State.sameRecords_of_links (by simp) (by simp) (by simp) (by simp)
    · exact x.sameRecords_refl
  rw [State.afterFront, State.followDry, hv]
  refine State.sameRecords_trans ?_ (windows _)
  by_cases leaves : p = .idle ∨ p = .done
  · rw [if_pos leaves, if_pos (mode.mpr leaves)]
    exact s.endContactOnLeaving_sameRecords same contact
  · rw [if_neg leaves, if_neg fun h => leaves (mode.mp h)]
    exact same

/-- The state as its PHASE record is about to be made. -/
def State.beforeRecord : State :=
  if p = .done then ((s.afterDrum p).followHeat s.csq.phase p).wearSave else (s.afterDrum p).followHeat s.csq.phase p

theorem State.beforeRecord_sameRecords : (s.afterFront p).sameRecords (s.beforeRecord p) := by
  unfold State.beforeRecord
  split <;> exact State.sameRecords_of_links (by simp [State.afterDrum]) (by simp) (by simp) (by simp)

theorem State.beforeRecord_reasons : (s.beforeRecord p).csq.reasons = s.csq.reasons := by
  unfold State.beforeRecord
  split <;> simp [Csq.setPhase]

end Records

theorem CaptureUnit.runsTo_iff (x : CaptureUnit) (stop : EndCond) : x.runsTo (· == stop) = true ↔
    x.state = .running ∧ x.config.any (fun c => c.stop == stop) = true := by
  unfold CaptureUnit.runsTo
  cases x.config <;> simp

theorem State.sameRecords_startCaptures {s t : State} (h : s.sameRecords t) (q : StartCond → Bool) :
    (s.startCaptures q).sameRecords (t.startCaptures q) := by
  refine ⟨?_, h.clock, fun l => ?_⟩
  · rw [State.startCaptures, State.startCaptures, h.cap]
  · rw [State.link_congr (s := s) (t := s.startCaptures q) rfl rfl l, State.link_congr (s := t) (t := t.startCaptures q) rfl rfl l]
    exact h.link l

/-! ### The captures of a phase change (R131, R132, R142) -/

/-- An event that ends captures on `stop` ends unit `u`, which it has left as `x` (R132). -/
def State.endsUnit (s : State) (stop : EndCond) (u : Fin 3) (x : CaptureUnit) : Bool :=
  (s.cap.units.map (·.runsTo (· == stop))).get u && x.state == .running

theorem State.endsUnit_iff (s : State) (stop : EndCond) (u : Fin 3) (x : CaptureUnit) :
    s.endsUnit stop u x = true ↔ (s.unit u).runsTo (· == stop) = true ∧ x.state = .running := by
  rw [State.endsUnit, Triple.get_map, Bool.and_eq_true, beq_iff_eq]; rfl

section Around

variable {s v : State} (h : s.sameRecords v) (start : StartCond) (stop : EndCond) (why : CaptureEnd) (r : Record)

include h

/-- Where `v` holds the records of `s`, the event's record is the same for both. -/
theorem State.sameRecords_offeredOn :
    (s.offeredOn start r).sameRecords ((v.startCaptures (· == start)).offerRecord r) := by
  rw [offeredOn_eq]
  exact State.sameRecords_offerRecord (State.sameRecords_startCaptures h _) r

theorem State.offerAround_endsAround :
    s.endsAround (s.offeredOn start r) (v.offerAround (· == start) (· == stop) why r) stop why
      ∧ (s.offeredOn start r).keepsRings (v.offerAround (· == start) (· == stop) why r) := by
  have same := State.sameRecords_offeredOn h start r
  have made : v.offerAround (· == start) (· == stop) why r =
      ((v.startCaptures (· == start)).offerRecord r).endCaptures (v.endsUnit stop) why := rfl
  rw [made]
  generalize (v.startCaptures (· == start)).offerRecord r = o' at *
  generalize s.offeredOn start r = o at *
  have unit (u : Fin 3) : o'.unit u = o.unit u := State.sameRecords_unit same u
  have ends (u : Fin 3) : v.endsUnit stop u (o'.unit u) = true ↔ s.endsOn o u stop := by
    rw [State.endsUnit_iff, State.sameRecords_unit h, CaptureUnit.runsTo_iff, unit, and_assoc]
  refine ⟨⟨fun u => ?_, fun u ended l owner last => ?_⟩,
    State.keepsRings_trans (State.keepsRings_of_sameRecords same) (State.endCaptures_keepsRings _ why o')⟩
  · rw [State.unit_endCaptures]
    simp only [ends]
    rw [unit]; rfl
  · have told := State.endCaptures_tells _ why o' u ((ends u).mpr ended) l (by rw [unit]; exact owner)
      fun w above also => by rw [unit]; exact last w above ((ends w).mp also)
    rwa [unit] at told

end Around

section Reported

variable {s before : State} (p : Phase) (c : Cause) (same : before.sameRecords (s.afterFront p))

include same

theorem State.changePhase_captures :
    let o := before.offeredOn (.phaseEntry p) (.phase s.csq.phase p c s.csq.reasons)
    before.endsAround o (s.changePhase p c) (.phaseExit s.csq.phase) .phase ∧ o.keepsRings (s.changePhase p c) := by
  intro o
  have made : s.changePhase p c = ((s.beforeRecord p).offerAround (· == .phaseEntry p) (· == .phaseExit s.csq.phase) .phase
      (.phase s.csq.phase p c s.csq.reasons)).notifyBoth (.phase p c) := by
    rw [← s.beforeRecord_reasons p]; rfl
  obtain ⟨⟨units, told⟩, rings⟩ := State.offerAround_endsAround
    (State.sameRecords_trans same (s.beforeRecord_sameRecords p)) (.phaseEntry p) (.phaseExit s.csq.phase) .phase
    (.phase s.csq.phase p c s.csq.reasons)
  rw [made]
  generalize (s.beforeRecord p).offerAround _ _ _ _ = t at *
  have noticed := t.notifyBoth_sameRecords (.phase p c)
  refine ⟨⟨fun u => ?_, fun u ended l owner last => ?_⟩,
    State.keepsRings_trans rings (State.keepsRings_of_sameRecords noticed)⟩
  · rw [State.sameRecords_unit noticed]; exact units u
  · exact State.notifyBoth_keeps _ (by simp [Notice.code]) l (told u ended l owner last)

end Reported

theorem State.offeredOn_posted {s : State} (start : StartCond) (r : Record) {l : Link} (empty : (s.link l).posted = []) :
    ((s.offeredOn start r).link l).posted = [] := by
  rw [offeredOn_eq]
  have started : ((s.startCaptures (· == start)).link l).posted = [] := by
    rw [State.link_congr (s := s) (t := s.startCaptures (· == start)) rfl rfl l]; exact empty
  exact (((State.offerRecord_recorded _ r).link l).2 started).1

/-- Settles O27: the fan, the turning report, the wear save, and the records and captures of a phase change. -/
theorem phaseChangeReported : Obligations.PhaseChangeReported := by
  unfold Obligations.PhaseChangeReported
  intro s p c t leaves before o
  have same : before.sameRecords (s.afterFront p) ∧ ∀ l, (s.link l).posted = [] → (before.link l).posted = [] := by
    have records := s.afterFront_sameRecords p
    have left : leaves = true ↔ p = .idle ∨ p = .done := by simp [leaves]
    simp only [before]
    cases ends : leaves with
    | false =>
      rw [if_neg fun h => absurd (left.mpr h) (by simp [ends])] at records
      exact ⟨records, fun _ => id⟩
    | true =>
      rw [if_pos (left.mp ends)] at records
      cases contact : s.dry.contact with
      | none =>
        rw [contact] at records
        exact ⟨records, fun _ => id⟩
      | some x =>
        rw [contact] at records
        exact ⟨records, fun l empty => (((s.offerRecord_recorded x.record).link l).2 empty).1⟩
  obtain ⟨captures, rings⟩ := State.changePhase_captures p c same.1
  refine ⟨s.changePhase_hasEntered p c, ?_, s.changePhase_turningFollowed p c, ?_, captures, fun l empty => ?_⟩
  · cases p with
    | prep | drying | cooling | guard => exact s.changePhase_fanRuns _ c rfl
    | hold | done | idle => exact s.changePhase_fanEnds _ c (by simp)
    | fault => exact s.changePhase_fanFault c
    | service => exact s.changePhase_fanService c
  · split
    · next done => subst done; exact s.changePhase_savesWear c
    · next other => exact s.changePhase_sst p c other
  · exact rings l (State.offeredOn_posted _ _ (same.2 l empty))

end Sys2Proof.Machine
